-- ==== Sys2Proof/Word.lean ====
section
/-! DEFINITION. Bytes, the frame check register, and the fixed-size families of lane and berth units. -/

namespace Sys2Proof

/-- One character of the request link (R193). -/
abbrev Byte := BitVec 8

/-- The 16-bit register of the frame check value (R195). -/
abbrev CheckWord := BitVec 16

/-- A lane unit, lanes 0 to 7. -/
abbrev LaneIx := Fin 8

/-- A berth unit, Berth 0 to Berth 3. -/
abbrev BerthIx := Fin 4

/-- One value for each of the eight lane units. -/
structure PerLane (α : Type) where
  l0 : α
  l1 : α
  l2 : α
  l3 : α
  l4 : α
  l5 : α
  l6 : α
  l7 : α
deriving DecidableEq, Repr

/-- One value for each of the four berth units. -/
structure PerBerth (α : Type) where
  b0 : α
  b1 : α
  b2 : α
  b3 : α
deriving DecidableEq, Repr

def PerLane.get {α : Type} (v : PerLane α) (i : LaneIx) : α :=
  match i.val with
  | 0 => v.l0
  | 1 => v.l1
  | 2 => v.l2
  | 3 => v.l3
  | 4 => v.l4
  | 5 => v.l5
  | 6 => v.l6
  | _ => v.l7

def PerLane.set {α : Type} (v : PerLane α) (i : LaneIx) (x : α) : PerLane α :=
  match i.val with
  | 0 => { v with l0 := x }
  | 1 => { v with l1 := x }
  | 2 => { v with l2 := x }
  | 3 => { v with l3 := x }
  | 4 => { v with l4 := x }
  | 5 => { v with l5 := x }
  | 6 => { v with l6 := x }
  | _ => { v with l7 := x }

/-- The family whose member at each lane is `f` of that lane. -/
def PerLane.tabulate {α : Type} (f : LaneIx → α) : PerLane α :=
  ⟨f 0, f 1, f 2, f 3, f 4, f 5, f 6, f 7⟩

def PerBerth.get {α : Type} (v : PerBerth α) (i : BerthIx) : α :=
  match i.val with
  | 0 => v.b0
  | 1 => v.b1
  | 2 => v.b2
  | _ => v.b3

def PerBerth.set {α : Type} (v : PerBerth α) (i : BerthIx) (x : α) : PerBerth α :=
  match i.val with
  | 0 => { v with b0 := x }
  | 1 => { v with b1 := x }
  | 2 => { v with b2 := x }
  | _ => { v with b3 := x }

/-- The eight lanes in ascending order. -/
def allLanes : List LaneIx := [0, 1, 2, 3, 4, 5, 6, 7]

/-- The four berths in ascending order. -/
def allBerths : List BerthIx := [0, 1, 2, 3]

end Sys2Proof
end

