-- ==== Sys2Proof/Config.lean ====
section
/-! DEFINITION. The fixed sizes and durations of the PG-408, and the one free value the spec leaves open. -/

namespace Sys2Proof.Config

/-- The Notice Queue holds up to 64 notices (R203). -/
def queueLimit : Nat := 64
/-- The lost count of the Notice Queue stays at 255 (R203). -/
def lostLimit : Nat := 255
/-- The Deny List holds at most 2048 numbers (R163). -/
def denyLimit : Nat := 2048
/-- A deny request carries 1 to 32 numbers (R164). -/
def denyRequestLimit : Nat := 32
/-- The Trip Journal holds at most 8 records (R169). -/
def journalLimit : Nat := 8
/-- The Recent Admission List holds at most 256 entries (R104). -/
def recentLimit : Nat := 256
/-- The onboard count stays within 0..999 (R6). -/
def onboardLimit : Nat := 999
/-- Counters in records and link statistics saturate at 65535 (R6, R208). -/
def counterLimit : Nat := 65535
/-- Trip revenue saturates at 4294967295 (R6). -/
def revenueLimit : Nat := 4294967295
/-- A frame's body is at most 480 bytes (R194). -/
def bodyLimit : Nat := 480
/-- The clear interval of a clearing lane, in ms (R36). -/
def clearInterval : Nat := 1000
/-- How long an event lights a FOLLOW lamp, in ms (R47). -/
def followPulse : Nat := 250
/-- The filter time of the emergency line, in ms (R177). -/
def lineFilterTime : Nat := 20
/-- The longest gap between characters of one frame, in ms (R196). -/
def gapLimit : Nat := 10
/-- The number of seconds of a clock day. -/
def daySeconds : Nat := 86400

/-- FREE VALUE (DESIGN CHOICE, log 3). Where the spec leaves the order of simultaneous events or notices open (R146, R153,
R171), they are taken in ascending order of this key of their draw and place. It has no body: no order can be proved of it. -/
opaque orderKey : Nat → Nat → Nat

end Sys2Proof.Config
end

