-- ==== Sys2Proof/Syntax.lean ====
section
/-! DEFINITION. The commands of the PG-408: what each host request carries, and one constructor of Instr per row of
spec/opcode_table.json. Every number is the value as carried; its width is checked by WellFormed. -/

namespace Sys2Proof

/-- A service time: a service-clock day number and a second of that day (00, Time; R199). -/
structure ServiceTime where
  day : Nat
  second : Nat
deriving DecidableEq, Repr

/-- A field with the options keep, set and remove (R199). A code above 2 is carried as `reserved`. -/
inductive ThreeWay (α : Type) where
  | keep
  | set (value : α)
  | remove
  | reserved (code : Nat)
deriving DecidableEq, Repr

/-- One lane record of SETUP (R180, R44). -/
structure LaneRecord where
  beamOrder : Nat
  filterCode : Nat
  passageTimeout : Nat
  barrierTimeout : Nat
deriving DecidableEq, Repr

/-- The fields of SETUP, in the order of R180. -/
structure SetupRequest where
  pontoonId : Nat
  lanesPresent : Nat
  berthsPresent : Nat
  lanes : List LaneRecord
  courtesyWindow : Nat
  markWindow : Nat
  dayStartOffset : Nat
  defaultMargin : Nat
  freeRunPermitted : Bool
deriving DecidableEq, Repr

/-- Segment 0 of a tariff set (R131): the fare matrix is in route-class order, four periods for each class. -/
structure FareSegment where
  generation : Nat
  matrix : List Nat
  s1 : Nat
  s2 : Nat
  s3 : Nat
deriving DecidableEq, Repr

/-- One line of the concession table (R131). -/
structure Concession where
  discount : Nat
  cap : Nat
deriving DecidableEq, Repr

/-- Segment 1 of a tariff set (R131). -/
structure ConcessionSegment where
  table : List Concession
  transferWindow : Nat
  maxTransfers : Nat
  creditLimit : Nat
deriving DecidableEq, Repr

/-- One scheme entry (R76). The kind is carried as its code: 0 NONE, 1 PURSE, 2 CARNET, 3 ALLOWANCE, 4 PASS (R199).
Route class k is accepted when the bit of weight 2^k of `routes` is 1. -/
structure SchemeEntry where
  kind : Nat
  routes : Byte
  tripsPerDay : Nat
  notify : Bool
deriving DecidableEq, Repr

/-- The contents of a TARIFF_LOAD: a segment 0, a segment 1, or sixteen scheme entries (segments 2 and 3);
`unread` for a segment number that names no layout (R134, R200). -/
inductive SegmentContents where
  | fares (seg : FareSegment)
  | concessions (seg : ConcessionSegment)
  | schemes (entries : List SchemeEntry)
  | unread
deriving DecidableEq, Repr

/-- The fields of BERTH_OPEN (R4). -/
structure OpenRequest where
  berth : Nat
  tripRef : Nat
  vessel : Nat
  routeClass : Nat
  capacity : Nat
  aboard : Nat
  departure : Option ServiceTime
  closeAtDeparture : Bool
  closeWhenFull : Bool
  margin : Option Nat
deriving DecidableEq, Repr

/-- The fields of BERTH_AMEND (R16). -/
structure AmendRequest where
  berth : Nat
  capacity : Option Nat
  departure : ThreeWay ServiceTime
  closeAtDeparture : Option Bool
  closeWhenFull : Option Bool
  margin : ThreeWay Nat
deriving DecidableEq, Repr

/-- The fields of LANE_LAMP (R48); condition and width as their codes. -/
structure LampRequest where
  lane : Nat
  condition : Nat
  width : Nat
  pulseWidth : Nat
  clearLatch : Bool
deriving DecidableEq, Repr

/-- The last boarding group (R69). -/
structure LastBoarding where
  day : Nat
  second : Nat
  pontoonId : Nat
  routeClass : Nat
  rideValue : Nat
  transferCount : Nat
deriving DecidableEq, Repr

/-- The day spend pair (R70). -/
structure DaySpend where
  day : Nat
  spent : Nat
deriving DecidableEq, Repr

/-- The kind of a product with the fields of its kind (R72). A kind code above 3 carries no field that is read (R204). -/
inductive ProductFields where
  | purse (balance : Int)
  | carnet (remaining : Nat)
  | allowance (day used : Nat)
  | pass (validFrom validUntil : Nat)
  | unknown (code : Nat)
deriving DecidableEq, Repr

/-- One product record (R72). The chain flag is the bit of weight 1 of the flags byte; its other bits are carried, since a write-back
gives the flags as presented, and are not read (R204, R205). -/
structure Product where
  slot : Nat
  scheme : Nat
  flags : Byte
  fields : ProductFields
deriving DecidableEq, Repr

/-- The chain flag of a product record (R72, R204). -/
def Product.chain (p : Product) : Bool := p.flags.getLsbD 0

/-- A credential record (R68), with the product count its layout declares (R204). Card state: 0 ACTIVE, 1 BLOCKED. -/
structure Credential where
  card : Nat
  cardState : Nat
  concession : Nat
  lastBoarding : Option LastBoarding
  daySpend : DaySpend
  productCount : Nat
  products : List Product
deriving DecidableEq, Repr

/-- A request as its owner sees it: its kind and carried fields (R198, R199, R204). `unknownKind` is a frame of a kind that is
not in the table; `badLength` a frame of a known kind whose body length the Link Controller does not accept (R200). -/
inductive Request where
  | setup (r : SetupRequest)
  | serviceStart (freeRun : Option ServiceTime)
  | serviceStop
  | egressBegin
  | egressEnd
  | restart
  | status
  | timeMark (mark : ServiceTime)
  | tariffLoad (segment : Nat) (contents : SegmentContents)
  | tariffClear
  | tariffCommit (generation : Nat) (effective : Option ServiceTime)
  | tariffCancel
  | tariffQuery
  | berthOpen (r : OpenRequest)
  | berthClose (berth : Nat)
  | berthAmend (r : AmendRequest)
  | berthQuery (berth : Nat)
  | laneAssign (lane : Nat) (berth : Option Nat)
  | laneReturn (lane : Nat)
  | laneLamp (r : LampRequest)
  | present (lane : Nat) (credential : Credential)
  | denyAdd (count : Nat) (numbers : List Nat)
  | denyRemove (count : Nat) (numbers : List Nat)
  | denyClear
  | denyCheck (card : Nat)
  | journalRead
  | journalRelease (tripRef : Nat)
  | unknownKind (kind : Nat)
  | badLength (kind : Nat) (expected : Nat)
deriving DecidableEq, Repr

/-- What the receive line delivers: a data byte, or a character error (R193). -/
inductive Character where
  | data (b : Byte)
  | error
deriving DecidableEq, Repr

/-- The input pins as read at a power-on reset: rate straps, emergency line, beams (true = blocked), barrier senses
(true = open) (00, Connections). -/
structure Pins where
  strap1 : Bool
  strap0 : Bool
  emergency : Bool
  beamA : PerLane Bool
  beamB : PerLane Bool
  sense : PerLane Bool
deriving DecidableEq, Repr

/-- The commands: one constructor per row of spec/opcode_table.json. A host request carries the tag of its frame (R194). -/
inductive Instr where
  | powerOnReset (pins : Pins)
  | setup (tag : Byte) (r : SetupRequest)
  | serviceStart (tag : Byte) (freeRun : Option ServiceTime)
  | serviceStop (tag : Byte)
  | egressBegin (tag : Byte)
  | egressEnd (tag : Byte)
  | restart (tag : Byte)
  | status (tag : Byte)
  | timeMark (tag : Byte) (mark : ServiceTime)
  | tariffLoad (tag : Byte) (segment : Nat) (contents : SegmentContents)
  | tariffClear (tag : Byte)
  | tariffCommit (tag : Byte) (generation : Nat) (effective : Option ServiceTime)
  | tariffCancel (tag : Byte)
  | tariffQuery (tag : Byte)
  | berthOpen (tag : Byte) (r : OpenRequest)
  | berthClose (tag : Byte) (berth : Nat)
  | berthAmend (tag : Byte) (r : AmendRequest)
  | berthQuery (tag : Byte) (berth : Nat)
  | laneAssign (tag : Byte) (lane : Nat) (berth : Option Nat)
  | laneReturn (tag : Byte) (lane : Nat)
  | laneLamp (tag : Byte) (r : LampRequest)
  | present (tag : Byte) (lane : Nat) (credential : Credential)
  | denyAdd (tag : Byte) (count : Nat) (numbers : List Nat)
  | denyRemove (tag : Byte) (count : Nat) (numbers : List Nat)
  | denyClear (tag : Byte)
  | denyCheck (tag : Byte) (card : Nat)
  | journalRead (tag : Byte)
  | journalRelease (tag : Byte) (tripRef : Nat)
  | unknownKind (tag : Byte) (kind : Nat)
  | receivedCharacter (c : Character)
  | frameGapTimeout
  | transmitFrameEnd
  | beamRawChange (lane : LaneIx) (blockedA blockedB : Bool)
  | beamAcceptedChange (lane : LaneIx)
  | barrierSenseChange (lane : LaneIx) (isOpen : Bool)
  | barrierTimerExpiry (lane : LaneIx)
  | passageTimerExpiry (lane : LaneIx)
  | clearTimerExpiry (lane : LaneIx)
  | lampPulseEnd (lane : LaneIx)
  | serviceTimeAdvance
  | markWindowExpiry
  | emergencyLineRawChange (asserted : Bool)
  | emergencyLineAcceptedChange
deriving DecidableEq, Repr

end Sys2Proof
end

