-- ==== Sys2Proof/WellFormed.lean ====
section
/-! DEFINITION. Which commands a frame can carry: every value fits the width R199 and R204 give its field, and no body is
longer than a frame admits (R194). -/

namespace Sys2Proof

def fits8 (n : Nat) : Bool := decide (n < 256)
def fits16 (n : Nat) : Bool := decide (n < 65536)
def fits32 (n : Nat) : Bool := decide (n < 4294967296)
/-- A number that a 4-byte two's complement field holds (R199). -/
def fitsSigned32 (n : Int) : Bool := decide (-2147483648 ≤ n) && decide (n ≤ 2147483647)

/-- The request kinds of R198. -/
def requestKinds : List Nat :=
  [0x01, 0x02, 0x03, 0x04, 0x05, 0x06, 0x07, 0x10, 0x18, 0x19, 0x1A, 0x1B, 0x1C, 0x20, 0x21, 0x22, 0x23, 0x28, 0x29, 0x2A,
   0x30, 0x38, 0x39, 0x3A, 0x3B, 0x3C, 0x3D]

def ServiceTime.fits (t : ServiceTime) : Bool := fits16 t.day && fits32 t.second

def timeFits (t : Option ServiceTime) : Bool := t.elim true ServiceTime.fits

def LaneRecord.fits (r : LaneRecord) : Bool :=
  fits8 r.beamOrder && fits8 r.filterCode && fits16 r.passageTimeout && fits16 r.barrierTimeout

def SetupRequest.fits (r : SetupRequest) : Bool :=
  fits16 r.pontoonId && fits8 r.lanesPresent && fits8 r.berthsPresent && r.lanes.all LaneRecord.fits &&
  decide (11 + 6 * r.lanes.length ≤ Config.bodyLimit) &&
  fits8 r.courtesyWindow && fits16 r.markWindow && fits16 r.dayStartOffset && fits8 r.defaultMargin

def FareSegment.fits (g : FareSegment) : Bool :=
  fits16 g.generation && g.matrix.all fits16 && decide (g.matrix.length = 32) && fits16 g.s1 && fits16 g.s2 && fits16 g.s3

def ConcessionSegment.fits (g : ConcessionSegment) : Bool :=
  g.table.all (fun c => fits8 c.discount && fits16 c.cap) && decide (g.table.length = 8) &&
  fits8 g.transferWindow && fits8 g.maxTransfers && fits16 g.creditLimit

def schemesFit (es : List SchemeEntry) : Bool :=
  es.all (fun e => fits8 e.kind && fits8 e.tripsPerDay) && decide (es.length = 16)

def SegmentContents.fits : SegmentContents → Bool
  | .fares g => g.fits
  | .concessions g => g.fits
  | .schemes es => schemesFit es
  | .unread => true

def OpenRequest.fits (r : OpenRequest) : Bool :=
  fits8 r.berth && fits32 r.tripRef && fits16 r.vessel && fits8 r.routeClass && fits16 r.capacity && fits16 r.aboard &&
  timeFits r.departure && r.margin.elim true fits8

def ThreeWay.fits {α : Type} (valueFits : α → Bool) : ThreeWay α → Bool
  | .keep => true
  | .set v => valueFits v
  | .remove => true
  | .reserved c => decide (2 < c) && fits8 c

def AmendRequest.fits (r : AmendRequest) : Bool :=
  fits8 r.berth && r.capacity.elim true fits16 && r.departure.fits ServiceTime.fits && r.margin.fits fits8

def LampRequest.fits (r : LampRequest) : Bool :=
  fits8 r.lane && fits8 r.condition && fits8 r.width && fits16 r.pulseWidth

def LastBoarding.fits (b : LastBoarding) : Bool :=
  fits16 b.day && fits32 b.second && fits16 b.pontoonId && fits8 b.routeClass && fits16 b.rideValue && fits8 b.transferCount

def ProductFields.fits : ProductFields → Bool
  | .purse b => fitsSigned32 b
  | .carnet n => fits8 n
  | .allowance d u => fits16 d && fits8 u
  | .pass f u => fits16 f && fits16 u
  | .unknown c => decide (3 < c) && fits8 c

def Product.fits (p : Product) : Bool := fits8 p.slot && fits8 p.scheme && p.fields.fits

def Credential.fits (c : Credential) : Bool :=
  fits32 c.card && fits8 c.cardState && fits8 c.concession && c.lastBoarding.elim true LastBoarding.fits &&
  fits16 c.daySpend.day && fits16 c.daySpend.spent && fits8 c.productCount && c.products.all Product.fits &&
  decide (25 + 8 * c.products.length ≤ Config.bodyLimit)

def numbersFit (count : Nat) (numbers : List Nat) : Bool :=
  fits8 count && numbers.all fits32 && decide (1 + 4 * numbers.length ≤ Config.bodyLimit)

/-- Whether the command can reach the controller: every carried value fits its field. -/
def Instr.wellFormed : Instr → Bool
  | .powerOnReset _ => true
  | .setup _ r => r.fits
  | .serviceStart _ t => timeFits t
  | .serviceStop _ => true
  | .egressBegin _ => true
  | .egressEnd _ => true
  | .restart _ => true
  | .status _ => true
  | .timeMark _ t => t.fits
  | .tariffLoad _ n c => fits8 n && c.fits && (decide (n ≤ 3) || decide (c = .unread))
  | .tariffClear _ => true
  | .tariffCommit _ g t => fits16 g && timeFits t
  | .tariffCancel _ => true
  | .tariffQuery _ => true
  | .berthOpen _ r => r.fits
  | .berthClose _ b => fits8 b
  | .berthAmend _ r => r.fits
  | .berthQuery _ b => fits8 b
  | .laneAssign _ l b => fits8 l && b.elim true (fun n => decide (n < 255))
  | .laneReturn _ l => fits8 l
  | .laneLamp _ r => r.fits
  | .present _ l c => fits8 l && c.fits
  | .denyAdd _ n xs => numbersFit n xs
  | .denyRemove _ n xs => numbersFit n xs
  | .denyClear _ => true
  | .denyCheck _ c => fits32 c
  | .journalRead _ => true
  | .journalRelease _ r => fits32 r
  | .unknownKind _ k => fits8 k && !requestKinds.contains k
  | .receivedCharacter _ => true
  | .frameGapTimeout => true
  | .transmitFrameEnd => true
  | .beamRawChange _ _ _ => true
  | .beamAcceptedChange _ => true
  | .barrierSenseChange _ _ => true
  | .barrierTimerExpiry _ => true
  | .passageTimerExpiry _ => true
  | .clearTimerExpiry _ => true
  | .lampPulseEnd _ => true
  | .serviceTimeAdvance => true
  | .markWindowExpiry => true
  | .emergencyLineRawChange _ => true
  | .emergencyLineAcceptedChange => true

end Sys2Proof
end

