-- ==== Sys2Proof/Decode.lean ====
section
/-! DEFINITION. The command a word spells. spec/opcode_table.json gives no row of this block any bits ("fields": [] in every
row), so no word spells a command; the byte layouts of the request link are read in Machine/Parse.lean. -/

namespace Sys2Proof

/-- The command spelt by a word of the opcode table's bits: none, since no row has bits. -/
def decodeTableWord (_nbits _w : Nat) : Option Instr := none

end Sys2Proof
end

