-- ==== Sys2Proof/Machine/State.lean ====
section
/-! DEFINITION. The state of the controller as plain data: every piece of state the chapters give its blocks, with the values
of the power-on reset, and the queue of waiting commands. -/

namespace Sys2Proof.Machine

open Sys2Proof

/-! ### Named values (each list is in the order of its owning rule, which is also its wire code, R199) -/

/-- Pontoon states (R177). -/
inductive PontoonState where
  | config | outOfService | inService | egress
deriving DecidableEq, Repr

/-- Causes of a PONTOON_STATE notice (R178). -/
inductive PontoonCause where
  | setup | start | stop | egressBegin | egressEnd
deriving DecidableEq, Repr

/-- Time states (R148). -/
inductive TimeState where
  | unset | synced | degraded
deriving DecidableEq, Repr

/-- Causes of a TIME_STATE notice (R153). -/
inductive TimeCause where
  | mark | window | freeRun
deriving DecidableEq, Repr

/-- Directions of a TIME_STEP notice (R152). -/
inductive StepDirection where
  | forward | backward
deriving DecidableEq, Repr

/-- Causes of a TARIFF_CANCELLED notice (R142). -/
inductive CancelCause where
  | request | time | restart
deriving DecidableEq, Repr

/-- Berth states (R1). -/
inductive BerthState where
  | vacant | opened | closing | departed
deriving DecidableEq, Repr

/-- The states of a berth that holds a trip (R1). -/
inductive TripPhase where
  | opened | closing | departed
deriving DecidableEq, Repr

/-- Close causes (R2). -/
inductive CloseCause where
  | request | departureTime | full
deriving DecidableEq, Repr

/-- Fill levels (R8; codes fixed by R199). -/
inductive FillLevel where
  | room | near | full | overfull
deriving DecidableEq, Repr

/-- Lane states (R27). -/
inductive LaneState where
  | off | closed | opening | opened | clearing | closing | fault | egress
deriving DecidableEq, Repr

/-- Fault causes of a lane (R27). -/
inductive LaneFaultCause where
  | openTimeout | closeTimeout | forced
deriving DecidableEq, Repr

/-- Beam orders (R51). -/
inductive BeamOrder where
  | normal | swapped
deriving DecidableEq, Repr

/-- Pair states of a passage decoder (R52). -/
inductive PairState where
  | clear | outerOnly | both | innerOnly
deriving DecidableEq, Repr

/-- Entry and exit sides of a movement (R52, R56). -/
inductive EntrySide where
  | outer | inner | unknown
deriving DecidableEq, Repr

/-- The side of a single-side pair state (R52). -/
inductive Side where
  | outer | inner
deriving DecidableEq, Repr

/-- Classes of a movement (R56). -/
inductive Movement where
  | forward | reverse | balk | ambiguous
deriving DecidableEq, Repr

/-- Directions of a PASSAGE notice (R61). -/
inductive Direction where
  | forward | reverse
deriving DecidableEq, Repr

/-- Passage classes (R60; codes fixed by R199). -/
inductive PassageClass where
  | paid | unpaid | stray | egress
deriving DecidableEq, Repr

/-- Causes of a void (R12, R35). -/
inductive VoidCause where
  | timeout | fault | egress
deriving DecidableEq, Repr

/-- Admission kinds (R29; codes R206). -/
inductive AdmissionKind where
  | purse | carnet | allowance | pass | courtesy
deriving DecidableEq, Repr

/-- States of an entry of the Recent Admission List (R104; codes R205). -/
inductive EntryState where
  | held | passed | void
deriving DecidableEq, Repr

/-- Lamp conditions (R46). -/
inductive LampCondition where
  | off | on | laneOpen | admission | refuse | berthNear | berthFull | berthClosing | fault | egress
deriving DecidableEq, Repr

/-- Lamp widths (R47). -/
inductive LampWidth where
  | follow | pulse | latched
deriving DecidableEq, Repr

/-- Phase of an EGRESS notice (R186). -/
inductive EgressPhase where
  | begins | ends
deriving DecidableEq, Repr

/-- Cause of an EGRESS notice (R186). -/
inductive EgressCause where
  | line | request
deriving DecidableEq, Repr

/-- Reasons of a REFUSE decision (R103; codes R206). -/
inductive Reason where
  | notInService | laneUnavailable | laneBusy | berthNotBoarding | cardFormat | cardBlocked | denied | inProgress
  | passback | full | noProduct | insufficient | carnetEmpty | allowanceUsed
deriving DecidableEq, Repr

/-- Result codes (R201). -/
inductive ResultCode where
  | ok | okClamped | redundant | unknownKind | format | range | state | busy | pending | incomplete | mismatch | notFound
  | noTariff | timeNotSynced | berthsActive
deriving DecidableEq, Repr

/-! ### Trip records and berths (01) -/

/-- The latched trip flags (R7). -/
structure TripFlags where
  near : Bool
  full : Bool
  overfull : Bool
  underflow : Bool
  overflow : Bool
deriving DecidableEq, Repr

/-- The counts of a trip (R6). -/
structure Counts where
  onboard : Nat
  holds : Nat
  forward : Nat
  reverse : Nat
  paidPurse : Nat
  paidCarnet : Nat
  paidAllowance : Nat
  paidPass : Nat
  courtesy : Nat
  unpaid : Nat
  egress : Nat
  ambiguous : Nat
  voids : Nat
  refusals : Nat
  revenue : Nat
deriving DecidableEq, Repr

/-- The trip context: what the host gave at BERTH_OPEN, as amended (R4, R5, R17). -/
structure TripContext where
  tripRef : Nat
  vessel : Nat
  routeClass : Nat
  capacity : Nat
  aboard : Nat
  departure : Option ServiceTime
  closeAtDeparture : Bool
  closeWhenFull : Bool
  margin : Option Nat
deriving DecidableEq, Repr

/-- A trip record (R23). -/
structure TripRecord where
  berth : BerthIx
  tripRef : Nat
  vessel : Nat
  routeClass : Nat
  capacity : Nat
  aboard : Nat
  counts : Counts
  flags : TripFlags
  firstGeneration : Nat
  lastGeneration : Nat
  openTime : Option ServiceTime
  closeTime : Option ServiceTime
  departureTime : Option ServiceTime
  closeCause : Option CloseCause
deriving DecidableEq, Repr

/-- What a berth that is not VACANT holds (R1, R5 to R8, R23). -/
structure Trip where
  phase : TripPhase
  context : TripContext
  openTime : Option ServiceTime
  counts : Counts
  flags : TripFlags
  firstGeneration : Nat
  lastGeneration : Nat
  fill : FillLevel
  closeCause : Option CloseCause
  closeTime : Option ServiceTime
  departureTime : Option ServiceTime
  record : Option TripRecord
deriving DecidableEq, Repr

/-- A berth unit: VACANT, with everything empty, 0 or clear (R1), or holding a trip. -/
abbrev Berth := Option Trip

/-! ### Lanes (02, 03) -/

/-- The hold record of a lane (R29). Its list entry is the one of its (card, trip reference) pair (R104, R105). -/
structure Hold where
  card : Nat
  tripRef : Nat
  charge : Nat
  kind : AdmissionKind
deriving DecidableEq, Repr

/-- A filter measure: the raw level timed, the run time at which it started, and the length it started with (R49, R50). -/
structure Measure where
  level : Bool
  start : Nat
  length : Nat
deriving DecidableEq, Repr

/-- A beam input with its filter (R49); true is blocked. -/
structure Beam where
  raw : Bool
  accepted : Bool
  measure : Option Measure
deriving DecidableEq, Repr

/-- A passage decoder (R52). -/
structure Decoder where
  pair : PairState
  entry : Option EntrySide
  last : Option Side
deriving DecidableEq, Repr

/-- The change of the pair that a lane's decoder took last: its run time, and the decoder before it. The model's own record: a change of
the other side at the same run time is taken from that decoder (R53; log 7). -/
structure PairChange where
  runTime : Nat
  before : Decoder
deriving DecidableEq, Repr

/-- A lane unit (R27) with its open sense, beams and decoder. A running timer is held as the run time at which it is due. -/
structure Lane where
  state : LaneState
  berth : Option BerthIx
  hold : Option Hold
  faultCause : Option LaneFaultCause
  returning : Bool
  expiryPending : Bool
  beamOrder : BeamOrder
  filterCode : Nat
  passageTimeout : Nat
  barrierTimeout : Nat
  barrierTimer : Option Nat
  passageTimer : Option Nat
  clearTimer : Option Nat
  sense : Bool
  beamA : Beam
  beamB : Beam
  decoder : Decoder
  lastChange : Option PairChange
deriving DecidableEq, Repr

/-- The lamp of a lane: its selection, its latch, and the run time at which a running pulse is due to end (R27, R47). -/
structure Lamp where
  condition : LampCondition
  width : LampWidth
  pulseWidth : Nat
  latch : Bool
  pulseDue : Option Nat
deriving DecidableEq, Repr

/-! ### Clock, tariff, admissions, journal (05, 07, 08, 09) -/

/-- The Service Clock (R148). `advances` counts the further 1000 ms periods already taken since the setting (R149). -/
structure Clock where
  state : TimeState
  time : Option ServiceTime
  settingRunTime : Option Nat
  lastMark : Option Nat
  advances : Nat
deriving DecidableEq, Repr

/-- A complete tariff set (R131). -/
structure TariffSet where
  fares : FareSegment
  concessions : ConcessionSegment
  schemesLow : List SchemeEntry
  schemesHigh : List SchemeEntry
deriving DecidableEq, Repr

/-- The staged set: four segments, each present or absent (R133). -/
structure StagedSet where
  fares : Option FareSegment
  concessions : Option ConcessionSegment
  schemesLow : Option (List SchemeEntry)
  schemesHigh : Option (List SchemeEntry)
deriving DecidableEq, Repr

/-- The pending switch (R138). -/
structure PendingSwitch where
  generation : Nat
  effective : ServiceTime
deriving DecidableEq, Repr

/-- The Tariff Store (07). -/
structure TariffStore where
  active : Option TariffSet
  staged : StagedSet
  pendingSwitch : Option PendingSwitch
deriving DecidableEq, Repr

/-- An entry of the Recent Admission List (R104). -/
structure Entry where
  card : Nat
  tripRef : Nat
  berth : BerthIx
  lane : LaneIx
  state : EntryState
  charge : Nat
  kind : AdmissionKind
  admittedAt : Nat
  changedAt : Nat
deriving DecidableEq, Repr

/-- The Trip Journal: stored records oldest first, and the waiting berths in order (R169). -/
structure Journal where
  records : List TripRecord
  waiting : List BerthIx
deriving DecidableEq, Repr

/-! ### Supervisor (10) -/

/-- The setup values (R180) but for the lane records, which the lane units hold. The offset is held in seconds (R150). -/
structure Setup where
  pontoonId : Nat
  lanesPresent : Nat
  berthsPresent : Nat
  courtesyWindow : Nat
  markWindow : Nat
  dayStartOffset : Nat
  defaultMargin : Nat
  freeRunPermitted : Bool
deriving DecidableEq, Repr

/-- The emergency line with its filter (R177); true is asserted. The measure is the run time at which it started. -/
structure EmergencyLine where
  raw : Bool
  accepted : Bool
  measure : Option Nat
deriving DecidableEq, Repr

/-- The Pontoon Supervisor (R177). -/
structure Supervisor where
  state : PontoonState
  returnState : Option PontoonState
  latch : Bool
  line : EmergencyLine
  setup : Setup
deriving DecidableEq, Repr

/-! ### Answers, notices and the link (11) -/

/-- A field named in an answer: the repeated record it lies in, or 0, and its position (R199). -/
structure FieldName where
  record : Nat
  position : Nat
deriving DecidableEq, Repr

/-- The fill level and free places a berth reports. -/
structure FillReport where
  level : FillLevel
  free : Int
deriving DecidableEq, Repr

/-- The selection of a lamp, as LANE_LAMP reports it (R48). -/
structure LampSelection where
  condition : LampCondition
  width : LampWidth
  pulseWidth : Nat
deriving DecidableEq, Repr

/-- The matched entry detail of a decision (R103). -/
structure EntryDetail where
  berth : BerthIx
  lane : LaneIx
  state : EntryState
  charge : Nat
  kind : AdmissionKind
  sinceAdmission : Nat
  sinceChange : Nat
deriving DecidableEq, Repr

/-- The write-back of a decision: the groups its mask names, with their values (R84, R85). -/
structure WriteBack where
  blockCard : Bool
  lastBoarding : Option LastBoarding
  daySpend : Option DaySpend
  product : Option Product
deriving DecidableEq, Repr

/-- The part of a decision that depends on its outcome (R103). -/
inductive DecisionOutcome where
  | granted (kind : AdmissionKind) (slot : Option Nat) (charge rideValue : Nat) (transfer : Bool)
  | refused (reason : Reason) (slot : Option Nat)
deriving DecidableEq, Repr

/-- A decision (R102, R103). -/
structure Decision where
  lane : Nat
  outcome : DecisionOutcome
  berth : Option BerthIx
  fill : Option FillReport
  degraded : Bool
  generation : Nat
  detail : Option EntryDetail
  writeBack : WriteBack
deriving DecidableEq, Repr

/-- The link statistics (R208). -/
structure LinkStats where
  framesTaken : Nat
  framingErrors : Nat
  crcErrors : Nat
  overruns : Nat
  huntDiscards : Nat
  answersSent : Nat
  noticesSent : Nat
  noticesDiscarded : Nat
deriving DecidableEq, Repr

/-- What STATUS reports of a berth that is not VACANT (R192). -/
structure BerthStatus where
  state : BerthState
  fill : Option FillLevel
  numbers : Option (Nat × Nat × Nat)   -- onboard, holds, capacity
deriving DecidableEq, Repr

/-- What STATUS reports of a lane (R192). -/
structure LaneStatus where
  state : LaneState
  berth : Option BerthIx
  faultCause : Option LaneFaultCause
deriving DecidableEq, Repr

/-- The answer fields of STATUS (R192). -/
structure StatusReport where
  pontoon : PontoonState
  returnState : Option PontoonState
  demand : Bool
  line : Bool
  latch : Bool
  pontoonId : Nat
  lanesPresent : Nat
  berthsPresent : Nat
  timeState : TimeState
  time : Option ServiceTime
  activeGeneration : Nat
  stagedGeneration : Option Nat
  switchPending : Bool
  berths : List BerthStatus
  lanes : List LaneStatus
  denyCount : Nat
  journalDepth : Nat
  journalWaiting : Nat
  queueDepth : Nat
  lost : Nat
  stats : LinkStats
deriving DecidableEq, Repr

/-- The answer fields of BERTH_QUERY (R18); in VACANT there is no trip. -/
structure QueryReport where
  trip : Trip
  margin : Nat
  marginIsDefault : Bool
  free : Int
  waiting : Bool
deriving DecidableEq, Repr

/-- The answer fields of TARIFF_QUERY (R145). -/
structure TariffReport where
  activeGeneration : Nat
  present : Bool × Bool × Bool × Bool
  stagedGeneration : Option Nat
  complete : Bool
  effective : Option ServiceTime
  timeState : TimeState
deriving DecidableEq, Repr

/-- The answer of an owner: a result code and the fields its rule gives (R201). -/
inductive Reply where
  | code (r : ResultCode)
  | rangeField (f : FieldName)
  | setup (clamped : List FieldName) (state : PontoonState)
  | serviceStart (state : TimeState) (time : Option ServiceTime) (closed faulted : Nat)
  | berthsActive (berths : List (BerthIx × BerthState))
  | egress (r : ResultCode) (latch line demand : Bool) (state : PontoonState)
  | restart (discarded lost : Nat)
  | status (r : StatusReport)
  | timeMark (state : TimeState) (time : ServiceTime) (step : Option Int)
  | tariffLoad (segment : Nat) (present : Bool × Bool × Bool × Bool) (generation : Option Nat) (complete : Bool)
  | tariffCommit (r : ResultCode) (activeGeneration : Nat) (effective : Option ServiceTime)
  | tariffQuery (r : TariffReport)
  | berthOpen (clampedAboard : Bool) (berth : BerthIx) (fill : Option FillReport) (state : BerthState)
  | berthAmend (state : BerthState) (fill : Option FillReport)
  | berthQuery (r : Option QueryReport)
  | laneAssign (lane : Nat) (berth : Option BerthIx)
  | laneLamp (clamped : Bool) (selection : LampSelection)
  | decision (d : Decision)
  | denyAdd (added already notAdded : Nat) (firstNotAdded : Option Nat) (count : Nat) (full : Bool)
  | denyRemove (removed absent count : Nat)
  | denyClear (r : ResultCode) (removed : Nat)
  | denyCheck (card : Nat) (present : Bool) (count : Nat)
  | journalRead (depth waiting : Nat) (record : TripRecord)
  | journalEmptyRead (depth waiting : Nat)
  | journalEmptyRelease (depth : Nat)
  | journalMismatch (oldest depth : Nat)
  | journalRelease (released depth waiting : Nat) (oldest : Option Nat)
  | unknownKind (kind : Nat)
  | badLength (expected : Nat)
deriving DecidableEq, Repr

/-- A notice with the fields of its owning rule (R202). -/
inductive Notice where
  /-- BERTH_STATE (R2). -/
  | berthState (berth : BerthIx) (state : BerthState) (tripRef : Nat) (cause : Option CloseCause) (time : Option ServiceTime)
  /-- FILL (R9). -/
  | fill (berth : BerthIx) (level : FillLevel) (onboard holds capacity : Nat)
  /-- PASSAGE (R61). -/
  | passage (lane : LaneIx) (berth : Option BerthIx) (direction : Direction) (cls : PassageClass) (card : Option Nat)
  /-- HOLD_VOID (R35). -/
  | holdVoid (lane : LaneIx) (card : Nat) (cause : VoidCause) (charge : Nat) (kind : AdmissionKind)
  /-- AMBIGUOUS (R62). -/
  | ambiguous (lane : LaneIx) (berth : Option BerthIx) (entry : EntrySide) (cls : PassageClass)
  /-- LANE_FAULT (R38). -/
  | laneFault (lane : LaneIx) (cause : LaneFaultCause)
  /-- LANE_RETURNED (R37). -/
  | laneReturned (lane : LaneIx)
  /-- TIME_STATE (R153). -/
  | timeState (old new : TimeState) (cause : TimeCause) (time : Option ServiceTime)
  /-- TIME_STEP (R152). -/
  | timeStep (old new : ServiceTime) (direction : StepDirection)
  /-- TARIFF_SWITCHED (R140). -/
  | tariffSwitched (old new : Nat) (time : Option ServiceTime)
  /-- TARIFF_CANCELLED (R142). -/
  | tariffCancelled (cause : CancelCause) (generation : Nat) (effective : ServiceTime) (active : Nat)
  /-- PRODUCT_EXHAUSTED (R83). -/
  | productExhausted (card slot : Nat) (kind : AdmissionKind)
  /-- JOURNAL_FULL (R24). -/
  | journalFull (berth : BerthIx) (tripRef depth : Nat)
  /-- TRIP_STORED (R24). -/
  | tripStored (berth : BerthIx) (tripRef depth : Nat)
  /-- PONTOON_STATE (R178). -/
  | pontoonState (old new : PontoonState) (cause : PontoonCause) (returnState : Option PontoonState)
      (time : Option ServiceTime)
  /-- EGRESS (R186). -/
  | egress (phase : EgressPhase) (cause : EgressCause) (line latch : Bool) (time : Option ServiceTime)
deriving DecidableEq, Repr

/-- A notice in the queue with the lost count it entered with (R203). -/
structure QueuedNotice where
  lost : Nat
  notice : Notice
deriving DecidableEq, Repr

/-- A complete request: its tag and what it asks (R196, R197). -/
structure RequestFrame where
  tag : Byte
  request : Request
deriving DecidableEq, Repr

/-- An answer: the kind and tag of its request, and its reply (R194, R198). -/
structure Answer where
  requestKind : Nat
  tag : Byte
  reply : Reply
deriving DecidableEq, Repr

/-- A frame the controller sends (R194). -/
inductive OutFrame where
  | answer (a : Answer)
  | notice (q : QueuedNotice)
deriving DecidableEq, Repr

/-- The transmitter at work: the frame on the line and the run time at which it began (R207). -/
structure Transmission where
  frame : OutFrame
  start : Nat
deriving DecidableEq, Repr

/-- States of the receive framer (R196). -/
inductive FramerState where
  | hunt | length | header | body | check
deriving DecidableEq, Repr

/-- The receive framer: its state, the bytes stored after the start byte, in order, and the run time of the last character of
the frame in assembly (R196). -/
structure Framer where
  state : FramerState
  stored : List Byte
  lastCharacter : Nat
deriving DecidableEq, Repr

/-- The Link Controller (11). -/
structure Link where
  strap1 : Bool
  strap0 : Bool
  framer : Framer
  pendingRequest : Option RequestFrame
  answerSlot : Option Answer
  queue : List QueuedNotice
  lost : Nat
  transmitter : Option Transmission
  stats : LinkStats
deriving DecidableEq, Repr

/-! ### The machine -/

/-- No command of this block stops it: every command in every state answers a next state (INVENTORY, Faults). -/
inductive Fault where
deriving DecidableEq, Repr

/-- Why a command has no meaning. -/
inductive Refusal where
  /-- Raised by exec's arm of a command that has no meaning yet; safe. No arm of this model raises it. -/
  | notModelled (mnemonic : String)
deriving DecidableEq, Repr

/-- The whole controller, and the queue of the commands that are waiting, first in, first out (log 1). `draws` is the model's
own field: how many free orders have been drawn (log 3). -/
structure State where
  runTime : Nat
  link : Link
  supervisor : Supervisor
  clock : Clock
  tariff : TariffStore
  berths : PerBerth Berth
  lanes : PerLane Lane
  lamps : PerLane Lamp
  recent : List Entry
  deny : List Nat
  journal : Journal
  draws : Nat
  pending : List Instr
deriving DecidableEq, Repr

/-! ### Power-on values -/

/-- All counts 0 (R1). -/
def Counts.zero : Counts := ⟨0, 0, 0, 0, 0, 0, 0, 0, 0, 0, 0, 0, 0, 0, 0⟩

/-- All latched trip flags clear (R1). -/
def TripFlags.clear : TripFlags := ⟨false, false, false, false, false⟩

/-- All link statistics 0 (R208). -/
def LinkStats.zero : LinkStats := ⟨0, 0, 0, 0, 0, 0, 0, 0⟩

/-- A staged set with all four segments absent (R133). -/
def StagedSet.empty : StagedSet := ⟨none, none, none, none⟩

/-- A framer in HUNT with no frame in assembly (R196). -/
def Framer.idle : Framer := ⟨.hunt, [], 0⟩

/-- A filter seeded from its raw level, with no measure (R50). -/
def Beam.seeded (raw : Bool) : Beam := ⟨raw, raw, none⟩

/-- The pair state of the accepted levels of the two sides (03, 3.3). -/
def PairState.ofSides (outer inner : Bool) : PairState :=
  match outer, inner with
  | false, false => .clear
  | true, false => .outerOnly
  | true, true => .both
  | false, true => .innerOnly

/-- The pair state a lane's accepted levels give under its beam order (R51, R52). -/
def pairOf (order : BeamOrder) (a b : Bool) : PairState :=
  match order with
  | .normal => PairState.ofSides a b
  | .swapped => PairState.ofSides b a

/-- A decoder re-seated on a pair state: a movement under way has entry side UNKNOWN (R58). -/
def Decoder.reseated (pair : PairState) : Decoder :=
  match pair with
  | .clear => ⟨.clear, none, none⟩
  | .outerOnly => ⟨.outerOnly, some .unknown, some .outer⟩
  | .both => ⟨.both, some .unknown, none⟩
  | .innerOnly => ⟨.innerOnly, some .unknown, some .inner⟩

/-- A lane unit after power-on reset (R27, R50, R58). -/
def Lane.powerOn (a b sense : Bool) : Lane where
  state := .off
  berth := none
  hold := none
  faultCause := none
  returning := false
  expiryPending := false
  beamOrder := .normal
  filterCode := 20
  passageTimeout := 8000
  barrierTimeout := 1500
  barrierTimer := none
  passageTimer := none
  clearTimer := none
  sense := sense
  beamA := Beam.seeded a
  beamB := Beam.seeded b
  decoder := Decoder.reseated (pairOf .normal a b)
  lastChange := none

/-- A lamp after power-on reset (R27). -/
def Lamp.powerOn : Lamp := ⟨.off, .follow, 250, false, none⟩

/-- The setup values from power-on reset until the first SETUP (R180); the pontoon id none is held as 0. -/
def Setup.powerOn : Setup := ⟨0, 8, 4, 30, 120, 0, 3, false⟩

/-- The controller right after a power-on reset that finds these pin levels, with an empty command queue (R1, R27, R50, R58,
R104, R132, R133, R147, R148, R163, R169, R177, R180, R193, R196, R197, R203, R207, R208). -/
def State.powerOn (pins : Pins) : State where
  runTime := 0
  link :=
    { strap1 := pins.strap1
      strap0 := pins.strap0
      framer := Framer.idle
      pendingRequest := none
      answerSlot := none
      queue := []
      lost := 0
      transmitter := none
      stats := LinkStats.zero }
  supervisor :=
    { state := .config
      returnState := none
      latch := false
      line := ⟨pins.emergency, pins.emergency, none⟩
      setup := Setup.powerOn }
  clock := ⟨.unset, none, none, none, 0⟩
  tariff := ⟨none, StagedSet.empty, none⟩
  berths := ⟨none, none, none, none⟩
  lanes := PerLane.tabulate fun i => Lane.powerOn (pins.beamA.get i) (pins.beamB.get i) (pins.sense.get i)
  lamps := PerLane.tabulate fun _ => Lamp.powerOn
  recent := []
  deny := []
  journal := ⟨[], []⟩
  draws := 0
  pending := []

/-- Every input at rest: straps low, emergency line clear, beams clear, barriers closed (DESIGN CHOICE, log 6). -/
def Pins.atRest : Pins where
  strap1 := false
  strap0 := false
  emergency := false
  beamA := PerLane.tabulate fun _ => false
  beamB := PerLane.tabulate fun _ => false
  sense := PerLane.tabulate fun _ => false

/-- The machine right after reset: the power-on values with the inputs at rest (log 6). -/
def State.reset : State := State.powerOn Pins.atRest

end Sys2Proof.Machine
end

