-- ==== Sys2Proof/Machine/Lamp.lean ====
section
/-! DEFINITION. Lookups of units, lamp conditions and their rises (R46, R47), and the outputs computed from State: lamps and
barrier drives. -/

namespace Sys2Proof.Machine

open Sys2Proof

/-- The lane unit `i`. -/
def State.lane (s : State) (i : LaneIx) : Lane := s.lanes.get i

/-- The berth unit `b`. -/
def State.berth (s : State) (b : BerthIx) : Berth := s.berths.get b

/-- The lamp of lane `i`. -/
def State.lamp (s : State) (i : LaneIx) : Lamp := s.lamps.get i

/-- Egress demand: the line level is asserted or the request latch is set (R177, R186). -/
def State.demand (s : State) : Bool := s.supervisor.line.accepted || s.supervisor.latch

/-- A lane is present when its number is below the number of lanes present in the setup (R180). -/
def State.lanePresent (s : State) (i : LaneIx) : Bool := decide (i.val < s.supervisor.setup.lanesPresent)

/-- The berth state that a trip's phase is (R1). -/
def TripPhase.toBerthState : TripPhase → BerthState
  | .opened => .opened
  | .closing => .closing
  | .departed => .departed

/-- The state of a berth unit (R1). -/
def berthStateOf (b : Berth) : BerthState :=
  match b with
  | none => .vacant
  | some t => t.phase.toBerthState

/-- The trip of the lane's assigned berth while that berth is OPEN or CLOSING (R13, R46, R60). -/
def State.boardingTrip (s : State) (i : LaneIx) : Option Trip :=
  match (s.lane i).berth with
  | none => none
  | some b =>
    match s.berth b with
    | none => none
    | some t => if t.phase = .departed then none else some t

/-- Whether a condition is raised by events (R46). -/
def LampCondition.isEvent : LampCondition → Bool
  | .admission => true
  | .refuse => true
  | _ => false

/-- Whether the lane's selected condition is a level condition that is true (R46); in OFF every condition is false. -/
def State.level (s : State) (i : LaneIx) : Bool :=
  let l := s.lane i
  if l.state = .off then false
  else
    match (s.lamp i).condition with
    | .off => false
    | .on => true
    | .laneOpen => decide (l.state = .opening) || decide (l.state = .opened)
    | .admission => false
    | .refuse => false
    | .berthNear => (s.boardingTrip i).elim false fun t => decide (t.fill = .near)
    | .berthFull => (s.boardingTrip i).elim false fun t => decide (t.fill = .full) || decide (t.fill = .overfull)
    | .berthClosing => (s.boardingTrip i).elim false fun t => decide (t.phase = .closing)
    | .fault => decide (l.state = .fault)
    | .egress => decide (l.state = .egress)

/-- What a rise does to the lamp by its width (R47). A level condition under FOLLOW lights the lamp of itself. -/
def Lamp.rise (now : Nat) (isEvent : Bool) (l : Lamp) : Lamp :=
  match l.width with
  | .follow => if isEvent then { l with pulseDue := some (now + Config.followPulse) } else l
  | .pulse => { l with pulseDue := some (now + l.pulseWidth) }
  | .latched => { l with latch := true }

/-- A level condition rises when it passes from false to true (R46), and when it is true as its lane leaves EGRESS (R189). -/
def levelRises (before after : State) (i : LaneIx) : Bool :=
  after.level i &&
    (!before.level i || (decide ((before.lane i).state = .egress) && !decide ((after.lane i).state = .egress)))

/-- The lamps after a change of lanes or berths: each level condition that rises at the change acts by R47. -/
def rescanLamps (before after : State) : State :=
  { after with
    lamps := PerLane.tabulate fun i =>
      if levelRises before after i then (after.lamp i).rise after.runTime false else after.lamp i }

/-- An event condition rises at each event, but not while the lane is in OFF (R46). -/
def raiseEvent (c : LampCondition) (i : LaneIx) (s : State) : State :=
  if (s.lane i).state ≠ .off ∧ (s.lamp i).condition = c then
    { s with lamps := s.lamps.set i ((s.lamp i).rise s.runTime true) }
  else s

/-- The lamp output of a lane (R47). -/
def State.lampLit (s : State) (i : LaneIx) : Bool :=
  match (s.lane i).state with
  | .egress => true
  | .off => false
  | _ =>
    let l := s.lamp i
    match l.width with
    | .follow => if l.condition.isEvent then l.pulseDue.isSome else s.level i
    | .pulse => l.pulseDue.isSome
    | .latched => l.latch

/-- The barrier drive that a lane state gives; true is open (R28). -/
def LaneState.drivesOpen : LaneState → Bool
  | .opening => true
  | .opened => true
  | .clearing => true
  | .egress => true
  | _ => false

/-- The barrier drive output of a lane; in CONFIG egress demand drives all eight open (R28). -/
def State.driveOpen (s : State) (i : LaneIx) : Bool :=
  (s.lane i).state.drivesOpen || (decide (s.supervisor.state = .config) && s.demand)

end Sys2Proof.Machine
end

