-- ==== Sys2Proof/Machine/Ops.lean ====
section
/-! DEFINITION. The shared operations: saturating counts, changing a lane, a berth or a trip, posting a notice, and the Recent
Admission List. -/

namespace Sys2Proof.Machine

open Sys2Proof

/-- A count that stays at the end of its range when a step would carry it past it (00, Quantities). -/
def satAdd (limit n k : Nat) : Nat := min limit (n + k)

/-- One rise of a counter 0..65535 (R6, R208). -/
def bump (n : Nat) : Nat := satAdd Config.counterLimit n 1

/-- Replaces a lane unit where nothing a lamp condition reads has changed. -/
def setLane (i : LaneIx) (f : Lane → Lane) (s : State) : State := { s with lanes := s.lanes.set i (f (s.lane i)) }

/-- Changes a lane unit; level conditions that become true rise (R46). -/
def changeLane (i : LaneIx) (f : Lane → Lane) (s : State) : State := rescanLamps s (setLane i f s)

/-- Changes a berth unit; level conditions that become true rise (R46). -/
def changeBerth (b : BerthIx) (f : Berth → Berth) (s : State) : State :=
  rescanLamps s { s with berths := s.berths.set b (f (s.berth b)) }

/-- Changes the trip a berth holds, if it holds one. -/
def changeTrip (b : BerthIx) (f : Trip → Trip) (s : State) : State := changeBerth b (Option.map f) s

/-- Posts a notice: it enters the Notice Queue with the lost count, or is discarded and counted when 64 are held (R203). -/
def post (n : Notice) (s : State) : State :=
  let k := s.link
  if k.queue.length < Config.queueLimit then
    { s with link := { k with queue := k.queue ++ [⟨k.lost, n⟩], lost := 0 } }
  else
    { s with
      link := { k with
        lost := satAdd Config.lostLimit k.lost 1
        stats := { k.stats with noticesDiscarded := bump k.stats.noticesDiscarded } } }

/-- Posts a notice when there is one. -/
def postOpt (n : Option Notice) (s : State) : State :=
  match n with
  | none => s
  | some n => post n s

/-! ### The Recent Admission List (05) -/

/-- The entry of a (card, trip reference) pair. -/
def Entry.isFor (card tripRef : Nat) (e : Entry) : Bool := decide (e.card = card) && decide (e.tripRef = tripRef)

/-- The entry a hold names becomes PASSED or VOID, stamped with the run time; its position is kept (R106, R108, R109). -/
def markEntry (card tripRef : Nat) (st : EntryState) (now : Nat) (es : List Entry) : List Entry :=
  es.map fun e =>
    if e.isFor card tripRef && decide (e.state = .held) then { e with state := st, changedAt := now } else e

/-- The list without its oldest entry that is not HELD (R107). -/
def evictOldest (es : List Entry) : List Entry := es.eraseP fun e => decide (e.state ≠ .held)

/-- Records an admission: an entry for the pair is updated and moved to the newest position; otherwise a new entry joins there,
after an eviction if the list is full (R101, R106, R107). -/
def recordAdmission (e : Entry) (es : List Entry) : List Entry :=
  if es.any (Entry.isFor e.card e.tripRef) then es.filter (fun x => !x.isFor e.card e.tripRef) ++ [e]
  else if es.length < Config.recentLimit then es ++ [e]
  else evictOldest es ++ [e]

/-- Ends the list entry of a hold (R108, R109). -/
def endEntry (h : Hold) (st : EntryState) (s : State) : State :=
  { s with recent := markEntry h.card h.tripRef st s.runTime s.recent }

/-! ### Orders the spec leaves open (log 3) -/

/-- Inserts a keyed item before the first item of a greater key. -/
def insertKeyed {α : Type} (x : Nat × α) : List (Nat × α) → List (Nat × α)
  | [] => [x]
  | y :: ys => if x.1 ≤ y.1 then x :: y :: ys else y :: insertKeyed x ys

/-- The items sorted by their keys. -/
def sortKeyed {α : Type} : List (Nat × α) → List (Nat × α)
  | [] => []
  | x :: xs => insertKeyed x (sortKeyed xs)

/-- Gives each item the free key of its place in this draw. -/
def keyed {α : Type} (draw : Nat) : Nat → List α → List (Nat × α)
  | _, [] => []
  | k, x :: xs => (Config.orderKey draw k, x) :: keyed draw (k + 1) xs

/-- The items in a free order: nothing says which permutation it is (FREE VALUE, log 3). -/
def arrange {α : Type} (draw : Nat) (xs : List α) : List α := (sortKeyed (keyed draw 0 xs)).map Prod.snd

/-- The items in a free order, and the state with a draw taken if there was a choice. -/
def freeOrder {α : Type} (xs : List α) (s : State) : List α × State :=
  match xs with
  | [] => ([], s)
  | [x] => ([x], s)
  | xs => (arrange s.draws xs, { s with draws := s.draws + 1 })

end Sys2Proof.Machine
end

