-- ==== Sys2Proof/Machine/Deny.lean ====
section
/-! DEFINITION. The Deny List (R163 to R168). -/

namespace Sys2Proof.Machine

open Sys2Proof

/-- Inserts an absent number at its place in ascending order (R165). -/
def insertSorted (n : Nat) : List Nat → List Nat
  | [] => [n]
  | x :: xs => if n < x then n :: x :: xs else x :: insertSorted n xs

/-- The check of DENY_CHECK and of step 6 (R92, R168). -/
def State.denied (s : State) (card : Nat) : Bool := s.deny.contains card

/-- How far a DENY_ADD has come. -/
structure AddProgress where
  list : List Nat
  added : Nat
  already : Nat
  notAdded : Nat
  firstNotAdded : Option Nat
deriving DecidableEq, Repr

/-- One number of a DENY_ADD, judged against the list as the earlier numbers left it (R165). -/
def addNumber (p : AddProgress) (n : Nat) : AddProgress :=
  if p.list.contains n then { p with already := p.already + 1 }
  else if p.list.length < Config.denyLimit then { p with list := insertSorted n p.list, added := p.added + 1 }
  else { p with notAdded := p.notAdded + 1, firstNotAdded := p.firstNotAdded.or (some n) }

/-- The position of the first 0 of a list, counting from `k` (R164). -/
def firstZero : Nat → List Nat → Option Nat
  | _, [] => none
  | k, x :: xs => if x = 0 then some k else firstZero (k + 1) xs

/-- The checks of R164 on a count and its numbers: the RANGE answer, if any (log 15). -/
def denyRefusal (count : Nat) (numbers : List Nat) : Option Reply :=
  if count = 0 ∨ Config.denyRequestLimit < count then some (.code .range)
  else (firstZero 1 numbers).map fun k => .rangeField ⟨k, 1⟩

/-- DENY_ADD (R164, R165). -/
def ownDenyAdd (count : Nat) (numbers : List Nat) (s : State) : State × Reply :=
  match denyRefusal count numbers with
  | some r => (s, r)
  | none =>
    let p := numbers.foldl addNumber ⟨s.deny, 0, 0, 0, none⟩
    ({ s with deny := p.list },
      .denyAdd p.added p.already p.notAdded p.firstNotAdded p.list.length (decide (p.list.length = Config.denyLimit)))

/-- One number of a DENY_REMOVE: the list, the count removed and the count absent (R166). -/
def removeNumber (p : List Nat × Nat × Nat) (n : Nat) : List Nat × Nat × Nat :=
  if p.1.contains n then (p.1.erase n, p.2.1 + 1, p.2.2) else (p.1, p.2.1, p.2.2 + 1)

/-- DENY_REMOVE (R164, R166). -/
def ownDenyRemove (count : Nat) (numbers : List Nat) (s : State) : State × Reply :=
  match denyRefusal count numbers with
  | some r => (s, r)
  | none =>
    let p := numbers.foldl removeNumber (s.deny, 0, 0)
    ({ s with deny := p.1 }, .denyRemove p.2.1 p.2.2 p.1.length)

/-- DENY_CLEAR (R167). -/
def ownDenyClear (s : State) : State × Reply :=
  if s.deny = [] then (s, .denyClear .redundant 0) else ({ s with deny := [] }, .denyClear .ok s.deny.length)

/-- DENY_CHECK (R164, R168). -/
def ownDenyCheck (card : Nat) (s : State) : State × Reply :=
  if card = 0 then (s, .rangeField ⟨0, 1⟩) else (s, .denyCheck card (s.denied card) s.deny.length)

end Sys2Proof.Machine
end

