-- ==== Sys2Proof/Machine/Operands.lean ====
section
/-! DEFINITION. What carried operands mean: range checks, clamps, lane and berth numbers, and the codes of named values. -/

namespace Sys2Proof.Machine

open Sys2Proof

/-- The present lane that a carried lane number names, if any (R39, R45, R48, R90). -/
def State.lane? (s : State) (n : Nat) : Option LaneIx :=
  if h : n < 8 then (if n < s.supervisor.setup.lanesPresent then some ⟨n, h⟩ else none) else none

/-- The present berth that a carried berth number names, if any (R3). -/
def State.berth? (s : State) (n : Nat) : Option BerthIx :=
  if h : n < 4 then (if n < s.supervisor.setup.berthsPresent then some ⟨n, h⟩ else none) else none

/-- Whether a berth is present in the setup. -/
def State.berthPresent (s : State) (b : BerthIx) : Bool := decide (b.val < s.supervisor.setup.berthsPresent)

/-- A carried second is in its range (R151, R183). -/
def timeInRange (t : ServiceTime) : Bool := decide (t.second ≤ 86399)

/-- The absolute second of a service time (00, Time). -/
def absSecond (t : ServiceTime) : Nat := t.day * Config.daySeconds + t.second

/-- Moves a value into `low .. high`. -/
def clamp (low high n : Nat) : Nat := if n < low then low else if high < n then high else n

/-- The nearest value of an ascending list, a value midway taking the larger; `best` is the nearest so far (R44, R48). -/
def nearestFrom (n best : Nat) : List Nat → Nat
  | [] => best
  | x :: xs =>
    if (max x n - min x n) ≤ (max best n - min best n) then nearestFrom n x xs else nearestFrom n best xs

/-- A filter code moved to the nearest of 0, 5, 10, 20, 50 and 100 ms (R44). -/
def nearestFilter (n : Nat) : Nat := nearestFrom n 0 [5, 10, 20, 50, 100]

/-- A pulse width moved to the nearest of 100, 250, 500, 1000 and 2000 ms (R48). -/
def nearestPulse (n : Nat) : Nat := nearestFrom n 100 [250, 500, 1000, 2000]

/-- A passage timeout within 3000..30000 ms (R44). -/
def clampPassageTimeout (n : Nat) : Nat := clamp 3000 30000 n

/-- A barrier timeout within 500..3000 ms (R44). -/
def clampBarrierTimeout (n : Nat) : Nat := clamp 500 3000 n

/-- The beam order of a carried code (R51, R199). -/
def BeamOrder.ofCode : Nat → Option BeamOrder
  | 0 => some .normal
  | 1 => some .swapped
  | _ => none

/-- The lamp condition of a carried code (R46, R199). -/
def LampCondition.ofCode : Nat → Option LampCondition
  | 0 => some .off
  | 1 => some .on
  | 2 => some .laneOpen
  | 3 => some .admission
  | 4 => some .refuse
  | 5 => some .berthNear
  | 6 => some .berthFull
  | 7 => some .berthClosing
  | 8 => some .fault
  | 9 => some .egress
  | _ => none

/-- The lamp width of a carried code (R47, R199). -/
def LampWidth.ofCode : Nat → Option LampWidth
  | 0 => some .follow
  | 1 => some .pulse
  | 2 => some .latched
  | _ => none

/-- The carried values of BERTH_OPEN that are refused out of range (R4, step 1). -/
def openInRange (r : OpenRequest) : Bool :=
  decide (1 ≤ r.tripRef ∧ r.tripRef ≤ 4294967295) && decide (1 ≤ r.vessel ∧ r.vessel ≤ 65535) &&
  decide (r.routeClass ≤ 7) && decide (1 ≤ r.capacity ∧ r.capacity ≤ 600) &&
  r.departure.elim true timeInRange && r.margin.elim true (fun m => decide (m ≤ 50))

/-- Whether an option of three is in range: a set value by `ok`, and no reserved code (R16, R199; log 14). -/
def threeWayInRange {α : Type} (ok : α → Bool) : ThreeWay α → Bool
  | .keep => true
  | .set v => ok v
  | .remove => true
  | .reserved _ => false

/-- What an option of three makes of the value held (R16). -/
def amended {α : Type} (held : Option α) : ThreeWay α → Option α
  | .keep => held
  | .set v => some v
  | .remove => none
  | .reserved _ => held

/-- The present values of BERTH_AMEND are in range (R16, check 1). -/
def amendInRange (r : AmendRequest) : Bool :=
  r.capacity.elim true (fun c => decide (1 ≤ c ∧ c ≤ 600)) && threeWayInRange timeInRange r.departure &&
  threeWayInRange (fun m => decide (m ≤ 50)) r.margin

end Sys2Proof.Machine
end

