-- ==== Sys2Proof/Machine/Flags.lean ====
section
/-! DEFINITION. The capacity condition of a berth: free places, fill level, and the latched trip flags (R7, R8, R9). -/

namespace Sys2Proof.Machine

open Sys2Proof

/-- Free places: capacity − onboard − holds, a signed number (R8). -/
def freePlaces (capacity onboard holds : Nat) : Int := (capacity : Int) - onboard - holds

/-- The fill level of these numbers (R8). -/
def fillLevel (capacity onboard holds margin : Nat) : FillLevel :=
  if capacity < onboard then .overfull
  else if freePlaces capacity onboard holds ≤ 0 then .full
  else if 1 ≤ margin ∧ freePlaces capacity onboard holds ≤ margin then .near
  else .room

/-- The free places of a trip. -/
def Trip.free (t : Trip) : Int := freePlaces t.context.capacity t.counts.onboard t.counts.holds

/-- The effective margin: the trip's own, or the setup default (R8). -/
def State.effectiveMargin (s : State) (t : Trip) : Nat := t.context.margin.getD s.supervisor.setup.defaultMargin

/-- The fill level a trip's numbers give (R8). -/
def State.tripFill (s : State) (t : Trip) : FillLevel :=
  fillLevel t.context.capacity t.counts.onboard t.counts.holds (s.effectiveMargin t)

/-- The latched flag of a level that is entered is set (R7, R9). -/
def TripFlags.latch (l : FillLevel) (f : TripFlags) : TripFlags :=
  match l with
  | .room => f
  | .near => { f with near := true }
  | .full => { f with full := true }
  | .overfull => { f with overfull := true }

/-- A FILL notice for a trip at a level (R9). -/
def fillNotice (b : BerthIx) (t : Trip) (l : FillLevel) : Notice :=
  .fill b l t.counts.onboard t.counts.holds t.context.capacity

/-- Recomputes the fill level of a berth; a level different from the one held posts FILL and latches its flag (R8, R9). -/
def recomputeFill (b : BerthIx) (s : State) : State :=
  match s.berth b with
  | none => s
  | some t =>
    let l := s.tripFill t
    if l = t.fill then s
    else post (fillNotice b t l) (changeTrip b (fun t => { t with fill := l, flags := t.flags.latch l }) s)

end Sys2Proof.Machine
end

