-- ==== Sys2Proof/Machine/Trip.lean ====
section
/-! DEFINITION. The berth units: what grants, consumptions, voids and passages do to a trip's counts, closing, settlement, the
trip record and its handoff to the Trip Journal (01; R169 to R174). -/

namespace Sys2Proof.Machine

open Sys2Proof

/-! ### Counts -/

/-- Onboard has saturated in this trip: a step has met one of its limits, which the latched flags show (R6, R7). DEDUCED (log 31): a
count that has only reached a limit has not saturated. -/
def Trip.saturated (t : Trip) : Bool := t.flags.underflow || t.flags.overflow

/-- A forward step of onboard (R11, R13): it rises by 1; at 999 it stays and sets the overflow flag; once saturated it stays at its
limit for the rest of the trip (R6). -/
def Trip.boardOne (t : Trip) : Trip :=
  if Config.onboardLimit ≤ t.counts.onboard then { t with flags := { t.flags with overflow := true } }
  else if t.saturated then t
  else { t with counts := { t.counts with onboard := t.counts.onboard + 1 } }

/-- A reverse step of onboard (R13): it falls by 1; at 0 it stays and sets the underflow flag; once saturated it stays at its limit for
the rest of the trip (R6). -/
def Trip.leaveOne (t : Trip) : Trip :=
  if t.counts.onboard = 0 then { t with flags := { t.flags with underflow := true } }
  else if t.saturated then t
  else { t with counts := { t.counts with onboard := t.counts.onboard - 1 } }

/-- The counts of an admission of this kind (R10, R100). -/
def Counts.admitted (kind : AdmissionKind) (charge : Nat) (c : Counts) : Counts :=
  let c := { c with holds := c.holds + 1, revenue := satAdd Config.revenueLimit c.revenue charge }
  match kind with
  | .purse => { c with paidPurse := bump c.paidPurse }
  | .carnet => { c with paidCarnet := bump c.paidCarnet }
  | .allowance => { c with paidAllowance := bump c.paidAllowance }
  | .pass => { c with paidPass := bump c.paidPass }
  | .courtesy => { c with courtesy := bump c.courtesy }

/-- The trip takes a hold (R10). -/
def Trip.takeHold (kind : AdmissionKind) (charge generation : Nat) (t : Trip) : Trip :=
  { t with
    counts := t.counts.admitted kind charge
    lastGeneration := generation
    firstGeneration := if t.firstGeneration = 0 then generation else t.firstGeneration }

/-- The trip consumes a hold (R11). -/
def Trip.consume (t : Trip) : Trip :=
  { t with counts := { t.counts with holds := t.counts.holds - 1, forward := bump t.counts.forward } }.boardOne

/-- The trip takes the void of a hold (R12). -/
def Trip.voidHold (t : Trip) : Trip :=
  { t with counts := { t.counts with holds := t.counts.holds - 1, voids := bump t.counts.voids } }

/-- A passage that does not consume a hold (R13). -/
def Trip.countPassage (m : Movement) (inEgress : Bool) (t : Trip) : Trip :=
  match m with
  | .forward =>
    if inEgress then
      { t with counts := { t.counts with forward := bump t.counts.forward, egress := bump t.counts.egress } }.boardOne
    else { t with counts := { t.counts with forward := bump t.counts.forward, unpaid := bump t.counts.unpaid } }.boardOne
  | .reverse =>
    if inEgress then
      { t with counts := { t.counts with reverse := bump t.counts.reverse, egress := bump t.counts.egress } }.leaveOne
    else { t with counts := { t.counts with reverse := bump t.counts.reverse } }.leaveOne
  | .ambiguous => { t with counts := { t.counts with ambiguous := bump t.counts.ambiguous } }
  | .balk => t

/-! ### Notices, the journal and departure -/

/-- The trip reference a berth unit shows; 0 in VACANT. -/
def tripRefOf (b : Berth) : Nat := b.elim 0 fun t => t.context.tripRef

/-- Posts BERTH_STATE for a berth (R2). -/
def postBerthState (b : BerthIx) (st : BerthState) (ref : Nat) (cause : Option CloseCause) (s : State) : State :=
  post (.berthState b st ref cause s.clock.time) s

/-- The trip record a departing berth composes (R23). -/
def Trip.compose (b : BerthIx) (t : Trip) : TripRecord where
  berth := b
  tripRef := t.context.tripRef
  vessel := t.context.vessel
  routeClass := t.context.routeClass
  capacity := t.context.capacity
  aboard := t.context.aboard
  counts := t.counts
  flags := t.flags
  firstGeneration := t.firstGeneration
  lastGeneration := t.lastGeneration
  openTime := t.openTime
  closeTime := t.closeTime
  departureTime := t.departureTime
  closeCause := t.closeCause

/-- The berth's record enters the journal as its newest; the berth posts TRIP_STORED and becomes VACANT (R24, R171, R174). -/
def storeRecord (b : BerthIx) (r : TripRecord) (s : State) : State :=
  let s := { s with journal := { s.journal with records := s.journal.records ++ [r] } }
  let s := post (.tripStored b r.tripRef s.journal.records.length) s
  postBerthState b .vacant r.tripRef none (changeBerth b (fun _ => none) s)

/-- The berth offers its record; with 8 records held it waits with JOURNAL_FULL (R24, R171). -/
def offerRecord (b : BerthIx) (r : TripRecord) (s : State) : State :=
  if s.journal.records.length < Config.journalLimit then storeRecord b r s
  else
    post (.journalFull b r.tripRef s.journal.records.length)
      { s with journal := { s.journal with waiting := s.journal.waiting ++ [b] } }

/-- The trip on entry to DEPARTED, with its composed record (R22, R23). -/
def Trip.departedAt (b : BerthIx) (now : Option ServiceTime) (t : Trip) : Trip :=
  let t := { t with phase := .departed, departureTime := now }
  { t with record := some (t.compose b) }

/-- The berth becomes DEPARTED, posts BERTH_STATE and offers its record (R22, R23, R24). -/
def depart (b : BerthIx) (t : Trip) (s : State) : State :=
  let t := t.departedAt b s.clock.time
  let s := changeBerth b (fun _ => some t) s
  offerRecord b (t.compose b) (postBerthState b .departed t.context.tripRef none s)

/-- The lane states that hold back the departure of their berth (R22). -/
def LaneState.busy : LaneState → Bool
  | .opening => true
  | .opened => true
  | .clearing => true
  | .closing => true
  | .egress => true
  | _ => false

/-- Whether a lane holds back the departure of berth `b` (R22). -/
def State.holdsBack (s : State) (b : BerthIx) (i : LaneIx) : Bool :=
  decide ((s.lane i).berth = some b) && (s.lane i).state.busy

/-- The settlement condition of a trip at its berth (R22). -/
def State.settled (s : State) (b : BerthIx) (t : Trip) : Bool :=
  decide (t.counts.holds = 0) && !allLanes.any (s.holdsBack b)

/-- The test of settlement: a CLOSING berth that has settled departs (R22). DESIGN CHOICE, unsafe (log 32): a berth without lanes and holds
departs by R22 in EGRESS too, though R26 and R188 speak of a CLOSING berth as waiting for the end of egress. -/
def settle (b : BerthIx) (s : State) : State :=
  match s.berth b with
  | none => s
  | some t => if t.phase = .closing ∧ s.settled b t = true then depart b t s else s

/-- The berth becomes CLOSING with a cause, posts BERTH_STATE and tests its settlement (R15, R19, R20). -/
def closeBerth (b : BerthIx) (cause : CloseCause) (s : State) : State :=
  let s := changeTrip b (fun t => { t with phase := .closing, closeCause := some cause, closeTime := s.clock.time }) s
  settle b (postBerthState b .closing (tripRefOf (s.berth b)) (some cause) s)

/-- Close-when-full (R20). -/
def closeWhenFull (b : BerthIx) (s : State) : State :=
  match s.berth b with
  | none => s
  | some t =>
    if t.phase = .opened ∧ t.context.closeWhenFull = true ∧ t.context.capacity ≤ t.counts.onboard then
      closeBerth b .full s
    else s

/-- Whether a trip's scheduled departure has been reached at service time `now` (R19). -/
def Trip.departureReached (t : Trip) (now : Option ServiceTime) : Bool :=
  t.context.closeAtDeparture &&
    match t.context.departure, now with
    | some d, some n => decide (absSecond d ≤ absSecond n)
    | _, _ => false

/-- Whether the departure-time test of R19 closes this berth. -/
def State.departureDue (s : State) (b : BerthIx) : Bool :=
  match s.berth b with
  | none => false
  | some t => decide (t.phase = .opened) && t.departureReached s.clock.time

/-- Close at departure time (R19). -/
def closeAtDeparture (b : BerthIx) (s : State) : State :=
  if s.departureDue b then closeBerth b .departureTime s else s

/-! ### What a lane reports to its berth -/

/-- Applies a change to the berth's trip while it is OPEN or CLOSING, and recomputes its fill level. After a forward step it
evaluates close-when-full if it is OPEN. Then it tests its settlement if it is CLOSING (R11, R12, R13). -/
def tripEvent (b : BerthIx) (forwardStep : Bool) (f : Trip → Trip) (s : State) : State :=
  match s.berth b with
  | none => s
  | some t =>
    if t.phase = .departed then s
    else
      let s := recomputeFill b (changeTrip b f s)
      settle b (if forwardStep then closeWhenFull b s else s)

/-- The berth takes a consumption (R11). -/
def berthConsumption (b : BerthIx) (s : State) : State := tripEvent b true Trip.consume s

/-- The berth takes a passage without a hold (R13). -/
def berthPassage (m : Movement) (inEgress : Bool) (b : BerthIx) (s : State) : State :=
  tripEvent b (decide (m = .forward)) (Trip.countPassage m inEgress) s

/-- The berth takes a void: holds falls, void holds rises, and it tests its settlement if it is CLOSING (R12). -/
def berthVoid (b : BerthIx) (s : State) : State := tripEvent b false Trip.voidHold s

/-- The refusals counter of an OPEN berth rises (R14). -/
def countRefusal (b : BerthIx) (s : State) : State :=
  match s.berth b with
  | none => s
  | some t =>
    if t.phase = .opened then
      changeTrip b (fun t => { t with counts := { t.counts with refusals := bump t.counts.refusals } }) s
    else s

/-- A slot freed in the journal goes to the first waiting berth (R174). -/
def serveWaiting (s : State) : State :=
  match s.journal.waiting with
  | [] => s
  | b :: rest =>
    let s := { s with journal := { s.journal with waiting := rest } }
    match s.berth b with
    | none => s
    | some t =>
      match t.record with
      | none => s
      | some r => storeRecord b r s

end Sys2Proof.Machine
end

