-- ==== Sys2Proof/Machine/Tariff.lean ====
section
/-! DEFINITION. The Tariff Store: well-formed segments, loading, committing, switching and cancelling (07). -/

namespace Sys2Proof.Machine

open Sys2Proof

/-- The generation of the active set, 0 if none (R132). -/
def State.activeGeneration (s : State) : Nat := s.tariff.active.elim 0 fun t => t.fares.generation

/-- The four staged segments, when all are present (R133). -/
def StagedSet.complete? (g : StagedSet) : Option TariffSet :=
  match g.fares, g.concessions, g.schemesLow, g.schemesHigh with
  | some f, some c, some l, some h => some ⟨f, c, l, h⟩
  | _, _, _, _ => none

/-- The staged generation: that of a present segment 0 (R133). -/
def StagedSet.generation (g : StagedSet) : Option Nat := g.fares.map FareSegment.generation

/-- Which of segments 0 to 3 are present (R133). -/
def StagedSet.presentSegments (g : StagedSet) : Bool × Bool × Bool × Bool :=
  (g.fares.isSome, g.concessions.isSome, g.schemesLow.isSome, g.schemesHigh.isSome)

/-- The first field of a list that is out of range. -/
def firstBad : List (Bool × FieldName) → Option FieldName
  | [] => none
  | (ok, f) :: rest => if ok then firstBad rest else some f

/-- The checks of a repeated record list, the records counted from `k` (R199). -/
def recordChecks {α : Type} (f : Nat → α → List (Bool × FieldName)) : Nat → List α → List (Bool × FieldName)
  | _, [] => []
  | k, x :: xs => f k x ++ recordChecks f (k + 1) xs

/-- The range checks of a segment 0, in the order of its fields (R131; field names by log 13). -/
def fareChecks (g : FareSegment) : List (Bool × FieldName) :=
  [(decide (1 ≤ g.generation ∧ g.generation ≤ 65535), ⟨0, 2⟩)] ++
  recordChecks (fun k n => [(decide (n ≤ 9999), ⟨k, 1⟩)]) 1 g.matrix ++
  [(decide (1 ≤ g.s1 ∧ g.s1 ≤ 1439), ⟨0, 4⟩), (decide (1 ≤ g.s2 ∧ g.s2 ≤ 1439 ∧ g.s1 < g.s2), ⟨0, 5⟩),
   (decide (1 ≤ g.s3 ∧ g.s3 ≤ 1439 ∧ g.s2 < g.s3), ⟨0, 6⟩)]

/-- The range checks of a segment 1 (R131). -/
def concessionChecks (g : ConcessionSegment) : List (Bool × FieldName) :=
  recordChecks (fun k c => [(decide (c.discount ≤ 100), ⟨k, 1⟩), (decide (c.cap ≤ 30000), ⟨k, 2⟩)]) 1 g.table ++
  [(decide (g.transferWindow ≤ 240), ⟨0, 3⟩), (decide (g.maxTransfers ≤ 7), ⟨0, 4⟩),
   (decide (g.creditLimit ≤ 2000), ⟨0, 5⟩)]

/-- The scheme kind code of an ALLOWANCE entry (R76, R199). -/
def allowanceCode : Nat := 3

/-- The range checks of one scheme entry (R76). -/
def schemeChecks (k : Nat) (e : SchemeEntry) : List (Bool × FieldName) :=
  [(decide (e.kind ≤ 4), ⟨k, 1⟩),
   (decide (e.tripsPerDay ≤ 20 ∧ (e.kind = allowanceCode → 1 ≤ e.tripsPerDay)), ⟨k, 3⟩)]

/-- The first field out of range of a segment's contents, if any: a segment is well formed when there is none (R131). -/
def segmentBad : SegmentContents → Option FieldName
  | .fares g => firstBad (fareChecks g)
  | .concessions g => firstBad (concessionChecks g)
  | .schemes es => firstBad (recordChecks schemeChecks 1 es)
  | .unread => none

/-- The staged set with the named segment replaced (R134). -/
def StagedSet.load (n : Nat) (c : SegmentContents) (g : StagedSet) : StagedSet :=
  match n, c with
  | 0, .fares f => { g with fares := some f }
  | 1, .concessions k => { g with concessions := some k }
  | 2, .schemes es => { g with schemesLow := some es }
  | 3, .schemes es => { g with schemesHigh := some es }
  | _, _ => g

/-- A switch completes: the set becomes active whole, the staged set is emptied, the pending record is removed, and
TARIFF_SWITCHED is posted (R140). -/
def completeSwitch (set : TariffSet) (s : State) : State :=
  post (.tariffSwitched s.activeGeneration set.fares.generation s.clock.time)
    { s with tariff := ⟨some set, StagedSet.empty, none⟩ }

/-- A pending switch is cancelled with a cause (R142, R143, R144). -/
def cancelSwitch (c : CancelCause) (s : State) : State :=
  match s.tariff.pendingSwitch with
  | none => s
  | some p =>
    post (.tariffCancelled c p.generation p.effective s.activeGeneration)
      { s with tariff := { s.tariff with pendingSwitch := none } }

/-- Whether the effective-time trigger fires: service time is at or after the effective time of a pending switch (R139). -/
def State.switchDue (s : State) : Bool :=
  match s.tariff.pendingSwitch, s.clock.time with
  | some p, some t => decide (absSecond p.effective ≤ absSecond t)
  | _, _ => false

/-- The effective-time trigger (R139, R140). -/
def effectiveTrigger (s : State) : State :=
  if s.switchDue then
    match s.tariff.staged.complete? with
    | some set => completeSwitch set s
    | none => s
  else s

/-! ### Requests -/

/-- TARIFF_LOAD (R134). -/
def ownTariffLoad (n : Nat) (c : SegmentContents) (s : State) : State × Reply :=
  if 3 < n then (s, .code .range)
  else if s.tariff.pendingSwitch.isSome then (s, .code .pending)
  else
    match segmentBad c with
    | some f => (s, .rangeField f)
    | none =>
      let g := s.tariff.staged.load n c
      ({ s with tariff := { s.tariff with staged := g } },
        .tariffLoad n g.presentSegments g.generation g.complete?.isSome)

/-- TARIFF_CLEAR (R135). -/
def ownTariffClear (s : State) : State × Reply :=
  if s.tariff.pendingSwitch.isSome then (s, .code .pending)
  else if s.tariff.staged = StagedSet.empty then (s, .code .redundant)
  else ({ s with tariff := { s.tariff with staged := StagedSet.empty } }, .code .ok)

/-- The answer of every TARIFF_COMMIT (R136). -/
def commitReply (r : ResultCode) (s : State) : State × Reply :=
  (s, .tariffCommit r s.activeGeneration (s.tariff.pendingSwitch.map PendingSwitch.effective))

/-- Arms or re-arms the pending switch, and completes it at once if its effective time is reached (R138). -/
def armSwitch (set : TariffSet) (effective : Option ServiceTime) (s : State) : State :=
  match effective.or s.clock.time with
  | none => s
  | some e => effectiveTrigger { s with tariff := { s.tariff with pendingSwitch := some ⟨set.fares.generation, e⟩ } }

/-- TARIFF_COMMIT (R136, R137, R138). -/
def ownTariffCommit (generation : Nat) (effective : Option ServiceTime) (s : State) : State × Reply :=
  if generation = 0 ∨ effective.elim true timeInRange = false then commitReply .range s
  else
    match s.tariff.staged.complete? with
    | none => commitReply .incomplete s
    | some set =>
      if generation ≠ set.fares.generation then commitReply .mismatch s
      else if s.tariff.active = none then commitReply .ok (completeSwitch set s)
      else if set.fares.generation = s.activeGeneration then commitReply .redundant s
      else if s.clock.state ≠ .synced then commitReply .timeNotSynced s
      else commitReply .ok (armSwitch set effective s)

/-- TARIFF_CANCEL (R142). -/
def ownTariffCancel (s : State) : State × Reply :=
  if s.tariff.pendingSwitch.isSome then (cancelSwitch .request s, .code .ok) else (s, .code .redundant)

/-- TARIFF_QUERY (R145). -/
def ownTariffQuery (s : State) : State × Reply :=
  (s, .tariffQuery
    { activeGeneration := s.activeGeneration
      present := s.tariff.staged.presentSegments
      stagedGeneration := s.tariff.staged.generation
      complete := s.tariff.staged.complete?.isSome
      effective := s.tariff.pendingSwitch.map PendingSwitch.effective
      timeState := s.clock.state })

end Sys2Proof.Machine
end

