-- ==== Sys2Proof/Machine/Clock.lean ====
section
/-! DEFINITION. The Service Clock: advances, settings, the mark window, and the triggers it gives (08). -/

namespace Sys2Proof.Machine

open Sys2Proof

/-- The second after a service time; at day 65535, second 86399 the value is held (R149). -/
def nextSecond (t : ServiceTime) : ServiceTime :=
  if t.second < 86399 then ⟨t.day, t.second + 1⟩ else if t.day < 65535 then ⟨t.day + 1, 0⟩ else t

/-- What one owner does on a trigger of the clock: a berth's departure-time test, or the tariff's effective-time test. -/
inductive TriggerTask where
  | berth (b : BerthIx)
  | tariff
deriving DecidableEq, Repr

/-- The owners whose test on a trigger has an effect (R157). -/
def State.triggerTasks (s : State) : List TriggerTask :=
  (allBerths.filter fun b => s.departureDue b).map TriggerTask.berth ++ (if s.switchDue then [.tariff] else [])

def runTask (s : State) (t : TriggerTask) : State :=
  match t with
  | .berth b => closeAtDeparture b s
  | .tariff => effectiveTrigger s

/-- An advance or setting trigger (R157): the owners act separately, in an order the spec leaves open (R146, R153, R171;
log 3). -/
def giveTrigger (s : State) : State :=
  let (tasks, s) := freeOrder s.triggerTasks s
  tasks.foldl runTask s

/-- A setting of service time: the value and the setting run time (R149, R151). -/
def setTime (t : ServiceTime) (s : State) : State :=
  { s with clock := { s.clock with time := some t, settingRunTime := some s.runTime, advances := 0 } }

/-- The time state changes and posts TIME_STATE with its cause; a state that stays posts nothing (R153). -/
def setTimeState (st : TimeState) (c : TimeCause) (s : State) : State :=
  if s.clock.state = st then s
  else post (.timeState s.clock.state st c s.clock.time) { s with clock := { s.clock with state := st } }

/-- TIME_STEP is posted when a setting differs from the running time by more than 2 s (R152). -/
def stepNotice (old : Option ServiceTime) (new : ServiceTime) : Option Notice :=
  match old with
  | none => none
  | some o =>
    if absSecond o + 2 < absSecond new then some (.timeStep o new .forward)
    else if absSecond new + 2 < absSecond o then some (.timeStep o new .backward)
    else none

/-- TIME_MARK (R151, R152, R153). -/
def ownTimeMark (t : ServiceTime) (s : State) : State × Reply :=
  if timeInRange t = false then (s, .code .range)
  else
    let old := s.clock.time
    let s := setTime t (postOpt (stepNotice old t) s)
    let s := { s with clock := { s.clock with lastMark := some s.runTime } }
    let s := giveTrigger (setTimeState .synced .mark s)
    (s, .timeMark .synced t (old.map fun o => (absSecond t : Int) - absSecond o))

/-- Whether a further 1000 ms of run time has passed since the setting (R149). -/
def State.advanceDue (s : State) : Bool :=
  decide (s.clock.state ≠ .unset) &&
    s.clock.settingRunTime.elim false fun r => decide (r + 1000 * (s.clock.advances + 1) ≤ s.runTime)

/-- Service time advances by one second and the advance trigger is given, unless the last second is held (R149, R157). -/
def serviceAdvance (s : State) : State :=
  if s.advanceDue then
    let s := { s with clock := { s.clock with advances := s.clock.advances + 1 } }
    match s.clock.time with
    | none => s
    | some t =>
      if nextSecond t = t then s else giveTrigger { s with clock := { s.clock with time := some (nextSecond t) } }
  else s

/-- Whether the mark window has run out: in SYNCED, the interval since the last mark exceeds the window (R154). -/
def State.windowOut (s : State) : Bool :=
  decide (s.clock.state = .synced) &&
    s.clock.lastMark.elim false fun r => decide (1000 * s.supervisor.setup.markWindow < s.runTime - r)

/-- The mark window runs out: DEGRADED with TIME_STATE, then a pending switch is cancelled (R143, R154). -/
def windowExpiry (s : State) : State :=
  if s.windowOut then cancelSwitch .time (setTimeState .degraded .window s) else s

/-- A free-run start with its carried time, by the time state (R156). -/
def freeRunStart (t : ServiceTime) (s : State) : State :=
  match s.clock.state, s.clock.time with
  | .synced, _ => s
  | .unset, _ => giveTrigger (setTimeState .degraded .freeRun (setTime t s))
  | .degraded, none => giveTrigger (setTime t s)
  | .degraded, some o =>
    if absSecond o ≤ absSecond t then giveTrigger (setTime t (postOpt (stepNotice (some o) t) s)) else s

/-- Service day Ds (R114, R150). -/
def serviceDay (offset : Nat) (t : ServiceTime) : Nat := if offset ≤ t.second then t.day else t.day - 1

/-- Minute of service day m (R114, R150). -/
def serviceMinute (offset : Nat) (t : ServiceTime) : Nat :=
  (((t.second : Int) - offset) % Config.daySeconds).toNat / 60

end Sys2Proof.Machine
end

