-- ==== Sys2Proof/Machine/Fare.lean ====
section
/-! DEFINITION. The Fare Calculator: period, base fare, ride value, transfer, upgrade, charge, and what each product holds after
paying (04; 06). It holds no state (R113). -/

namespace Sys2Proof.Machine

open Sys2Proof

/-- What one presentation is priced from (R97, R113). -/
structure FareInputs where
  tariff : TariffSet
  routeClass : Nat
  now : ServiceTime
  serviceDay : Nat
  minute : Nat
  pontoonId : Nat
deriving DecidableEq, Repr

/-- The figures computed once for a presentation (R113). -/
structure Pricing where
  period : Nat
  baseFare : Nat
  rideValue : Nat
  transfer : Bool
  upgrade : Nat
deriving DecidableEq, Repr

/-- The period: how many starts are at or below the minute (R115). -/
def periodOf (g : FareSegment) (m : Nat) : Nat :=
  (if g.s1 ≤ m then 1 else 0) + (if g.s2 ≤ m then 1 else 0) + (if g.s3 ≤ m then 1 else 0)

/-- The base fare F: the matrix entry of a route class and a period (R116). -/
def baseFareOf (g : FareSegment) (routeClass period : Nat) : Nat := g.matrix.getD (4 * routeClass + period) 0

/-- The concession line of a class (R75). -/
def concessionOf (g : ConcessionSegment) (cls : Nat) : Concession := g.table.getD cls ⟨0, 0⟩

/-- The ride value G: the base fare after the discount, halves rounded up (R117). -/
def rideValueOf (fare discount : Nat) : Nat := (fare * (100 - discount) + 50) / 100

/-- The elapsed time since a boarding, clamped to 0 (R119). -/
def elapsedSince (b : LastBoarding) (now : ServiceTime) : Nat := absSecond now - absSecond ⟨b.day, b.second⟩

/-- The transfer test (R118). -/
def isTransfer (x : FareInputs) (b : Option LastBoarding) : Bool :=
  match b with
  | none => false
  | some b =>
    decide (b.pontoonId ≠ x.pontoonId) && decide (b.transferCount < x.tariff.concessions.maxTransfers) &&
      decide (elapsedSince b x.now ≤ x.tariff.concessions.transferWindow * 60)

/-- The upgrade U (R120). -/
def upgradeOf (transfer : Bool) (ride : Nat) (b : Option LastBoarding) : Nat :=
  if transfer then ride - b.elim 0 LastBoarding.rideValue else ride

/-- The once-per-presentation part (R113 to R120). -/
def price (x : FareInputs) (c : Credential) : Pricing :=
  let p := periodOf x.tariff.fares x.minute
  let f := baseFareOf x.tariff.fares x.routeClass p
  let g := rideValueOf f (concessionOf x.tariff.concessions c.concession).discount
  let tr := isTransfer x c.lastBoarding
  ⟨p, f, g, tr, upgradeOf tr g c.lastBoarding⟩

/-- The day spend taken into account, S (R121). -/
def spendTaken (d : DaySpend) (serviceDay : Nat) : Nat := if d.day < serviceDay then 0 else d.spent

/-- The charge K of a purse (R121). -/
def chargeOf (upgrade cap spent : Nat) : Nat := if cap = 0 then upgrade else min upgrade (cap - spent)

/-- The new day spend pair of a purse that pays (R123). -/
def newDaySpend (d : DaySpend) (serviceDay charge : Nat) : DaySpend :=
  ⟨max d.day serviceDay, satAdd 65535 (spendTaken d serviceDay) charge⟩

/-- The used count of an allowance taken into account (R81, R125). -/
def usedTaken (day used serviceDay : Nat) : Nat := if day < serviceDay then 0 else used

/-- The scheme entry a product names, NONE when there is no such entry (R76). -/
def schemeOf (t : TariffSet) (n : Nat) : SchemeEntry := (t.schemesLow ++ t.schemesHigh).getD n ⟨0, 0#8, 0, false⟩

/-- The scheme kind code that governs products of a kind (R76, R77). -/
def productSchemeCode (f : ProductFields) : Option Nat :=
  match f with
  | .purse _ => some 1
  | .carnet _ => some 2
  | .allowance _ _ => some 3
  | .pass _ _ => some 4
  | .unknown _ => none

/-- Whether a product applies (R77). -/
def productApplies (x : FareInputs) (p : Product) : Bool :=
  let e := schemeOf x.tariff p.scheme
  decide (productSchemeCode p.fields = some e.kind) && e.routes.getLsbD x.routeClass &&
    (match p.fields with
     | .pass f u => decide (f ≤ x.serviceDay ∧ x.serviceDay ≤ u)
     | _ => true)

/-- What a product that pays gives: its kind and charge, the day spend pair of a purse, the product record the write-back names,
and whether it is exhausted (R79 to R84). -/
structure Payment where
  kind : AdmissionKind
  charge : Nat
  daySpend : Option DaySpend
  written : Option Product
  exhausted : Bool
deriving DecidableEq, Repr

/-- Whether a product that applies can pay, with what it gives, or the reason it offers (R78 to R82, R121 to R126). -/
def payWith (x : FareInputs) (g : Pricing) (c : Credential) (p : Product) : Payment ⊕ Reason :=
  let covered := g.transfer && decide (g.upgrade = 0)
  match p.fields with
  | .purse balance =>
    let k := chargeOf g.upgrade (concessionOf x.tariff.concessions c.concession).cap (spendTaken c.daySpend x.serviceDay)
    if balance - k ≥ -(x.tariff.concessions.creditLimit : Int) then
      .inl ⟨.purse, k, some (newDaySpend c.daySpend x.serviceDay k),
        if 1 ≤ k then some { p with fields := .purse (balance - k) } else none, false⟩
    else .inr .insufficient
  | .carnet remaining =>
    if covered then .inl ⟨.carnet, 0, none, none, false⟩
    else if 1 ≤ remaining then
      .inl ⟨.carnet, 0, none, some { p with fields := .carnet (remaining - 1) }, decide (remaining - 1 = 0)⟩
    else .inr .carnetEmpty
  | .allowance day used =>
    let quota := (schemeOf x.tariff p.scheme).tripsPerDay
    let taken := usedTaken day used x.serviceDay
    if covered then .inl ⟨.allowance, 0, none, none, false⟩
    else if taken < quota then
      .inl ⟨.allowance, 0, none, some { p with fields := .allowance (max day x.serviceDay) (taken + 1) },
        decide (taken + 1 = quota)⟩
    else .inr .allowanceUsed
  | .pass _ _ => .inl ⟨.pass, 0, none, none, false⟩
  | .unknown _ => .inr .noProduct

/-- The last boarding group an admission by a product writes (R85, R127). -/
def boardingWritten (x : FareInputs) (g : Pricing) (b : Option LastBoarding) : LastBoarding where
  day := x.now.day
  second := x.now.second
  pontoonId := x.pontoonId
  routeClass := x.routeClass
  rideValue := g.rideValue
  transferCount := if g.transfer then b.elim 0 LastBoarding.transferCount + 1 else 0

/-- The outcome of a product walk. -/
inductive WalkResult where
  | used (p : Product) (payment : Payment)
  | none (reason : Reason) (slot : Option Nat)
deriving DecidableEq, Repr

/-- The product walk in card order, with its remembered reason and slot (R98). -/
def walk (x : FareInputs) (g : Pricing) (c : Credential) : Option (Reason × Nat) → List Product → WalkResult
  | remembered, [] =>
    match remembered with
    | none => .none .noProduct none
    | some (r, slot) => .none r (some slot)
  | remembered, p :: rest =>
    if productApplies x p then
      match payWith x g c p with
      | .inl pay => .used p pay
      | .inr r => if p.chain then walk x g c (some (r, p.slot)) rest else .none r (some p.slot)
    else walk x g c remembered rest

end Sys2Proof.Machine
end

