-- ==== Sys2Proof/Machine/Sensing.lean ====
section
/-! DEFINITION. Beam filters and the passage decoder (R49 to R58). -/

namespace Sys2Proof.Machine

open Sys2Proof

/-- The filter takes the present raw level of its input (R49): an unchanged raw level is no change; a level that differs from
the accepted one starts a measure, or with filter code 0 is accepted at once; a level equal to it drops the measure. -/
def Beam.rawChange (code now : Nat) (raw : Bool) (b : Beam) : Beam :=
  if raw = b.raw then b
  else if code = 0 then ⟨raw, raw, none⟩
  else if raw = b.accepted then ⟨raw, b.accepted, none⟩
  else ⟨raw, b.accepted, some ⟨raw, now, code⟩⟩

/-- Whether a measure in progress has run for the length it started with (R49, R50). -/
def Beam.due (now : Nat) (b : Beam) : Bool := b.measure.elim false fun m => decide (m.start + m.length ≤ now)

/-- An accepted change: a measure that has run for the filter time gives the accepted level its level (R49). -/
def Beam.accept (now : Nat) (b : Beam) : Beam :=
  match b.measure with
  | none => b
  | some m => if m.start + m.length ≤ now then ⟨b.raw, m.level, none⟩ else b

/-- The pair state of a lane's accepted levels under its beam order (R51, R52). -/
def Lane.pair (l : Lane) : PairState := pairOf l.beamOrder l.beamA.accepted l.beamB.accepted

/-- The side of a single-side pair state (R52). -/
def PairState.single : PairState → Option Side
  | .outerOnly => some .outer
  | .innerOnly => some .inner
  | .clear => none
  | .both => none

/-- The entry side of a movement from the state entered from CLEAR (R54). -/
def PairState.entryFrom : PairState → Option EntrySide
  | .outerOnly => some .outer
  | .innerOnly => some .inner
  | .both => some .unknown
  | .clear => none

/-- The exit side of a movement from the last single side (R56). -/
def exitSide : Option Side → EntrySide
  | some .outer => .outer
  | some .inner => .inner
  | none => .unknown

/-- The class of a movement (R56). -/
def classify (entry exit : EntrySide) : Movement :=
  match exit, entry with
  | .unknown, _ => .ambiguous
  | .inner, .outer => .forward
  | .inner, .unknown => .forward
  | .inner, .inner => .balk
  | .outer, .inner => .reverse
  | .outer, .unknown => .reverse
  | .outer, .outer => .balk

/-- What the decoder does when the pair becomes `new`: it leaves CLEAR (R54), moves between the other states (R55), or returns
to CLEAR and hands over the class with the entry side (R56, R57). Two sides accepted together are one change (R53). -/
def Decoder.take (new : PairState) (d : Decoder) : Decoder × Option (Movement × EntrySide) :=
  if new = d.pair then (d, none)
  else if d.pair = .clear then (⟨new, new.entryFrom, new.single⟩, none)
  else if new = .clear then
    let entry := d.entry.getD .unknown
    (⟨.clear, none, none⟩, some (classify entry (exitSide d.last), entry))
  else (⟨new, d.entry, new.single⟩, none)

/-- The pair state in which both sides differ (R53). -/
def PairState.opposite : PairState → PairState
  | .clear => .both
  | .both => .clear
  | .outerOnly => .innerOnly
  | .innerOnly => .outerOnly

/-- The decoder before both changes, when the other side had its accepted change at this run time and the two are one change of the pair
(R53; log 7). -/
def Lane.joined (now : Nat) (l : Lane) : Option Decoder :=
  match l.lastChange with
  | none => none
  | some c => if c.runTime = now ∧ l.pair = c.before.pair.opposite then some c.before else none

/-- The decoder takes the pair of the lane's accepted levels, from the pair before both changes when two are one (R52 to R57). A change that
is not the second of two is remembered for one of the other side at the same run time (R53). DESIGN CHOICE, unsafe (log 7): a class that the
first of two changes has handed over in its own event (R57) stands; a third change of one millisecond is joined to the second when the two are of
different sides and the second was not joined itself, and otherwise is taken from the decoder as it stands. -/
def Lane.takePair (now : Nat) (l : Lane) : Lane × Option (Movement × EntrySide) :=
  let x := ((l.joined now).getD l.decoder).take l.pair
  ({ l with decoder := x.1, lastChange := if l.joined now = none then some ⟨now, l.decoder⟩ else none }, x.2)

/-- Both filters accept what is due (R49). -/
def Lane.acceptDue (now : Nat) (l : Lane) : Lane := { l with beamA := l.beamA.accept now, beamB := l.beamB.accept now }

/-- The levels of the next raw change of lane `i` that waits in the queue, from the present raw levels `rawA` and `rawB`: what waits takes
place at the present run time (log 2), and so does its accepted change with filter code 0. DESIGN CHOICE (log 7): whatever commands stand
between, but for a power-on reset, where run time starts again. -/
def waitingRaw (i : LaneIx) (rawA rawB : Bool) : List Instr → Option (Bool × Bool)
  | [] => none
  | c :: rest =>
    match c with
    | .beamRawChange j a b => if j = i ∧ ¬(a = rawA ∧ b = rawB) then some (a, b) else waitingRaw i rawA rawB rest
    | .powerOnReset _ => none
    | _ => waitingRaw i rawA rawB rest

/-- With filter code 0 and one side's accepted change at hand, a waiting raw change of the other side alone is accepted with it, as both
fall at the same millisecond (R49, R53; log 7). `old` is the lane before the event. -/
def Lane.acceptWaiting (now : Nat) (waiting : Option (Bool × Bool)) (l old : Lane) : Lane :=
  match waiting with
  | none => l
  | some (a, b) =>
    if l.filterCode ≠ 0 then l
    else if l.beamA.accepted ≠ old.beamA.accepted ∧ l.beamB.accepted = old.beamB.accepted ∧ a = l.beamA.raw then
      { l with beamB := l.beamB.rawChange 0 now b }
    else if l.beamB.accepted ≠ old.beamB.accepted ∧ l.beamA.accepted = old.beamA.accepted ∧ b = l.beamB.raw then
      { l with beamA := l.beamA.rawChange 0 now a }
    else l

/-- The lane with its decoder re-seated from its accepted levels (R58). -/
def Lane.reseat (l : Lane) : Lane := { l with decoder := Decoder.reseated l.pair, lastChange := none }

end Sys2Proof.Machine
end

