-- ==== Sys2Proof/Machine/LaneUnit.lean ====
section
/-! DEFINITION. The lane units: the barrier sequence, the life of a hold, passages, faults and egress (02; R57, R59 to R67). -/

namespace Sys2Proof.Machine

open Sys2Proof

/-! ### Entering a lane state -/

/-- No timer running (R27). -/
def Lane.stopTimers (l : Lane) : Lane := { l with barrierTimer := none, passageTimer := none, clearTimer := none }

/-- The lane enters CLEARING without a hold; the clear timer starts if both beams are clear (R33, R36, R43). -/
def Lane.toClearing (now : Nat) (l : Lane) : Lane :=
  { l.stopTimers with
    state := .clearing
    hold := none
    expiryPending := false
    clearTimer := if l.decoder.pair = .clear then some (now + Config.clearInterval) else none }

/-- The lane enters CLOSING and starts its barrier timer (R36, R39). -/
def Lane.toClosing (now : Nat) (l : Lane) : Lane :=
  { l.stopTimers with state := .closing, barrierTimer := some (now + l.barrierTimeout) }

/-- The lane enters FAULT: timers stopped, cause stored, return in progress cleared, any hold gone (R38). -/
def Lane.toFault (c : LaneFaultCause) (l : Lane) : Lane :=
  { l.stopTimers with state := .fault, hold := none, faultCause := some c, returning := false }

/-- The lane enters OPEN and starts its passage timer (R31). -/
def Lane.toOpen (now : Nat) (l : Lane) : Lane :=
  { l with state := .opened, barrierTimer := none, passageTimer := some (now + l.passageTimeout) }

/-- The lane enters OPENING, with its hold kept, and starts its barrier timer (R30, R32). -/
def Lane.toOpening (now : Nat) (l : Lane) : Lane :=
  { l with
    state := .opening
    expiryPending := false
    passageTimer := none
    barrierTimer := some (now + l.barrierTimeout) }

/-- The lane enters EGRESS (R42). -/
def Lane.toEgress (l : Lane) : Lane :=
  { l.stopTimers with
    state := .egress
    hold := none
    expiryPending := false
    returning := false
    faultCause := none }

/-- The lane enters OFF: no timer runs, and it holds no hold, no deferred expiry and no fault cause (R27, R28). -/
def Lane.toOff (l : Lane) : Lane :=
  { l.stopTimers with state := .off, hold := none, expiryPending := false, faultCause := none }

/-- The lane enters OFF at a SERVICE_STOP (R41, R185). -/
def Lane.toOffAtStop (l : Lane) : Lane := { l.toOff with returning := false }

/-- A lane that stops being present enters OFF and loses its assignment (R44, R182). DESIGN CHOICE, unsafe (log 19): its return-in-progress
bit is kept, so that the lane's next closing posts LANE_RETURNED (R37). -/
def Lane.toAbsent (l : Lane) : Lane := { l.toOff with berth := none }

/-- A lane in FAULT enters OFF at RESTART (R41). -/
def Lane.offIfFault (l : Lane) : Lane := if l.state = .fault then l.toOff else l

/-! ### Reports to the berth -/

/-- The lane's berth tests its settlement after a change of lane state (R22). -/
def settleBerthOf (i : LaneIx) (s : State) : State :=
  match (s.lane i).berth with
  | none => s
  | some b => settle b s

/-- The lane's berth takes a report. -/
def reportTo (i : LaneIx) (f : BerthIx → State → State) (s : State) : State :=
  match (s.lane i).berth with
  | none => s
  | some b => f b s

/-- The lane faults: it enters FAULT, posts LANE_FAULT, and its berth tests its settlement (R38, R22). -/
def faultLane (i : LaneIx) (c : LaneFaultCause) (s : State) : State :=
  settleBerthOf i (post (.laneFault i c) (changeLane i (Lane.toFault c) s))

/-! ### Holds -/

/-- The HOLD_VOID notice of a hold (R35). -/
def voidNotice (i : LaneIx) (c : VoidCause) (h : Hold) : Notice := .holdVoid i h.card c h.charge h.kind

/-- The lane's part of a void: the hold is removed as the lane takes its next state, the list entry becomes VOID, and HOLD_VOID is
posted (R35, R109). The berth's part is `berthVoid`. -/
def dropHold (i : LaneIx) (c : VoidCause) (h : Hold) (next : Lane → Lane) (s : State) : State :=
  post (voidNotice i c h) (endEntry h .void (changeLane i (fun l => { next l with hold := none }) s))

/-- The whole of a void with no notice between the lane's and the berth's (R35, R12). -/
def voidHold (i : LaneIx) (c : VoidCause) (h : Hold) (next : Lane → Lane) (s : State) : State :=
  reportTo i berthVoid (dropHold i c h next s)

/-- A forward passage consumes the hold (R33, R108, R11). -/
def consumeHold (i : LaneIx) (h : Hold) (s : State) : State :=
  reportTo i berthConsumption (endEntry h .passed (changeLane i (Lane.toClearing s.runTime) s))

/-- The lane receives a hold: OPENING with the barrier timer, the ADMIT event, and OPEN at once if the sense shows open
(R30, R31). -/
def takeHold (i : LaneIx) (h : Hold) (s : State) : State :=
  let s := changeLane i (fun l => { l.toOpening s.runTime with hold := some h }) s
  let s := raiseEvent .admission i s
  if (s.lane i).sense then changeLane i (Lane.toOpen s.runTime) s else s

/-! ### Clearing and closing -/

/-- The closing completes: CLOSED, or OFF while the pontoon is OUT_OF_SERVICE, with LANE_RETURNED for a return (R37). -/
def completeClosing (i : LaneIx) (s : State) : State :=
  let returned := (s.lane i).returning
  let last := if s.supervisor.state = .outOfService then LaneState.off else .closed
  let s := changeLane i (fun l => { l with state := last, barrierTimer := none, returning := false }) s
  settleBerthOf i (if returned then post (.laneReturned i) s else s)

/-- The lane enters CLOSING; a sense that already shows closed completes the closing at once (R36, R37, R39). -/
def startClosing (i : LaneIx) (f : Lane → Lane) (s : State) : State :=
  let s := settleBerthOf i (changeLane i (fun l => (f l).toClosing s.runTime) s)
  if (s.lane i).sense then s else completeClosing i s

/-- The clear timer follows the beams of a lane in CLEARING (R36). -/
def followClear (i : LaneIx) (s : State) : State :=
  let l := s.lane i
  if l.state = .clearing then
    if l.decoder.pair = .clear then
      if l.clearTimer = none then setLane i (fun l => { l with clearTimer := some (s.runTime + Config.clearInterval) }) s
      else s
    else setLane i (fun l => { l with clearTimer := none }) s
  else s

/-! ### Passages -/

/-- The hold that a forward passage consumes: the one of a lane in OPENING or OPEN (R33, R40). -/
def Lane.consumable (l : Lane) : Option Hold := if l.state = .opening ∨ l.state = .opened then l.hold else none

/-- The class of a passage (R60). -/
def passageClass (s : State) (i : LaneIx) (consumes : Bool) : PassageClass :=
  if s.boardingTrip i = none then .stray
  else if (s.lane i).state = .egress then .egress
  else if consumes then .paid
  else .unpaid

/-- The notice that announces a passage; a balk is not announced (R59, R61, R62). -/
def passageNotice (s : State) (i : LaneIx) (m : Movement) (entry : EntrySide) (consumed : Option Hold) : Option Notice :=
  let b := (s.lane i).berth
  let c := passageClass s i consumed.isSome
  match m with
  | .forward => some (.passage i b .forward c (if c = .paid then consumed.map Hold.card else none))
  | .reverse => some (.passage i b .reverse c none)
  | .ambiguous => some (.ambiguous i b entry c)
  | .balk => none

/-- A classified passage without a hold is reported to the berth; a balk is reported to nobody (R40). -/
def reportPassage (i : LaneIx) (m : Movement) (inEgress : Bool) (s : State) : State :=
  if m = .balk then s else reportTo i (berthPassage m inEgress) s

/-- The hold that a movement settling a deferred expiry voids (R34). -/
def Lane.deferredHold (l : Lane) : Option Hold := if l.expiryPending then l.hold else none

/-- The lane unit takes a class from its decoder (R34, R40, R57, R59). A forward passage at a lane with a hold consumes it. Any
other movement settles a deferred expiry as a void. The notices stand in the order PASSAGE or AMBIGUOUS, HOLD_VOID, the berth's
for the passage, the berth's for the void (R59). A lane that is not present announces and reports nothing. -/
def takeMovement (i : LaneIx) (m : Movement) (entry : EntrySide) (s : State) : State :=
  if s.lanePresent i then
    let consumed := if m = .forward then (s.lane i).consumable else none
    let inEgress := decide ((s.lane i).state = .egress)
    let s := postOpt (passageNotice s i m entry consumed) s
    match consumed with
    | some h => consumeHold i h s
    | none =>
      match (s.lane i).deferredHold with
      | none => reportPassage i m inEgress s
      | some h =>
        reportTo i berthVoid
          (reportPassage i m inEgress (dropHold i .timeout h (Lane.toClearing s.runTime) s))
  else s

/-- The decoder takes the lane's accepted levels; the lane unit acts on the class first and on both-clear second (R53, R57). -/
def takeBeams (i : LaneIx) (s : State) : State :=
  let x := (s.lane i).takePair s.runTime
  let s := setLane i (fun _ => x.1) s
  let s :=
    match x.2 with
    | none => s
    | some (m, entry) => takeMovement i m entry s
  followClear i s

/-- The accepted changes of a lane's event are taken, with what is accepted at the same run time: every measure that is due, and a waiting
raw change of the other side (R49, R53; log 7). `old` is the lane before the event. -/
def takeAccepted (i : LaneIx) (old : Lane) (s : State) : State :=
  let waiting := waitingRaw i (s.lane i).beamA.raw (s.lane i).beamB.raw s.pending
  takeBeams i (setLane i (fun l => (l.acceptDue s.runTime).acceptWaiting s.runTime waiting old) s)

/-- A raw change of one or both beam inputs of a lane (R49). With filter code 0 an accepted change takes place at once. -/
def beamRaw (i : LaneIx) (rawA rawB : Bool) (s : State) : State :=
  let l := s.lane i
  let a := l.beamA.rawChange l.filterCode s.runTime rawA
  let b := l.beamB.rawChange l.filterCode s.runTime rawB
  let s := setLane i (fun l => { l with beamA := a, beamB := b }) s
  if a.accepted = l.beamA.accepted ∧ b.accepted = l.beamB.accepted then s else takeAccepted i l s

/-- The accepted changes of a lane that are due at this run time, taken as one change of the pair (R49, R53). -/
def beamAccepted (i : LaneIx) (s : State) : State :=
  if (s.lane i).beamA.due s.runTime || (s.lane i).beamB.due s.runTime then takeAccepted i (s.lane i) s else s

/-! ### Barrier events -/

/-- A change of the barrier-open sense (R31, R32, R36, R37, R38). In the other states the lane ignores it (R38, R42). -/
def senseChange (i : LaneIx) (isOpen : Bool) (s : State) : State :=
  if (s.lane i).sense = isOpen then s
  else
    let s := setLane i (fun l => { l with sense := isOpen }) s
    match (s.lane i).state, isOpen with
    | .opening, true => settleBerthOf i (changeLane i (Lane.toOpen s.runTime) s)
    | .opened, false => settleBerthOf i (changeLane i (Lane.toOpening s.runTime) s)
    | .clearing, false => faultLane i .forced s
    | .closing, false => completeClosing i s
    | .closed, true => faultLane i .forced s
    | _, _ => s

/-- Whether a timer is running and due. -/
def timerDue (now : Nat) (t : Option Nat) : Bool := t.elim false fun d => decide (d ≤ now)

/-- The barrier timer expires: an opening lane voids its hold and faults; HOLD_VOID stands before LANE_FAULT and both before the
berth's notices (R31, R35). A closing lane faults (R37). -/
def barrierExpiry (i : LaneIx) (s : State) : State :=
  if timerDue s.runTime (s.lane i).barrierTimer then
    match (s.lane i).state with
    | .opening =>
      match (s.lane i).hold with
      | some h =>
        reportTo i berthVoid
          (post (.laneFault i .openTimeout) (dropHold i .fault h (Lane.toFault .openTimeout) s))
      | none => faultLane i .openTimeout s
    | .closing => faultLane i .closeTimeout s
    | _ => s
  else s

/-- The passage timer expires in OPEN: with both beams clear the hold is voided; otherwise the expiry is deferred (R34). -/
def passageExpiry (i : LaneIx) (s : State) : State :=
  if (s.lane i).state = .opened ∧ timerDue s.runTime (s.lane i).passageTimer = true then
    if (s.lane i).decoder.pair = .clear then
      match (s.lane i).hold with
      | some h => voidHold i .timeout h (Lane.toClearing s.runTime) s
      | none => settleBerthOf i (changeLane i (Lane.toClearing s.runTime) s)
    else setLane i (fun l => { l with expiryPending := true, passageTimer := none }) s
  else s

/-- The clear timer expires: the lane leaves CLEARING by the pontoon state at that moment (R36, R43). -/
def clearExpiry (i : LaneIx) (s : State) : State :=
  if (s.lane i).state = .clearing ∧ timerDue s.runTime (s.lane i).clearTimer = true then
    match s.supervisor.state with
    | .inService => startClosing i id s
    | .outOfService => settleBerthOf i (changeLane i Lane.toOff s)
    | _ => s
  else s

/-- A running lamp pulse ends (R47). -/
def pulseEnd (i : LaneIx) (s : State) : State :=
  if timerDue s.runTime (s.lamp i).pulseDue then { s with lamps := s.lamps.set i { s.lamp i with pulseDue := none } } else s

/-! ### Service and egress -/

/-- A present lane in OFF looks at its sense when service starts (R41). -/
def laneAtStart (s : State) (i : LaneIx) : State :=
  if s.lanePresent i ∧ (s.lane i).state = .off then
    if (s.lane i).sense then faultLane i .forced s else changeLane i (fun l => { l with state := .closed }) s
  else s

/-- A present lane enters OFF when service stops (R41, R185). -/
def laneAtStop (s : State) (i : LaneIx) : State := if s.lanePresent i then changeLane i Lane.toOffAtStop s else s

/-- A present lane enters EGRESS, voiding its hold with cause EGRESS; its HOLD_VOID stands before its berth's notices
(R42, R187). -/
def laneToEgress (s : State) (i : LaneIx) : State :=
  if s.lanePresent i ∧ (s.lane i).state ≠ .egress then
    match (s.lane i).hold with
    | some h => voidHold i .egress h Lane.toEgress s
    | none => settleBerthOf i (changeLane i Lane.toEgress s)
  else s

/-- A lane in EGRESS enters CLEARING when demand becomes false (R43). -/
def laneFromEgress (s : State) (i : LaneIx) : State :=
  if (s.lane i).state = .egress then settleBerthOf i (changeLane i (Lane.toClearing s.runTime) s) else s

end Sys2Proof.Machine
end

