-- ==== Sys2Proof/Machine/Admission.lean ====
section
/-! DEFINITION. The Admission Engine: malformed records, the order of checks, the courtesy path, the grant and the decision
(R73, R87 to R112). -/

namespace Sys2Proof.Machine

open Sys2Proof

/-! ### Malformed records (R73) -/

def boardingMalformed (b : LastBoarding) : Bool :=
  decide (86399 < b.second) || decide (b.pontoonId = 0) || decide (7 < b.routeClass) || decide (9999 < b.rideValue) ||
  decide (7 < b.transferCount)

def fieldsMalformed : ProductFields → Bool
  | .purse b => decide (b < -2000) || decide (99999 < b)
  | .carnet n => decide (99 < n)
  | .allowance _ u => decide (20 < u)
  | .pass f u => decide (u < f)
  | .unknown _ => true

def productMalformed (p : Product) : Bool := decide (3 < p.slot) || decide (31 < p.scheme) || fieldsMalformed p.fields

/-- Whether two products of the list share a slot. -/
def slotShared : List Product → Bool
  | [] => false
  | p :: ps => ps.any (fun q => decide (q.slot = p.slot)) || slotShared ps

/-- A credential record is malformed (R73). -/
def malformed (c : Credential) : Bool :=
  decide (c.card = 0) || decide (1 < c.cardState) || decide (7 < c.concession) ||
  c.lastBoarding.elim false boardingMalformed || decide (4 < c.products.length) || c.products.any productMalformed ||
  slotShared c.products

/-! ### The list entries a presentation meets -/

/-- The HELD entry of a card, on any trip (R93). -/
def heldEntry (card : Nat) (es : List Entry) : Option Entry :=
  es.find? fun e => decide (e.card = card) && decide (e.state = .held)

/-- The entry of a pair in a state (R94, R95). -/
def entryIn (card tripRef : Nat) (st : EntryState) (es : List Entry) : Option Entry :=
  es.find? fun e => e.isFor card tripRef && decide (e.state = st)

/-- The VOID entry that opens the courtesy path: within the courtesy window, which must not be 0 (R95). -/
def courtesyEntry (s : State) (card tripRef : Nat) : Option Entry :=
  match entryIn card tripRef .void s.recent with
  | none => none
  | some e =>
    if s.supervisor.setup.courtesyWindow ≠ 0 ∧ s.runTime - e.changedAt ≤ 1000 * s.supervisor.setup.courtesyWindow then
      some e
    else none

/-- The matched entry detail, as the entry stands before the presentation (R103). -/
def detailOf (s : State) (e : Entry) : EntryDetail :=
  ⟨e.berth, e.lane, e.state, e.charge, e.kind, s.runTime - e.admittedAt, s.runTime - e.changedAt⟩

/-! ### The order of checks (R88) -/

/-- What the checks decide. -/
inductive Judgement where
  | refuse (reason : Reason) (slot : Option Nat) (detail : Option EntryDetail)
  | courtesy (i : LaneIx) (b : BerthIx) (t : Trip) (detail : EntryDetail)
  | pays (i : LaneIx) (b : BerthIx) (t : Trip) (x : FareInputs) (g : Pricing) (p : Product) (payment : Payment)
deriving DecidableEq, Repr

/-- What the Fare Calculator is handed (R97). -/
def fareInputs (s : State) (t : Trip) (set : TariffSet) (now : ServiceTime) : FareInputs where
  tariff := set
  routeClass := t.context.routeClass
  now := now
  serviceDay := serviceDay s.supervisor.setup.dayStartOffset now
  minute := serviceMinute s.supervisor.setup.dayStartOffset now
  pontoonId := s.supervisor.setup.pontoonId

/-- Step 11: the presentation is priced and its products are walked (R97, R98). -/
def judgeFare (s : State) (i : LaneIx) (b : BerthIx) (t : Trip) (c : Credential) : Judgement :=
  match s.tariff.active, s.clock.time with
  | some set, some now =>
    let x := fareInputs s t set now
    let g := price x c
    match walk x g c none c.products with
    | .used p pay => .pays i b t x g p pay
    | .none r slot => .refuse r slot none
  | _, _ => .refuse .noProduct none none

/-- Whether a fill level leaves a free place (R8, R96). -/
def FillLevel.admits : FillLevel → Bool
  | .room => true
  | .near => true
  | .full => false
  | .overfull => false

/-- Steps 9 to 11 (R95, R96, R97). -/
def judgePlace (s : State) (i : LaneIx) (b : BerthIx) (t : Trip) (c : Credential) : Judgement :=
  match courtesyEntry s c.card t.context.tripRef with
  | some e => if t.fill.admits then .courtesy i b t (detailOf s e) else .refuse .full none (some (detailOf s e))
  | none => if t.fill.admits then judgeFare s i b t c else .refuse .full none none

/-- Steps 4 to 8: the card and its history (R92, R93, R94). -/
def judgeCard (s : State) (i : LaneIx) (b : BerthIx) (t : Trip) (c : Credential) : Judgement :=
  if malformed c then .refuse .cardFormat none none
  else if c.cardState = 1 then .refuse .cardBlocked none none
  else if s.denied c.card then .refuse .denied none none
  else
    match heldEntry c.card s.recent with
    | some e => .refuse .inProgress none (some (detailOf s e))
    | none =>
      match entryIn c.card t.context.tripRef .passed s.recent with
      | some e => .refuse .passback none (some (detailOf s e))
      | none => judgePlace s i b t c

/-- The refusal a lane state gives at step 2 (R90); CLOSED passes. -/
def LaneState.refusal : LaneState → Option Reason
  | .off => some .laneUnavailable
  | .fault => some .laneUnavailable
  | .closed => none
  | _ => some .laneBusy

/-- Steps 1 to 3 and what follows (R88 to R91). -/
def judge (s : State) (lane : Nat) (c : Credential) : Judgement :=
  if s.supervisor.state ≠ .inService then .refuse .notInService none none
  else
    match s.lane? lane with
    | none => .refuse .laneUnavailable none none
    | some i =>
      match (s.lane i).berth with
      | none => .refuse .laneUnavailable none none
      | some b =>
        if s.berthPresent b = false then .refuse .laneUnavailable none none
        else
          match (s.lane i).state.refusal with
          | some r => .refuse r none none
          | none =>
            match s.berth b with
            | none => .refuse .berthNotBoarding none none
            | some t => if t.phase ≠ .opened then .refuse .berthNotBoarding none none else judgeCard s i b t c

/-! ### Effects -/

/-- The effects of a refusal: the refusals counter of an OPEN berth, and the REFUSE lamp event (R14, R46, R87). -/
def applyRefusal (lane : Nat) (s : State) : State :=
  match s.lane? lane with
  | none => s
  | some i => raiseEvent .refuse i (reportTo i countRefusal s)

/-- The effects of a grant: lane, berth, list, and the exhaustion notice (R10, R30, R83, R99, R101). -/
def applyGrant (i : LaneIx) (b : BerthIx) (ref card : Nat) (kind : AdmissionKind) (charge : Nat)
    (exhausted : Option Notice) (s : State) : State :=
  let generation := s.activeGeneration
  let s := takeHold i ⟨card, ref, charge, kind⟩ s
  let s := recomputeFill b (changeTrip b (Trip.takeHold kind charge generation) s)
  let e : Entry := ⟨card, ref, b, i, .held, charge, kind, s.runTime, s.runTime⟩
  postOpt exhausted { s with recent := recordAdmission e s.recent }

/-- The PRODUCT_EXHAUSTED notice of a grant, when its scheme asks for it (R83). -/
def exhaustedNotice (x : FareInputs) (card : Nat) (p : Product) (pay : Payment) : Option Notice :=
  if pay.exhausted && (schemeOf x.tariff p.scheme).notify then some (.productExhausted card p.slot pay.kind) else none

/-- A write-back that names no group (R84). -/
def WriteBack.empty : WriteBack := ⟨false, none, none, none⟩

/-- The write-back of a refusal: DENIED alone names the card state (R74, R84). -/
def refusalWriteBack (r : Reason) : WriteBack := { WriteBack.empty with blockCard := decide (r = .denied) }

/-- The fill level and free places a berth reports while OPEN or CLOSING (R102). -/
def State.fillReport (s : State) (i : LaneIx) : Option FillReport := (s.boardingTrip i).map fun t => ⟨t.fill, t.free⟩

/-- The decision of an outcome, with the fields every decision carries, read from the state after it (R102). -/
def decisionOf (lane : Nat) (o : DecisionOutcome) (detail : Option EntryDetail) (w : WriteBack) (s : State) : Decision where
  lane := lane
  outcome := o
  berth := (s.lane? lane).bind fun i => (s.lane i).berth
  fill := (s.lane? lane).bind fun i => s.fillReport i
  degraded := decide (s.clock.state = .degraded)
  generation := s.activeGeneration
  detail := detail
  writeBack := w

/-- PRESENT (R87, R88, R99, R102, R103). -/
def ownPresent (lane : Nat) (c : Credential) (s : State) : State × Reply :=
  match judge s lane c with
  | .refuse r slot detail =>
    let s := applyRefusal lane s
    (s, .decision (decisionOf lane (.refused r slot) detail (refusalWriteBack r) s))
  | .courtesy i b t detail =>
    let s := applyGrant i b t.context.tripRef c.card .courtesy 0 none s
    (s, .decision (decisionOf lane (.granted .courtesy none 0 0 false) (some detail) WriteBack.empty s))
  | .pays i b t x g p pay =>
    let s := applyGrant i b t.context.tripRef c.card pay.kind pay.charge (exhaustedNotice x c.card p pay) s
    let w : WriteBack := ⟨false, some (boardingWritten x g c.lastBoarding), pay.daySpend, pay.written⟩
    (s, .decision (decisionOf lane (.granted pay.kind (some p.slot) pay.charge g.rideValue g.transfer) none w s))

end Sys2Proof.Machine
end

