-- ==== Sys2Proof/Machine/BerthRequests.lean ====
section
/-! DEFINITION. The berth and lane requests: BERTH_OPEN, BERTH_CLOSE, BERTH_AMEND, BERTH_QUERY (R3 to R5, R15 to R18),
LANE_ASSIGN, LANE_RETURN and LANE_LAMP (R39, R45, R48). -/

namespace Sys2Proof.Machine

open Sys2Proof

/-- The two checks every berth request shares, then the request at its berth (R3). -/
def atBerth (n : Nat) (s : State) (f : BerthIx → State × Reply) : State × Reply :=
  if s.supervisor.state = .config then (s, .code .state)
  else
    match s.berth? n with
    | none => (s, .code .range)
    | some b => f b

/-- The fill level and free places that an answer reports of a berth; absent in VACANT (log 11). -/
def berthFillReport (b : Berth) : Option FillReport := b.map fun t => ⟨t.fill, t.free⟩

/-- Whether another berth that is OPEN, CLOSING or DEPARTED has this trip reference (R4). -/
def State.tripRefInUse (s : State) (b : BerthIx) (ref : Nat) : Bool :=
  allBerths.any fun b' =>
    decide (b' ≠ b) && (s.berth b').elim false fun t => decide (t.context.tripRef = ref)

/-- The trip context a BERTH_OPEN sets up, aboard at open clamped to the capacity (R4, R5). -/
def openContext (r : OpenRequest) : TripContext :=
  ⟨r.tripRef, r.vessel, r.routeClass, r.capacity, min r.aboard r.capacity, r.departure, r.closeAtDeparture, r.closeWhenFull,
    r.margin⟩

/-- The trip a BERTH_OPEN sets up, its fill level computed and latched (R5, R9). -/
def openedTrip (r : OpenRequest) (s : State) : Trip :=
  let t : Trip :=
    { phase := .opened
      context := openContext r
      openTime := s.clock.time
      counts := { Counts.zero with onboard := min r.aboard r.capacity }
      flags := TripFlags.clear
      firstGeneration := 0
      lastGeneration := 0
      fill := .room
      closeCause := none
      closeTime := none
      departureTime := none
      record := none }
  { t with fill := s.tripFill t, flags := TripFlags.clear.latch (s.tripFill t) }

/-- The berth opens: FILL, then BERTH_STATE, then its two closing conditions, close-when-full first (R5). -/
def openBerth (b : BerthIx) (r : OpenRequest) (s : State) : State :=
  let t := openedTrip r s
  let s := changeBerth b (fun _ => some t) s
  let s := postBerthState b .opened r.tripRef none (post (fillNotice b t t.fill) s)
  closeAtDeparture b (closeWhenFull b s)

/-- BERTH_OPEN (R3, R4, R5). -/
def ownBerthOpen (r : OpenRequest) (s : State) : State × Reply :=
  atBerth r.berth s fun b =>
    if openInRange r = false then (s, .code .range)
    else if s.supervisor.state ≠ .inService then (s, .code .state)
    else if s.berth b ≠ none then (s, .code .state)
    else if s.tripRefInUse b r.tripRef then (s, .code .busy)
    else
      let s := openBerth b r s
      (s, .berthOpen (decide (r.capacity < r.aboard)) b (berthFillReport (s.berth b)) (berthStateOf (s.berth b)))

/-- BERTH_CLOSE (R15). -/
def ownBerthClose (n : Nat) (s : State) : State × Reply :=
  atBerth n s fun b =>
    match s.berth b with
    | none => (s, .code .state)
    | some t =>
      match t.phase with
      | .opened => (closeBerth b .request s, .code .ok)
      | .closing => (s, .code .redundant)
      | .departed => (s, .code .state)

/-- The amended trip context (R16, R17). -/
def amendContext (r : AmendRequest) (c : TripContext) : TripContext :=
  { c with
    capacity := r.capacity.getD c.capacity
    departure := amended c.departure r.departure
    closeAtDeparture := r.closeAtDeparture.getD c.closeAtDeparture
    closeWhenFull := r.closeWhenFull.getD c.closeWhenFull
    margin := amended c.margin r.margin }

/-- BERTH_AMEND (R16, R17). -/
def ownBerthAmend (r : AmendRequest) (s : State) : State × Reply :=
  atBerth r.berth s fun b =>
    if amendInRange r = false then (s, .code .range)
    else if berthStateOf (s.berth b) ≠ .opened then (s, .code .state)
    else
      let s := changeTrip b (fun t => { t with context := amendContext r t.context }) s
      let s := closeAtDeparture b (closeWhenFull b (recomputeFill b s))
      (s, .berthAmend (berthStateOf (s.berth b)) (berthFillReport (s.berth b)))

/-- What BERTH_QUERY reports of a trip (R18). -/
def queryReport (s : State) (b : BerthIx) (t : Trip) : QueryReport where
  trip := t
  margin := s.effectiveMargin t
  marginIsDefault := t.context.margin.isNone
  free := t.free
  waiting := s.journal.waiting.contains b

/-- BERTH_QUERY (R18). -/
def ownBerthQuery (n : Nat) (s : State) : State × Reply :=
  atBerth n s fun b => (s, .berthQuery ((s.berth b).map (queryReport s b)))

/-! ### Lane requests -/

/-- The CONFIG and lane number checks of a lane request (R39, R45, R48). -/
def atLane (n : Nat) (s : State) (f : LaneIx → State × Reply) : State × Reply :=
  if s.supervisor.state = .config then (s, .code .state)
  else
    match s.lane? n with
    | none => (s, .code .range)
    | some i => f i

/-- A berth that may be none tests its settlement. -/
def settleOpt (b : Option BerthIx) (s : State) : State :=
  match b with
  | none => s
  | some b => settle b s

/-- The assignment is replaced; the berth it leaves and the berth it joins test their settlement (R45). -/
def assignLane (i : LaneIx) (b : Option BerthIx) (s : State) : State :=
  let old := (s.lane i).berth
  if old = b then s else settleOpt b (settleOpt old (changeLane i (fun l => { l with berth := b }) s))

/-- The berth a LANE_ASSIGN names: none, a present berth, or out of range (R45). -/
def assignTarget (s : State) (n : Option Nat) : Option (Option BerthIx) :=
  match n with
  | none => some none
  | some n => (s.berth? n).map some

/-- LANE_ASSIGN (R45). -/
def ownLaneAssign (n : Nat) (berth : Option Nat) (s : State) : State × Reply :=
  atLane n s fun i =>
    match assignTarget s berth with
    | none => (s, .code .range)
    | some b => if (s.lane i).state.busy then (s, .code .busy) else (assignLane i b s, .laneAssign n b)

/-- LANE_RETURN (R39). -/
def ownLaneReturn (n : Nat) (s : State) : State × Reply :=
  atLane n s fun i =>
    if (s.lane i).state ≠ .fault then (s, .code .state)
    else (startClosing i (fun l => { l with faultCause := none, returning := true }) s, .code .ok)

/-- The pulse width a LANE_LAMP selects: nearest allowed with PULSE, the held one otherwise (R48). -/
def selectedPulse (w : LampWidth) (carried held : Nat) : Nat := if w = .pulse then nearestPulse carried else held

/-- The lamp under a selection. One that differs from the one held replaces it, ends a running pulse and clears the latch; the
clear-latch option is applied first (R48). -/
def Lamp.select (sel : LampSelection) (clearLatch : Bool) (l : Lamp) : Lamp :=
  let l := if clearLatch then { l with latch := false } else l
  if l.condition = sel.condition ∧ l.width = sel.width ∧ l.pulseWidth = sel.pulseWidth then l
  else ⟨sel.condition, sel.width, sel.pulseWidth, false, none⟩

/-- Selects a lane's lamp; a level condition that is true when a new selection takes it rises (R46, R48). -/
def selectLamp (i : LaneIx) (sel : LampSelection) (clearLatch : Bool) (s : State) : State :=
  let old := s.lamp i
  let s := { s with lamps := s.lamps.set i (old.select sel clearLatch) }
  if old.condition = sel.condition ∧ old.width = sel.width ∧ old.pulseWidth = sel.pulseWidth then s
  else if s.level i then { s with lamps := s.lamps.set i ((s.lamp i).rise s.runTime false) }
  else s

/-- LANE_LAMP (R48). -/
def ownLaneLamp (r : LampRequest) (s : State) : State × Reply :=
  atLane r.lane s fun i =>
    match LampCondition.ofCode r.condition, LampWidth.ofCode r.width with
    | some c, some w =>
      let sel : LampSelection := ⟨c, w, selectedPulse w r.pulseWidth (s.lamp i).pulseWidth⟩
      (selectLamp i sel r.clearLatch s,
        .laneLamp (decide (w = .pulse) && decide (nearestPulse r.pulseWidth ≠ r.pulseWidth)) sel)
    | _, _ => (s, .code .range)

end Sys2Proof.Machine
end

