-- ==== Sys2Proof/Machine/Supervisor.lean ====
section
/-! DEFINITION. The Pontoon Supervisor: setup, service start and stop, egress, restart and status (10), and the requests of the
Trip Journal (R172, R173). -/

namespace Sys2Proof.Machine

open Sys2Proof

/-! ### Pontoon state and egress -/

/-- The pontoon state changes and posts PONTOON_STATE (R178). -/
def setPontoon (st : PontoonState) (ret : Option PontoonState) (c : PontoonCause) (s : State) : State :=
  post (.pontoonState s.supervisor.state st c ret s.clock.time)
    { s with supervisor := { s.supervisor with state := st, returnState := ret } }

/-- The EGRESS notice of a change of demand (R186). -/
def egressNotice (s : State) (p : EgressPhase) (c : EgressCause) : Notice :=
  .egress p c s.supervisor.line.accepted s.supervisor.latch s.clock.time

/-- The pontoon enters EGRESS: it remembers the state left, posts PONTOON_STATE and, when the demand has changed in this event,
EGRESS; then every present lane enters EGRESS in ascending order (R187). -/
def enterEgress (changed : Option EgressCause) (s : State) : State :=
  let s := setPontoon .egress (some s.supervisor.state) .egressBegin s
  let s := postOpt (changed.map (egressNotice s .begins)) s
  allLanes.foldl laneToEgress s

/-- The pontoon leaves EGRESS for its return state; every lane in EGRESS enters CLEARING (R189). -/
def leaveEgress (c : EgressCause) (s : State) : State :=
  let s := setPontoon (s.supervisor.returnState.getD .outOfService) none .egressEnd s
  let s := post (egressNotice s .ends c) s
  allLanes.foldl laneFromEgress s

/-- What a change of the line level or the latch does, given the demand before it (R186, R187, R189). -/
def demandEvent (before : Bool) (c : EgressCause) (s : State) : State :=
  if s.demand = before then s
  else if s.demand then
    match s.supervisor.state with
    | .outOfService => enterEgress (some c) s
    | .inService => enterEgress (some c) s
    | _ => post (egressNotice s .begins c) s
  else
    match s.supervisor.state with
    | .egress => leaveEgress c s
    | _ => post (egressNotice s .ends c) s

/-- The answer of EGRESS_BEGIN and EGRESS_END (R186). -/
def egressReply (r : ResultCode) (s : State) : State × Reply :=
  (s, .egress r s.supervisor.latch s.supervisor.line.accepted s.demand s.supervisor.state)

/-- The egress request latch takes a value (R186). -/
def setLatch (v : Bool) (s : State) : State :=
  demandEvent s.demand .request { s with supervisor := { s.supervisor with latch := v } }

/-- EGRESS_BEGIN (R186). -/
def ownEgressBegin (s : State) : State × Reply :=
  if s.supervisor.latch then egressReply .redundant s else egressReply .ok (setLatch true s)

/-- EGRESS_END (R186). -/
def ownEgressEnd (s : State) : State × Reply :=
  if s.supervisor.latch then egressReply .ok (setLatch false s) else egressReply .redundant s

/-- A raw change of the emergency line: its measure starts or is dropped (R49, R177). -/
def lineRaw (raw : Bool) (s : State) : State :=
  let l := s.supervisor.line
  if raw = l.raw then s
  else
    { s with
      supervisor := { s.supervisor with
        line := ⟨raw, l.accepted, if raw = l.accepted then none else some s.runTime⟩ } }

/-- Whether the line's measure has run for its fixed filter time (R177). -/
def State.lineDue (s : State) : Bool :=
  s.supervisor.line.measure.elim false fun start => decide (start + Config.lineFilterTime ≤ s.runTime)

/-- An accepted change of the emergency line (R177, R186). -/
def lineAccepted (s : State) : State :=
  if s.lineDue then
    let l := s.supervisor.line
    demandEvent s.demand .line { s with supervisor := { s.supervisor with line := ⟨l.raw, l.raw, none⟩ } }
  else s

/-! ### SETUP -/

/-- The first lane record whose beam order code is not NORMAL or SWAPPED, records counted from `k` (R181). -/
def badBeamOrder : Nat → List LaneRecord → Option FieldName
  | _, [] => none
  | k, r :: rs => if BeamOrder.ofCode r.beamOrder = none then some ⟨k, 1⟩ else badBeamOrder (k + 1) rs

/-- The first field of a SETUP that refuses it with RANGE (R181, step 2). -/
def setupBad (r : SetupRequest) : Option FieldName :=
  if r.pontoonId = 0 then some ⟨0, 1⟩
  else if r.lanesPresent = 0 ∨ 8 < r.lanesPresent then some ⟨0, 2⟩
  else if r.berthsPresent = 0 ∨ 4 < r.berthsPresent then some ⟨0, 3⟩
  else
    match badBeamOrder 1 r.lanes with
    | some f => some f
    | none => if 50 < r.defaultMargin then some ⟨0, 8⟩ else none

/-- A field name when a value had to be clamped. -/
def clampedField (f : FieldName) (carried used : Nat) : List FieldName := if carried = used then [] else [f]

/-- The clamped fields of the lane records, counted from `k` (R44). -/
def clampedLanes : Nat → List LaneRecord → List FieldName
  | _, [] => []
  | k, r :: rs =>
    clampedField ⟨k, 2⟩ r.filterCode (nearestFilter r.filterCode) ++
    clampedField ⟨k, 3⟩ r.passageTimeout (clampPassageTimeout r.passageTimeout) ++
    clampedField ⟨k, 4⟩ r.barrierTimeout (clampBarrierTimeout r.barrierTimeout) ++ clampedLanes (k + 1) rs

/-- Every clamped field of a SETUP, in the order in which R181 lists them (log 25). -/
def setupClamped (r : SetupRequest) : List FieldName :=
  clampedField ⟨0, 5⟩ r.courtesyWindow (clamp 0 120 r.courtesyWindow) ++
  clampedField ⟨0, 6⟩ r.markWindow (clamp 30 600 r.markWindow) ++
  clampedField ⟨0, 7⟩ r.dayStartOffset (clamp 0 1439 r.dayStartOffset) ++ clampedLanes 1 r.lanes

/-- The setup values a SETUP leaves, the clamped ones moved to their nearest allowed value (R150, R155, R180). -/
def setupValues (r : SetupRequest) : Setup where
  pontoonId := r.pontoonId
  lanesPresent := r.lanesPresent
  berthsPresent := r.berthsPresent
  courtesyWindow := clamp 0 120 r.courtesyWindow
  markWindow := clamp 30 600 r.markWindow
  dayStartOffset := 60 * clamp 0 1439 r.dayStartOffset
  defaultMargin := r.defaultMargin
  freeRunPermitted := r.freeRunPermitted

/-- A lane takes its record: new values, and a re-seated decoder when the beam order changes (R44, R51, R58, R182). -/
def Lane.takeRecord (r : LaneRecord) (l : Lane) : Lane :=
  let order := (BeamOrder.ofCode r.beamOrder).getD l.beamOrder
  let l' : Lane :=
    { l with
      beamOrder := order
      filterCode := nearestFilter r.filterCode
      passageTimeout := clampPassageTimeout r.passageTimeout
      barrierTimeout := clampBarrierTimeout r.barrierTimeout }
  if order = l.beamOrder then l' else l'.reseat

/-- What SETUP does to one lane: its record, or OFF without an assignment if it stops being present (R44, R182). `wasPresent` is
the number of lanes present before. -/
def setupLane (wasPresent : Nat) (r : SetupRequest) (s : State) (i : LaneIx) : State :=
  match r.lanes[i.val]? with
  | some rec => setLane i (Lane.takeRecord rec) s
  | none => if i.val < wasPresent then changeLane i Lane.toAbsent s else s

/-- SETUP (R180, R181, R182). -/
def ownSetup (r : SetupRequest) (s : State) : State × Reply :=
  if s.supervisor.state = .inService ∨ s.supervisor.state = .egress then (s, .code .state)
  else
    match setupBad r with
    | some f => (s, .rangeField f)
    | none =>
      let old := s.supervisor.setup
      let wasConfig := decide (s.supervisor.state = .config)
      let s := { s with supervisor := { s.supervisor with setup := setupValues r } }
      let s := allLanes.foldl (setupLane old.lanesPresent r) s
      let s := if wasConfig then setPontoon .outOfService none .setup s else s
      let s := if (setupValues r).markWindow = old.markWindow then s else windowExpiry s
      let s := if wasConfig && s.demand then enterEgress none s else s
      (s, .setup (setupClamped r) s.supervisor.state)

/-! ### Service start and stop -/

/-- The time condition of SERVICE_START (R183, step 4). -/
def startTimeHolds (freeRun : Option ServiceTime) (s : State) : Bool :=
  decide (s.clock.state = .synced) || (freeRun.isSome && s.supervisor.setup.freeRunPermitted)

/-- The Service Clock acts on a permitted free-run option (R184, step 1). -/
def applyFreeRun (freeRun : Option ServiceTime) (s : State) : State :=
  match freeRun with
  | none => s
  | some t => if s.supervisor.setup.freeRunPermitted then freeRunStart t s else s

/-- How many present lanes are in a state. -/
def State.lanesIn (s : State) (st : LaneState) : Nat :=
  (allLanes.filter fun i => s.lanePresent i && decide ((s.lane i).state = st)).length

/-- SERVICE_START (R183, R184). -/
def ownServiceStart (freeRun : Option ServiceTime) (s : State) : State × Reply :=
  if s.supervisor.state ≠ .outOfService then (s, .code .state)
  else if freeRun.elim true timeInRange = false then (s, .code .range)
  else if s.tariff.active = none then (s, .code .noTariff)
  else if startTimeHolds freeRun s = false then (s, .code .timeNotSynced)
  else
    let s := setPontoon .inService none .start (applyFreeRun freeRun s)
    let s := allLanes.foldl laneAtStart s
    (s, .serviceStart s.clock.state s.clock.time (s.lanesIn .closed) (s.lanesIn .fault))

/-- The present berths that are not VACANT, with their states (R185). DESIGN CHOICE, unsafe (log 25): in ascending berth number, an order
that neither R185 nor R201 gives. -/
def State.activeBerths (s : State) : List (BerthIx × BerthState) :=
  (allBerths.filter fun b => s.berthPresent b && decide (berthStateOf (s.berth b) ≠ .vacant)).map fun b =>
    (b, berthStateOf (s.berth b))

/-- SERVICE_STOP (R185). -/
def ownServiceStop (s : State) : State × Reply :=
  if s.supervisor.state ≠ .inService then (s, .code .state)
  else if s.activeBerths ≠ [] then (s, .berthsActive s.activeBerths)
  else (allLanes.foldl laneAtStop (setPontoon .outOfService none .stop s), .code .ok)

/-! ### RESTART and STATUS -/

/-- What RESTART does to one lane: FAULT becomes OFF, and its decoder is re-seated (R41, R58, R191). -/
def laneAtRestart (s : State) (i : LaneIx) : State := changeLane i (fun l => l.offIfFault.reseat) s

/-- RESTART (R191). -/
def ownRestart (s : State) : State × Reply :=
  if s.supervisor.state = .inService ∨ s.supervisor.state = .egress then (s, .code .state)
  else
    let reply := Reply.restart s.link.queue.length s.link.lost
    let s := { s with link := { s.link with queue := [], lost := 0, stats := LinkStats.zero }, recent := [] }
    let s := allLanes.foldl laneAtRestart s
    let s := { s with lamps := PerLane.tabulate fun i => { s.lamp i with latch := false } }
    (cancelSwitch .restart s, reply)

/-- What STATUS reports of a berth (R192). -/
def berthStatus (b : Berth) : BerthStatus :=
  ⟨berthStateOf b, b.map Trip.fill, b.map fun t => (t.counts.onboard, t.counts.holds, t.context.capacity)⟩

/-- What STATUS reports of a lane (R192). -/
def laneStatus (l : Lane) : LaneStatus := ⟨l.state, l.berth, if l.state = .fault then l.faultCause else none⟩

/-- STATUS (R192). -/
def ownStatus (s : State) : State × Reply :=
  (s, .status
    { pontoon := s.supervisor.state
      returnState := s.supervisor.returnState
      demand := s.demand
      line := s.supervisor.line.accepted
      latch := s.supervisor.latch
      pontoonId := s.supervisor.setup.pontoonId
      lanesPresent := s.supervisor.setup.lanesPresent
      berthsPresent := s.supervisor.setup.berthsPresent
      timeState := s.clock.state
      time := s.clock.time
      activeGeneration := s.activeGeneration
      stagedGeneration := s.tariff.staged.generation
      switchPending := s.tariff.pendingSwitch.isSome
      berths := (allBerths.filter s.berthPresent).map fun b => berthStatus (s.berth b)
      lanes := allLanes.map fun i => laneStatus (s.lane i)
      denyCount := s.deny.length
      journalDepth := s.journal.records.length
      journalWaiting := s.journal.waiting.length
      queueDepth := s.link.queue.length
      lost := s.link.lost
      stats := s.link.stats })

/-! ### Trip Journal -/

/-- JOURNAL_READ (R172). -/
def ownJournalRead (s : State) : State × Reply :=
  match s.journal.records with
  | [] => (s, .journalEmptyRead 0 s.journal.waiting.length)
  | r :: _ => (s, .journalRead s.journal.records.length s.journal.waiting.length r)

/-- JOURNAL_RELEASE (R173, R174). -/
def ownJournalRelease (ref : Nat) (s : State) : State × Reply :=
  if ref = 0 then (s, .code .range)
  else
    match s.journal.records with
    | [] => (s, .journalEmptyRelease 0)
    | r :: rest =>
      if ref ≠ r.tripRef then (s, .journalMismatch r.tripRef s.journal.records.length)
      else
        let s := serveWaiting { s with journal := { s.journal with records := rest } }
        (s, .journalRelease ref s.journal.records.length s.journal.waiting.length
          (s.journal.records.head?.map TripRecord.tripRef))

/-! ### Power-on reset -/

/-- A power-on reset with these pin levels: every block takes its power-on values (R177 and the rules cited at `State.powerOn`).
The command queue and the count of free orders drawn are the model's own and stand. -/
def powerOnReset (pins : Pins) (s : State) : State := { State.powerOn pins with draws := s.draws, pending := s.pending }

end Sys2Proof.Machine
end

