-- ==== Sys2Proof/Machine/Wire.lean ====
section
/-! DEFINITION. What the controller sends, byte by byte: the encoding of fields, answers and notices, and the frame with its check
value (R194, R195, R199, R201, R202, R205, R206). -/

namespace Sys2Proof.Machine

open Sys2Proof

/-! ### Fields (R199) -/

/-- The low `k` bytes of a number, most significant byte first. -/
def be : Nat → Nat → List Byte
  | 0, _ => []
  | k + 1, n => BitVec.ofNat 8 (n / 256 ^ k) :: be k n

/-- A number that may be negative, in `k` bytes of two's complement. -/
def beSigned (k : Nat) (n : Int) : List Byte := be k (n % (256 ^ k : Nat)).toNat

/-- A flag: 1 byte, set as 1. -/
def flagBytes (b : Bool) : List Byte := be 1 (if b then 1 else 0)

/-- The emergency line level, a named value: its code is its position in R177's "asserted or clear" (R199; log 12). -/
def lineLevelBytes (asserted : Bool) : List Byte := be 1 (if asserted then 0 else 1)

/-- `n` bytes of zero. -/
def zeros (n : Nat) : List Byte := List.replicate n 0#8

/-- An optional field or group: its presence byte, then its own `k` bytes, zero when it is absent. -/
def optBytes {α : Type} (k : Nat) (f : α → List Byte) (o : Option α) : List Byte :=
  match o with
  | none => flagBytes false ++ zeros k
  | some a => flagBytes true ++ f a

/-- A field that the owning rule always gives, sent as zeros where there is none to send (log 18). -/
def alwaysBytes {α : Type} (k : Nat) (f : α → List Byte) (o : Option α) : List Byte := o.elim (zeros k) f

/-- A number of 1 byte that may be none: 0xFF for none. -/
def noneFF (o : Option Nat) : List Byte := be 1 (o.getD 255)

/-- A service time: the day in 2 bytes, then the second in 4. -/
def timeBytes (t : ServiceTime) : List Byte := be 2 t.day ++ be 4 t.second

/-- A service time that may be absent. -/
def optTime (t : Option ServiceTime) : List Byte := optBytes 6 timeBytes t

/-- A service time that is always present. -/
def theTime (t : Option ServiceTime) : List Byte := alwaysBytes 6 timeBytes t

/-- A field name of a RANGE or OK_CLAMPED answer. -/
def fieldNameBytes (f : FieldName) : List Byte := be 1 f.record ++ be 1 f.position

/-- A list of varying length: a 1-byte count, then its entries. -/
def listBytes {α : Type} (f : α → List Byte) (xs : List α) : List Byte := be 1 xs.length ++ xs.flatMap f

/-- The set of staged tariff segments present. -/
def segmentSet (p : Bool × Bool × Bool × Bool) : List Byte :=
  be 1 ((if p.1 then 1 else 0) + (if p.2.1 then 2 else 0) + (if p.2.2.1 then 4 else 0) + (if p.2.2.2 then 8 else 0))

def berthByte (b : BerthIx) : List Byte := be 1 b.val
def laneByte (i : LaneIx) : List Byte := be 1 i.val
def optBerth (b : Option BerthIx) : List Byte := noneFF (b.map fun b => b.val)

/-! ### Codes of named values (R199, R201, R205, R206) -/

def PontoonState.code : PontoonState → Nat
  | .config => 0 | .outOfService => 1 | .inService => 2 | .egress => 3

def PontoonCause.code : PontoonCause → Nat
  | .setup => 0 | .start => 1 | .stop => 2 | .egressBegin => 3 | .egressEnd => 4

def TimeState.code : TimeState → Nat
  | .unset => 0 | .synced => 1 | .degraded => 2

def TimeCause.code : TimeCause → Nat
  | .mark => 0 | .window => 1 | .freeRun => 2

def StepDirection.code : StepDirection → Nat
  | .forward => 0 | .backward => 1

def CancelCause.code : CancelCause → Nat
  | .request => 0 | .time => 1 | .restart => 2

def BerthState.code : BerthState → Nat
  | .vacant => 0 | .opened => 1 | .closing => 2 | .departed => 3

def CloseCause.code : CloseCause → Nat
  | .request => 0 | .departureTime => 1 | .full => 2

def FillLevel.code : FillLevel → Nat
  | .room => 0 | .near => 1 | .full => 2 | .overfull => 3

def LaneState.code : LaneState → Nat
  | .off => 0 | .closed => 1 | .opening => 2 | .opened => 3 | .clearing => 4 | .closing => 5 | .fault => 6 | .egress => 7

def LaneFaultCause.code : LaneFaultCause → Nat
  | .openTimeout => 0 | .closeTimeout => 1 | .forced => 2

def EntrySide.code : EntrySide → Nat
  | .outer => 0 | .inner => 1 | .unknown => 2

def Direction.code : Direction → Nat
  | .forward => 0 | .reverse => 1

def PassageClass.code : PassageClass → Nat
  | .paid => 0 | .unpaid => 1 | .stray => 2 | .egress => 3

def VoidCause.code : VoidCause → Nat
  | .timeout => 0 | .fault => 1 | .egress => 2

def AdmissionKind.code : AdmissionKind → Nat
  | .purse => 0 | .carnet => 1 | .allowance => 2 | .pass => 3 | .courtesy => 4

def EntryState.code : EntryState → Nat
  | .held => 0 | .passed => 1 | .void => 2

def LampCondition.code : LampCondition → Nat
  | .off => 0 | .on => 1 | .laneOpen => 2 | .admission => 3 | .refuse => 4 | .berthNear => 5 | .berthFull => 6
  | .berthClosing => 7 | .fault => 8 | .egress => 9

def LampWidth.code : LampWidth → Nat
  | .follow => 0 | .pulse => 1 | .latched => 2

def EgressPhase.code : EgressPhase → Nat
  | .begins => 0 | .ends => 1

def EgressCause.code : EgressCause → Nat
  | .line => 0 | .request => 1

def Reason.code : Reason → Nat
  | .notInService => 1 | .laneUnavailable => 2 | .laneBusy => 3 | .berthNotBoarding => 4 | .cardFormat => 5
  | .cardBlocked => 6 | .denied => 7 | .inProgress => 8 | .passback => 9 | .full => 10 | .noProduct => 11
  | .insufficient => 12 | .carnetEmpty => 13 | .allowanceUsed => 14

def ResultCode.code : ResultCode → Nat
  | .ok => 0x00 | .okClamped => 0x01 | .redundant => 0x02 | .unknownKind => 0x10 | .format => 0x11 | .range => 0x12
  | .state => 0x13 | .busy => 0x14 | .pending => 0x15 | .incomplete => 0x16 | .mismatch => 0x17 | .notFound => 0x18
  | .noTariff => 0x19 | .timeNotSynced => 0x1A | .berthsActive => 0x1B

/-- The result code that begins an answer body. -/
def resultByte (r : ResultCode) : List Byte := be 1 r.code

/-! ### The decision (R205) -/

/-- The layout of request offsets 8 to 19. -/
def boardingBytes (b : LastBoarding) : List Byte :=
  be 2 b.day ++ be 4 b.second ++ be 2 b.pontoonId ++ be 1 b.routeClass ++ be 2 b.rideValue ++ be 1 b.transferCount

def daySpendBytes (d : DaySpend) : List Byte := be 2 d.day ++ be 2 d.spent

/-- The kind code of a product (R204). -/
def productKindCode : ProductFields → Nat
  | .purse _ => 0
  | .carnet _ => 1
  | .allowance _ _ => 2
  | .pass _ _ => 3
  | .unknown c => c

/-- The four bytes of the kind fields, unused bytes zero (R204, R205). -/
def kindFieldBytes : ProductFields → List Byte
  | .purse b => beSigned 4 b
  | .carnet n => be 1 n ++ zeros 3
  | .allowance d u => be 2 d ++ be 1 u ++ zeros 1
  | .pass f u => be 2 f ++ be 2 u
  | .unknown _ => zeros 4

/-- The product record layout of R204. -/
def productBytes (p : Product) : List Byte :=
  be 1 p.slot ++ be 1 p.scheme ++ [p.flags] ++ be 1 (productKindCode p.fields) ++ kindFieldBytes p.fields

/-- A run time in ms, saturating at 4294967295. -/
def saturated32 (n : Nat) : Nat := min n 4294967295

/-- The matched entry detail: a presence byte and 14 bytes. -/
def detailBytes (d : EntryDetail) : List Byte :=
  berthByte d.berth ++ laneByte d.lane ++ be 1 d.state.code ++ be 2 d.charge ++ be 1 d.kind.code ++
  be 4 (saturated32 d.sinceAdmission) ++ be 4 (saturated32 d.sinceChange)

/-- The write-back mask. -/
def maskOf (w : WriteBack) : Nat :=
  (if w.blockCard then 1 else 0) + (if w.lastBoarding.isSome then 2 else 0) + (if w.daySpend.isSome then 4 else 0) +
  (if w.product.isSome then 8 else 0)

def writeBackBytes (w : WriteBack) : List Byte :=
  be 1 (maskOf w) ++ flagBytes w.blockCard ++ alwaysBytes 12 boardingBytes w.lastBoarding ++
  alwaysBytes 4 daySpendBytes w.daySpend ++ alwaysBytes 8 productBytes w.product

/-- The outcome byte: 0 ADMIT, 1 REFUSE. -/
def DecisionOutcome.code : DecisionOutcome → Nat
  | .granted _ _ _ _ _ => 0
  | .refused _ _ => 1

/-- Whether the transfer flag is set. -/
def DecisionOutcome.transfer : DecisionOutcome → Bool
  | .granted _ _ _ _ t => t
  | .refused _ _ => false

/-- Offsets 10 to 15: kind or reason, slot, charge, ride value. -/
def outcomeBytes : DecisionOutcome → List Byte
  | .granted k slot charge ride _ => be 1 k.code ++ noneFF slot ++ be 2 charge ++ be 2 ride
  | .refused r slot => be 1 r.code ++ noneFF slot ++ zeros 4

/-- The marks byte. -/
def marksOf (d : Decision) : Nat := (if d.degraded then 1 else 0) + (if d.outcome.transfer then 2 else 0)

/-- The decision after its result code, 56 bytes. -/
def decisionBytes (d : Decision) : List Byte :=
  be 1 d.lane ++ be 1 d.outcome.code ++ optBerth d.berth ++ noneFF (d.fill.map fun f => f.level.code) ++
  alwaysBytes 2 (fun f => beSigned 2 f.free) d.fill ++ be 1 (marksOf d) ++ be 2 d.generation ++ outcomeBytes d.outcome ++
  optBytes 14 detailBytes d.detail ++ writeBackBytes d.writeBack

/-! ### Trips (R18, R23) -/

def flagsBytes (f : TripFlags) : List Byte :=
  flagBytes f.near ++ flagBytes f.full ++ flagBytes f.overfull ++ flagBytes f.underflow ++ flagBytes f.overflow

/-- The counts from forward passages to refusals, then revenue, in the order of R6 and R23. -/
def counterBytes (c : Counts) : List Byte :=
  be 2 c.forward ++ be 2 c.reverse ++ be 2 c.paidPurse ++ be 2 c.paidCarnet ++ be 2 c.paidAllowance ++ be 2 c.paidPass ++
  be 2 c.courtesy ++ be 2 c.unpaid ++ be 2 c.egress ++ be 2 c.ambiguous ++ be 2 c.voids ++ be 2 c.refusals ++ be 4 c.revenue

def causeByte (c : Option CloseCause) : List Byte := alwaysBytes 1 (fun c => be 1 c.code) c

/-- A trip record, 73 bytes in the order of R23. -/
def recordBytes (r : TripRecord) : List Byte :=
  berthByte r.berth ++ be 4 r.tripRef ++ be 2 r.vessel ++ be 1 r.routeClass ++ be 2 r.capacity ++ be 2 r.aboard ++
  be 2 r.counts.onboard ++ counterBytes r.counts ++ flagsBytes r.flags ++ be 2 r.firstGeneration ++
  be 2 r.lastGeneration ++ optTime r.openTime ++ optTime r.closeTime ++ optTime r.departureTime ++ causeByte r.closeCause

/-- The trip context, in the order of R4, with the effective margin and whether it is the setup default (R18). DESIGN CHOICE, unsafe (log 17):
the berth number and the open time are not in it. -/
def contextBytes (r : QueryReport) : List Byte :=
  let c := r.trip.context
  be 4 c.tripRef ++ be 2 c.vessel ++ be 1 c.routeClass ++ be 2 c.capacity ++ be 2 c.aboard ++ optTime c.departure ++
  flagBytes c.closeAtDeparture ++ flagBytes c.closeWhenFull ++ optBytes 1 (be 1) c.margin ++ be 1 r.margin ++
  flagBytes r.marginIsDefault

/-- The report when the trip has closed: CLOSING and DEPARTED. -/
def closedReport (r : QueryReport) : Option QueryReport := if r.trip.phase = .opened then none else some r

/-- The report when the trip has departed. -/
def departedReport (r : QueryReport) : Option QueryReport := if r.trip.phase = .departed then some r else none

/-- The state and the eight groups of BERTH_QUERY, each with its presence byte (R18). -/
def queryBytes (r : Option QueryReport) : List Byte :=
  be 1 (r.elim .vacant fun r => r.trip.phase.toBerthState).code ++
  optBytes 24 contextBytes r ++
  optBytes 7 (fun r => causeByte r.trip.closeCause ++ theTime r.trip.closeTime) (r.bind closedReport) ++
  optBytes 31 (fun r => be 2 r.trip.counts.onboard ++ be 1 r.trip.counts.holds ++ counterBytes r.trip.counts) r ++
  optBytes 3 (fun r => beSigned 2 r.free ++ be 1 r.trip.fill.code) r ++
  optBytes 5 (fun r => flagsBytes r.trip.flags) r ++
  optBytes 4 (fun r => be 2 r.trip.firstGeneration ++ be 2 r.trip.lastGeneration) r ++
  optBytes 6 (fun r => theTime r.trip.departureTime) (r.bind departedReport) ++
  optBytes 1 (fun r => flagBytes r.waiting) (r.bind departedReport)

/-! ### STATUS (R192; log 16) -/

def statsBytes (k : LinkStats) : List Byte :=
  be 2 k.framesTaken ++ be 2 k.framingErrors ++ be 2 k.crcErrors ++ be 2 k.overruns ++ be 2 k.huntDiscards ++
  be 2 k.answersSent ++ be 2 k.noticesSent ++ be 2 k.noticesDiscarded

def berthStatusBytes (b : BerthStatus) : List Byte :=
  be 1 b.state.code ++ optBytes 1 (fun f => be 1 f.code) b.fill ++
  optBytes 5 (fun n => be 2 n.1 ++ be 1 n.2.1 ++ be 2 n.2.2) b.numbers

def laneStatusBytes (l : LaneStatus) : List Byte :=
  be 1 l.state.code ++ optBerth l.berth ++ optBytes 1 (fun c => be 1 c.code) l.faultCause

def statusBytes (r : StatusReport) : List Byte :=
  be 1 r.pontoon.code ++ optBytes 1 (fun p => be 1 p.code) r.returnState ++ flagBytes r.demand ++ lineLevelBytes r.line ++
  flagBytes r.latch ++ be 2 r.pontoonId ++ be 1 r.lanesPresent ++ be 1 r.berthsPresent ++
  be 1 r.timeState.code ++ optTime r.time ++
  be 2 r.activeGeneration ++ optBytes 2 (be 2) r.stagedGeneration ++ flagBytes r.switchPending ++
  r.berths.flatMap berthStatusBytes ++ r.lanes.flatMap laneStatusBytes ++
  be 2 r.denyCount ++ be 1 r.journalDepth ++ be 1 r.journalWaiting ++ be 1 r.queueDepth ++ be 1 r.lost ++
  statsBytes r.stats

/-! ### Answer bodies (R201) -/

/-- A fill level and free places that may be absent together (log 11). -/
def fillGroup (f : Option FillReport) : List Byte := optBytes 3 (fun f => be 1 f.level.code ++ beSigned 2 f.free) f

/-- OK with answer fields, or OK_CLAMPED with the list of clamped fields after them (R201). -/
def clampedBytes (clamped : List FieldName) (fields : List Byte) : List Byte :=
  if clamped = [] then resultByte .ok ++ fields else resultByte .okClamped ++ fields ++ listBytes fieldNameBytes clamped

/-- A TIME_MARK step, sent as the nearer end of the range of 4 bytes when it is beyond it (R151). -/
def stepRange (n : Int) : Int := max (-2147483648) (min 2147483647 n)

/-- The body of an answer. DESIGN CHOICE, unsafe (log 12): R168's present or absent is sent as a flag, present 1. -/
def Reply.bytes : Reply → List Byte
  | .code r => resultByte r
  | .rangeField f => resultByte .range ++ fieldNameBytes f
  | .setup clamped st => clampedBytes clamped (be 1 st.code)
  | .serviceStart st t closed faulted =>
    resultByte .ok ++ be 1 st.code ++ theTime t ++ be 1 closed ++ be 1 faulted
  | .berthsActive bs => resultByte .berthsActive ++ listBytes (fun b => berthByte b.1 ++ be 1 b.2.code) bs
  | .egress r latch line demand st =>
    resultByte r ++ flagBytes latch ++ lineLevelBytes line ++ flagBytes demand ++ be 1 st.code
  | .restart discarded lost => resultByte .ok ++ be 1 discarded ++ be 1 lost
  | .status r => resultByte .ok ++ statusBytes r
  | .timeMark st t step => resultByte .ok ++ be 1 st.code ++ timeBytes t ++ optBytes 4 (fun n => beSigned 4 (stepRange n)) step
  | .tariffLoad n present g complete =>
    resultByte .ok ++ be 1 n ++ segmentSet present ++ optBytes 2 (be 2) g ++ flagBytes complete
  | .tariffCommit r active effective => resultByte r ++ be 2 active ++ flagBytes effective.isSome ++ optTime effective
  | .tariffQuery r =>
    resultByte .ok ++ be 2 r.activeGeneration ++ segmentSet r.present ++ optBytes 2 (be 2) r.stagedGeneration ++
    flagBytes r.complete ++ flagBytes r.effective.isSome ++ optTime r.effective ++ be 1 r.timeState.code
  | .berthOpen clampedAboard b f st =>
    clampedBytes (if clampedAboard then [⟨0, 6⟩] else []) (berthByte b ++ fillGroup f ++ be 1 st.code)
  | .berthAmend st f => resultByte .ok ++ be 1 st.code ++ fillGroup f
  | .berthQuery r => resultByte .ok ++ queryBytes r
  | .laneAssign n b => resultByte .ok ++ be 1 n ++ optBerth b
  | .laneLamp clamped sel =>
    clampedBytes (if clamped then [⟨0, 4⟩] else []) (be 1 sel.condition.code ++ be 1 sel.width.code ++ be 2 sel.pulseWidth)
  | .decision d => resultByte .ok ++ decisionBytes d
  | .denyAdd added already notAdded first count full =>
    resultByte .ok ++ be 1 added ++ be 1 already ++ be 1 notAdded ++ optBytes 4 (be 4) first ++ be 2 count ++ flagBytes full
  | .denyRemove removed absent count => resultByte .ok ++ be 1 removed ++ be 1 absent ++ be 2 count
  | .denyClear r removed => resultByte r ++ be 2 removed
  | .denyCheck card present count => resultByte .ok ++ be 4 card ++ flagBytes present ++ be 2 count
  | .journalRead depth waiting r => resultByte .ok ++ be 1 depth ++ be 1 waiting ++ recordBytes r
  | .journalEmptyRead depth waiting => resultByte .notFound ++ be 1 depth ++ be 1 waiting
  | .journalEmptyRelease depth => resultByte .notFound ++ be 1 depth
  | .journalMismatch oldest depth => resultByte .mismatch ++ be 4 oldest ++ be 1 depth
  | .journalRelease released depth waiting oldest =>
    resultByte .ok ++ be 4 released ++ be 1 depth ++ be 1 waiting ++ optBytes 4 (be 4) oldest
  | .unknownKind k => resultByte .unknownKind ++ be 1 k
  | .badLength expected => resultByte .format ++ be 2 expected

/-- The result code of an answer (R201). -/
def Reply.result : Reply → ResultCode
  | .code r => r
  | .rangeField _ => .range
  | .setup clamped _ => if clamped = [] then .ok else .okClamped
  | .serviceStart _ _ _ _ => .ok
  | .berthsActive _ => .berthsActive
  | .egress r _ _ _ _ => r
  | .restart _ _ => .ok
  | .status _ => .ok
  | .timeMark _ _ _ => .ok
  | .tariffLoad _ _ _ _ => .ok
  | .tariffCommit r _ _ => r
  | .tariffQuery _ => .ok
  | .berthOpen clampedAboard _ _ _ => if clampedAboard then .okClamped else .ok
  | .berthAmend _ _ => .ok
  | .berthQuery _ => .ok
  | .laneAssign _ _ => .ok
  | .laneLamp clamped _ => if clamped then .okClamped else .ok
  | .decision _ => .ok
  | .denyAdd _ _ _ _ _ _ => .ok
  | .denyRemove _ _ _ => .ok
  | .denyClear r _ => r
  | .denyCheck _ _ _ => .ok
  | .journalRead _ _ _ => .ok
  | .journalEmptyRead _ _ => .notFound
  | .journalEmptyRelease _ => .notFound
  | .journalMismatch _ _ => .mismatch
  | .journalRelease _ _ _ _ => .ok
  | .unknownKind _ => .unknownKind
  | .badLength _ => .format

/-! ### Notice bodies (R202) -/

/-- The kind of a notice (R202). -/
def Notice.kind : Notice → Nat
  | .berthState _ _ _ _ _ => 0x40
  | .fill _ _ _ _ _ => 0x41
  | .passage _ _ _ _ _ => 0x42
  | .holdVoid _ _ _ _ _ => 0x43
  | .ambiguous _ _ _ _ => 0x44
  | .laneFault _ _ => 0x45
  | .laneReturned _ => 0x46
  | .timeState _ _ _ _ => 0x47
  | .timeStep _ _ _ => 0x48
  | .tariffSwitched _ _ _ => 0x49
  | .tariffCancelled _ _ _ _ => 0x4A
  | .productExhausted _ _ _ => 0x4B
  | .journalFull _ _ _ => 0x4C
  | .tripStored _ _ _ => 0x4D
  | .pontoonState _ _ _ _ _ => 0x4E
  | .egress _ _ _ _ _ => 0x4F

/-- The fields of a notice, after its lost count. -/
def Notice.bytes : Notice → List Byte
  | .berthState b st ref cause t =>
    berthByte b ++ be 1 st.code ++ be 4 ref ++ optBytes 1 (fun c => be 1 c.code) cause ++ theTime t
  | .fill b l onboard holds capacity => berthByte b ++ be 1 l.code ++ be 2 onboard ++ be 1 holds ++ be 2 capacity
  | .passage i b d c card => laneByte i ++ optBerth b ++ be 1 d.code ++ be 1 c.code ++ optBytes 4 (be 4) card
  | .holdVoid i card c charge kind => laneByte i ++ be 4 card ++ be 1 c.code ++ be 2 charge ++ be 1 kind.code
  | .ambiguous i b e c => laneByte i ++ optBerth b ++ be 1 e.code ++ be 1 c.code
  | .laneFault i c => laneByte i ++ be 1 c.code
  | .laneReturned i => laneByte i
  | .timeState old new c t => be 1 old.code ++ be 1 new.code ++ be 1 c.code ++ theTime t
  | .timeStep old new d => timeBytes old ++ timeBytes new ++ be 1 d.code
  | .tariffSwitched old new t => be 2 old ++ be 2 new ++ optTime t
  | .tariffCancelled c g e active => be 1 c.code ++ be 2 g ++ timeBytes e ++ be 2 active
  | .productExhausted card slot kind => be 4 card ++ be 1 slot ++ be 1 kind.code
  | .journalFull b ref depth => berthByte b ++ be 4 ref ++ be 1 depth
  | .tripStored b ref depth => berthByte b ++ be 4 ref ++ be 1 depth
  | .pontoonState old new c ret t =>
    be 1 old.code ++ be 1 new.code ++ be 1 c.code ++ optBytes 1 (fun p => be 1 p.code) ret ++ optTime t
  | .egress p c line latch t =>
    be 1 p.code ++ be 1 c.code ++ lineLevelBytes line ++ flagBytes latch ++ optTime t

/-! ### Frames (R194, R195) -/

/-- One bit step of the check register: x^16 + x^12 + x^5 + 1, most significant bit first (R195). -/
def crcShift (r : CheckWord) : CheckWord := if r.msb then (r <<< 1) ^^^ 0x1021#16 else r <<< 1

/-- The register after `n` bit steps. -/
def crcSteps : Nat → CheckWord → CheckWord
  | 0, r => r
  | n + 1, r => crcSteps n (crcShift r)

/-- One byte enters the check register, most significant bit first (R195). -/
def crcByte (r : CheckWord) (b : Byte) : CheckWord := crcSteps 8 (r ^^^ ((b.setWidth 16) <<< 8))

/-- The check value of a run of bytes: preset to all ones, not inverted at the end (R195). -/
def crcOf (bs : List Byte) : CheckWord := bs.foldl crcByte 0xFFFF#16

/-- The check value over the length, kind, tag and body of a frame, as the two bytes of its CRC field (R194, R195). -/
def crcBytes (bs : List Byte) : List Byte := be 2 (crcOf bs).toNat

/-- A frame of a kind, tag and body (R194). -/
def frameBytes (kind : Nat) (tag : Byte) (body : List Byte) : List Byte :=
  let covered := be 2 body.length ++ be 1 kind ++ [tag] ++ body
  0xA5#8 :: covered ++ crcBytes covered

/-- The kind of the answer to a request of a kind (R198). -/
def answerKind (k : Nat) : Nat := if k ≤ 0x7E then k + 0x80 else 0xFF

/-- The bytes of a frame that the controller sends: an answer carries the tag of its request, a notice tag 0 and its lost count
(R194, R202). -/
def OutFrame.bytes : OutFrame → List Byte
  | .answer a => frameBytes (answerKind a.requestKind) a.tag a.reply.bytes
  | .notice q => frameBytes q.notice.kind 0#8 (be 1 q.lost ++ q.notice.bytes)

/-- The bit rate of the link by the straps read at the reset (R193). -/
def Link.bitRate (k : Link) : Nat :=
  match k.strap1, k.strap0 with
  | false, false => 57600
  | false, true => 115200
  | true, false => 230400
  | true, true => 460800

/-- The time a frame of `n` characters takes on the line, in whole ms rounded up: 10 bit times a character (R193; log 5). -/
def frameTime (rate n : Nat) : Nat := (10 * n * 1000 + (rate - 1)) / rate

/-- The bytes that the transmit line is sending: those of the frame on the line, or none while it rests at mark (R207). -/
def State.lineBytes (s : State) : List Byte := s.link.transmitter.elim [] fun t => t.frame.bytes

end Sys2Proof.Machine
end

