-- ==== Sys2Proof/Machine/Parse.lean ====
section
/-! DEFINITION. Reading a complete request: the kind of its frame, the length its kind calls for, and its fields
(R198, R199, R200, R204). -/

namespace Sys2Proof.Machine

open Sys2Proof

/-! ### Reading fields by their offset in a body (R199) -/

/-- The number that bytes spell, most significant byte first. -/
def ofBe (bs : List Byte) : Nat := bs.foldl (fun n b => 256 * n + b.toNat) 0

/-- The number in the `k` bytes at offset `o`. -/
def numAt (o k : Nat) (bs : List Byte) : Nat := ofBe ((bs.drop o).take k)

/-- A number of `k` bytes read in two's complement. -/
def signedAt (o k : Nat) (bs : List Byte) : Int :=
  let n := numAt o k bs
  if 2 * n < 256 ^ k then (n : Int) else (n : Int) - (256 ^ k : Nat)

/-- The byte at offset `o`. -/
def byteAt (o : Nat) (bs : List Byte) : Byte := (bs[o]?).getD 0#8

/-- A flag: any value but 0 is set. -/
def flagAt (o : Nat) (bs : List Byte) : Bool := decide (byteAt o bs ≠ 0#8)

/-- A service time of 6 bytes. -/
def timeAt (o : Nat) (bs : List Byte) : ServiceTime := ⟨numAt o 2 bs, numAt (o + 2) 4 bs⟩

/-- An optional field: a presence byte, then the field. -/
def optAt {α : Type} (read : Nat → List Byte → α) (o : Nat) (bs : List Byte) : Option α :=
  if flagAt o bs then some (read (o + 1) bs) else none

/-- A field with the options keep, set and remove: an option byte, then the value. -/
def threeAt {α : Type} (read : Nat → List Byte → α) (o : Nat) (bs : List Byte) : ThreeWay α :=
  match numAt o 1 bs with
  | 0 => .keep
  | 1 => .set (read (o + 1) bs)
  | 2 => .remove
  | c => .reserved c

/-- `n` records of `size` bytes, one after another from offset `o`. -/
def recordsAt {α : Type} (read : List Byte → α) (size o : Nat) : Nat → List Byte → List α
  | 0, _ => []
  | n + 1, bs => read ((bs.drop o).take size) :: recordsAt read size (o + size) n bs

/-! ### The requests with records -/

/-- One lane record of SETUP: beam order, filter code, passage timeout, barrier timeout (R180). -/
def laneRecordOf (bs : List Byte) : LaneRecord := ⟨numAt 0 1 bs, numAt 1 1 bs, numAt 2 2 bs, numAt 4 2 bs⟩

def setupOf (bs : List Byte) : SetupRequest :=
  let n := numAt 2 1 bs
  let o := 4 + 6 * n
  { pontoonId := numAt 0 2 bs
    lanesPresent := n
    berthsPresent := numAt 3 1 bs
    lanes := recordsAt laneRecordOf 6 4 n bs
    courtesyWindow := numAt o 1 bs
    markWindow := numAt (o + 1) 2 bs
    dayStartOffset := numAt (o + 3) 2 bs
    defaultMargin := numAt (o + 5) 1 bs
    freeRunPermitted := flagAt (o + 6) bs }

/-- Segment 0 after the segment number: generation, 32 base fares, three period starts (R131). -/
def fareSegmentOf (bs : List Byte) : FareSegment :=
  ⟨numAt 1 2 bs, recordsAt ofBe 2 3 32 bs, numAt 67 2 bs, numAt 69 2 bs, numAt 71 2 bs⟩

def concessionOfBytes (bs : List Byte) : Concession := ⟨numAt 0 1 bs, numAt 1 2 bs⟩

/-- Segment 1 after the segment number: eight concession lines, W, T and L (R131). -/
def concessionSegmentOf (bs : List Byte) : ConcessionSegment :=
  ⟨recordsAt concessionOfBytes 3 1 8 bs, numAt 25 1 bs, numAt 26 1 bs, numAt 27 2 bs⟩

/-- One scheme entry: kind, route set, trips per day, notify flag (R76). -/
def schemeEntryOf (bs : List Byte) : SchemeEntry := ⟨numAt 0 1 bs, byteAt 1 bs, numAt 2 1 bs, flagAt 3 bs⟩

/-- The contents that a segment number calls for (R134, R200). -/
def segmentOf (n : Nat) (bs : List Byte) : SegmentContents :=
  match n with
  | 0 => .fares (fareSegmentOf bs)
  | 1 => .concessions (concessionSegmentOf bs)
  | 2 => .schemes (recordsAt schemeEntryOf 4 1 16 bs)
  | 3 => .schemes (recordsAt schemeEntryOf 4 1 16 bs)
  | _ => .unread

/-- The fields of BERTH_OPEN in the order of R4. -/
def openOf (bs : List Byte) : OpenRequest :=
  { berth := numAt 0 1 bs
    tripRef := numAt 1 4 bs
    vessel := numAt 5 2 bs
    routeClass := numAt 7 1 bs
    capacity := numAt 8 2 bs
    aboard := numAt 10 2 bs
    departure := optAt timeAt 12 bs
    closeAtDeparture := flagAt 19 bs
    closeWhenFull := flagAt 20 bs
    margin := optAt (fun o => numAt o 1) 21 bs }

/-- The fields of BERTH_AMEND in the order of R16. -/
def amendOf (bs : List Byte) : AmendRequest :=
  { berth := numAt 0 1 bs
    capacity := optAt (fun o => numAt o 2) 1 bs
    departure := threeAt timeAt 4 bs
    closeAtDeparture := optAt flagAt 11 bs
    closeWhenFull := optAt flagAt 13 bs
    margin := threeAt (fun o => numAt o 1) 15 bs }

/-- A carried number that may be none: 0xFF is none. -/
def noneFFAt (o : Nat) (bs : List Byte) : Option Nat :=
  let n := numAt o 1 bs
  if n = 255 then none else some n

/-- The kind and kind fields of a product record (R204). -/
def productFieldsOf (bs : List Byte) : ProductFields :=
  match numAt 3 1 bs with
  | 0 => .purse (signedAt 4 4 bs)
  | 1 => .carnet (numAt 4 1 bs)
  | 2 => .allowance (numAt 4 2 bs) (numAt 6 1 bs)
  | 3 => .pass (numAt 4 2 bs) (numAt 6 2 bs)
  | c => .unknown c

def productOf (bs : List Byte) : Product := ⟨numAt 0 1 bs, numAt 1 1 bs, byteAt 2 bs, productFieldsOf bs⟩

/-- The last boarding group at request offsets 8 to 19. -/
def boardingAt (o : Nat) (bs : List Byte) : LastBoarding :=
  ⟨numAt o 2 bs, numAt (o + 2) 4 bs, numAt (o + 6) 2 bs, numAt (o + 8) 1 bs, numAt (o + 9) 2 bs, numAt (o + 11) 1 bs⟩

/-- The credential record of a PRESENT body (R204). -/
def credentialOf (bs : List Byte) : Credential :=
  { card := numAt 1 4 bs
    cardState := numAt 5 1 bs
    concession := numAt 6 1 bs
    lastBoarding := optAt boardingAt 7 bs
    daySpend := ⟨numAt 20 2 bs, numAt 22 2 bs⟩
    productCount := numAt 24 1 bs
    products := recordsAt productOf 8 25 (numAt 24 1 bs) bs }

/-- The card numbers of a DENY_ADD or DENY_REMOVE. -/
def numbersOf (bs : List Byte) : List Nat := recordsAt ofBe 4 1 (numAt 0 1 bs) bs

/-! ### Kinds and lengths (R198, R200) -/

/-- The body length that a request kind calls for, given the body received: none where any length is let through (a TARIFF_LOAD of
a segment above 3), and 0 where no length can be found (R200). -/
def expectedLength (kind : Nat) (bs : List Byte) : Option Nat :=
  match kind with
  | 0x01 => some (if bs.length < 3 then 0 else 11 + 6 * numAt 2 1 bs)
  | 0x02 => some 7
  | 0x10 => some 6
  | 0x18 =>
    if bs.length = 0 then some 0
    else
      match numAt 0 1 bs with
      | 0 => some 73
      | 1 => some 29
      | 2 => some 65
      | 3 => some 65
      | _ => none
  | 0x1A => some 9
  | 0x20 => some 23
  | 0x21 => some 1
  | 0x22 => some 17
  | 0x23 => some 1
  | 0x28 => some 2
  | 0x29 => some 1
  | 0x2A => some 6
  | 0x30 => some (if bs.length < 25 then 0 else 25 + 8 * numAt 24 1 bs)
  | 0x38 => some (if bs.length = 0 then 0 else 1 + 4 * numAt 0 1 bs)
  | 0x39 => some (if bs.length = 0 then 0 else 1 + 4 * numAt 0 1 bs)
  | 0x3B => some 4
  | 0x3D => some 4
  | _ => some 0

/-- Whether a body of this length is handed to the owner (R200). A body from which no length can be found is not. -/
def lengthAgrees (kind : Nat) (bs : List Byte) : Bool :=
  match expectedLength kind bs with
  | none => true
  | some 0 => decide (bs.length = 0) && !(kind = 0x01 || kind = 0x18 || kind = 0x30 || kind = 0x38 || kind = 0x39)
  | some n => decide (bs.length = n)

/-- The request that a body of an accepted length carries (R198, R199). -/
def fieldsOf (kind : Nat) (bs : List Byte) : Request :=
  match kind with
  | 0x01 => .setup (setupOf bs)
  | 0x02 => .serviceStart (optAt timeAt 0 bs)
  | 0x03 => .serviceStop
  | 0x04 => .egressBegin
  | 0x05 => .egressEnd
  | 0x06 => .restart
  | 0x07 => .status
  | 0x10 => .timeMark (timeAt 0 bs)
  | 0x18 => .tariffLoad (numAt 0 1 bs) (segmentOf (numAt 0 1 bs) bs)
  | 0x19 => .tariffClear
  | 0x1A => .tariffCommit (numAt 0 2 bs) (optAt timeAt 2 bs)
  | 0x1B => .tariffCancel
  | 0x1C => .tariffQuery
  | 0x20 => .berthOpen (openOf bs)
  | 0x21 => .berthClose (numAt 0 1 bs)
  | 0x22 => .berthAmend (amendOf bs)
  | 0x23 => .berthQuery (numAt 0 1 bs)
  | 0x28 => .laneAssign (numAt 0 1 bs) (noneFFAt 1 bs)
  | 0x29 => .laneReturn (numAt 0 1 bs)
  | 0x2A => .laneLamp ⟨numAt 0 1 bs, numAt 1 1 bs, numAt 2 1 bs, numAt 3 2 bs, flagAt 5 bs⟩
  | 0x30 => .present (numAt 0 1 bs) (credentialOf bs)
  | 0x38 => .denyAdd (numAt 0 1 bs) (numbersOf bs)
  | 0x39 => .denyRemove (numAt 0 1 bs) (numbersOf bs)
  | 0x3A => .denyClear
  | 0x3B => .denyCheck (numAt 0 4 bs)
  | 0x3C => .journalRead
  | 0x3D => .journalRelease (numAt 0 4 bs)
  | k => .unknownKind k

/-- The request of a complete frame: the kind check, then the length check, then its fields (R198, R200). -/
def requestOf (kind : Nat) (bs : List Byte) : Request :=
  if requestKinds.contains kind then
    if lengthAgrees kind bs then fieldsOf kind bs else .badLength kind ((expectedLength kind bs).getD 0)
  else .unknownKind kind

/-- The kind of a request (R198). -/
def requestKind : Request → Nat
  | .setup _ => 0x01
  | .serviceStart _ => 0x02
  | .serviceStop => 0x03
  | .egressBegin => 0x04
  | .egressEnd => 0x05
  | .restart => 0x06
  | .status => 0x07
  | .timeMark _ => 0x10
  | .tariffLoad _ _ => 0x18
  | .tariffClear => 0x19
  | .tariffCommit _ _ => 0x1A
  | .tariffCancel => 0x1B
  | .tariffQuery => 0x1C
  | .berthOpen _ => 0x20
  | .berthClose _ => 0x21
  | .berthAmend _ => 0x22
  | .berthQuery _ => 0x23
  | .laneAssign _ _ => 0x28
  | .laneReturn _ => 0x29
  | .laneLamp _ => 0x2A
  | .present _ _ => 0x30
  | .denyAdd _ _ => 0x38
  | .denyRemove _ _ => 0x39
  | .denyClear => 0x3A
  | .denyCheck _ => 0x3B
  | .journalRead => 0x3C
  | .journalRelease _ => 0x3D
  | .unknownKind k => k
  | .badLength k _ => k

/-! ### Requests given as commands -/

/-- Whether the contents of a TARIFF_LOAD have the layout of its segment (R131, R200). -/
def contentsAgree (n : Nat) (c : SegmentContents) : Bool :=
  match n, c with
  | 0, .fares g => decide (g.matrix.length = 32)
  | 1, .concessions g => decide (g.table.length = 8)
  | 2, .schemes es => decide (es.length = 16)
  | 3, .schemes es => decide (es.length = 16)
  | 0, _ => false
  | 1, _ => false
  | 2, _ => false
  | 3, _ => false
  | _, _ => true

/-- The length of the segment of a number, with the segment number before it (R200). -/
def segmentLength : Nat → Nat
  | 0 => 73
  | 1 => 29
  | _ => 65

/-- The FORMAT check of R200 on a request given by its fields: a count or number that does not agree with the records carried. The
answer names the length the count or number calls for. -/
def lengthFault : Request → Option Nat
  | .setup r => if r.lanes.length = r.lanesPresent then none else some (11 + 6 * r.lanesPresent)
  | .tariffLoad n c => if contentsAgree n c then none else some (segmentLength n)
  | .present _ c => if c.products.length = c.productCount then none else some (25 + 8 * c.productCount)
  | .denyAdd n xs => if xs.length = n then none else some (1 + 4 * n)
  | .denyRemove n xs => if xs.length = n then none else some (1 + 4 * n)
  | .badLength _ n => some n
  | _ => none

end Sys2Proof.Machine
end

