-- ==== Sys2Proof/Machine/Link.lean ====
section
/-! DEFINITION. The Link Controller: routing a request to its owner, the pending position and the answer slot, the transmitter's
arbiter, and the receive framer (R196, R197, R198, R200, R207, R208). -/

namespace Sys2Proof.Machine

open Sys2Proof

/-- Changes the Link Controller. -/
def State.changeLink (s : State) (f : Link → Link) : State := { s with link := f s.link }

/-- Changes the link statistics (R208). -/
def State.count (s : State) (f : LinkStats → LinkStats) : State := s.changeLink fun k => { k with stats := f k.stats }

/-! ### Taking a request -/

/-- The owner of a request acts on it and forms its answer (R197, R198). -/
def owner (q : Request) (s : State) : State × Reply :=
  match q with
  | .setup r => ownSetup r s
  | .serviceStart t => ownServiceStart t s
  | .serviceStop => ownServiceStop s
  | .egressBegin => ownEgressBegin s
  | .egressEnd => ownEgressEnd s
  | .restart => ownRestart s
  | .status => ownStatus s
  | .timeMark t => ownTimeMark t s
  | .tariffLoad n c => ownTariffLoad n c s
  | .tariffClear => ownTariffClear s
  | .tariffCommit g t => ownTariffCommit g t s
  | .tariffCancel => ownTariffCancel s
  | .tariffQuery => ownTariffQuery s
  | .berthOpen r => ownBerthOpen r s
  | .berthClose b => ownBerthClose b s
  | .berthAmend r => ownBerthAmend r s
  | .berthQuery b => ownBerthQuery b s
  | .laneAssign l b => ownLaneAssign l b s
  | .laneReturn l => ownLaneReturn l s
  | .laneLamp r => ownLaneLamp r s
  | .present l c => ownPresent l c s
  | .denyAdd n xs => ownDenyAdd n xs s
  | .denyRemove n xs => ownDenyRemove n xs s
  | .denyClear => ownDenyClear s
  | .denyCheck c => ownDenyCheck c s
  | .journalRead => ownJournalRead s
  | .journalRelease ref => ownJournalRelease ref s
  | .unknownKind k => (s, .unknownKind k)
  | .badLength _ n => (s, .badLength n)

/-- The FORMAT check of the Link Controller, then the owner (R200). -/
def judgeRequest (q : Request) (s : State) : State × Reply :=
  match lengthFault q with
  | some n => (s, .badLength n)
  | none => owner q s

/-- A request is counted as taken (R208). -/
def countTaken (s : State) : State := s.count fun k => { k with framesTaken := bump k.framesTaken }

/-- A request is taken: it is counted, its owner acts, and its answer is placed in the answer slot (R197, R208). The count comes
before the owner acts, so that RESTART's own frame is counted before it sets the statistics to 0. -/
def takeRequest (q : RequestFrame) (s : State) : State :=
  let r := judgeRequest q.request (countTaken s)
  r.1.changeLink fun k => { k with answerSlot := some ⟨requestKind q.request, q.tag, r.2⟩ }

/-- A complete request: taken at once, placed in the pending position, or discarded as an overrun (R197). -/
def completeRequest (q : RequestFrame) (s : State) : State :=
  if s.link.pendingRequest.isSome then s.count fun k => { k with overruns := bump k.overruns }
  else if s.link.answerSlot.isSome then s.changeLink fun k => { k with pendingRequest := some q }
  else takeRequest q s

/-! ### The transmit direction -/

/-- An answer's transmission begins: the slot is emptied, and a pending request is taken in the same event (R197, R207). -/
def startAnswer (a : Answer) (s : State) : State :=
  let s := s.changeLink fun k => { k with transmitter := some ⟨.answer a, s.runTime⟩, answerSlot := none }
  match s.link.pendingRequest with
  | none => s
  | some q => takeRequest q (s.changeLink fun k => { k with pendingRequest := none })

/-- A notice's transmission begins: it leaves the queue from the oldest position (R203, R207). -/
def startNotice (n : QueuedNotice) (rest : List QueuedNotice) (s : State) : State :=
  s.changeLink fun k => { k with transmitter := some ⟨.notice n, s.runTime⟩, queue := rest }

/-- The arbiter hands out the line: an answer in the slot first, else the oldest notice, else the transmitter stays idle (R207). -/
def arbitrate (s : State) : State :=
  match s.link.answerSlot with
  | some a => startAnswer a s
  | none =>
    match s.link.queue with
    | [] => s
    | n :: rest => startNotice n rest s

/-- The end of an event: an idle transmitter starts a frame if one waits (R207). -/
def endOfEvent (s : State) : State := if s.link.transmitter = none then arbitrate s else s

/-- The statistic that a sent frame raises (R208). -/
def LinkStats.sent (f : OutFrame) (k : LinkStats) : LinkStats :=
  match f with
  | .answer _ => { k with answersSent := bump k.answersSent }
  | .notice _ => { k with noticesSent := bump k.noticesSent }

/-- The last CRC byte of the frame on the line has been sent: it is counted and the line is free (R207, R208). -/
def transmitEnd (s : State) : State :=
  match s.link.transmitter with
  | none => s
  | some t => s.changeLink fun k => { k with transmitter := none, stats := k.stats.sent t.frame }

/-! ### The receive framer (R196) -/

/-- The framer's next state, whatever it stores. -/
def State.setFramer (s : State) (f : Framer) : State := s.changeLink fun k => { k with framer := f }

/-- The frame in assembly is discarded and a framing error is counted (R196, R208). -/
def discardFrame (s : State) : State :=
  (s.setFramer Framer.idle).count fun k => { k with framingErrors := bump k.framingErrors }

/-- Whether more than 10 ms have passed since the last character of a frame in assembly (R196). -/
def State.gapOver (s : State) : Bool :=
  decide (s.link.framer.state ≠ .hunt) && decide (s.link.framer.lastCharacter + Config.gapLimit < s.runTime)

/-- A gap discards the frame in assembly (R196). -/
def frameGap (s : State) : State := if s.gapOver then discardFrame s else s

/-- A character in HUNT (R196). -/
def huntCharacter (c : Character) (s : State) : State :=
  if c = .data 0xA5#8 then s.setFramer ⟨.length, [], s.runTime⟩
  else s.count fun k => { k with huntDiscards := bump k.huntDiscards }

/-- The body length that the stored bytes begin with. -/
def frameLength (stored : List Byte) : Nat := numAt 0 2 stored

/-- Where the framer goes when it has stored these bytes, with its length within range and the frame not yet whole. -/
def framerAfter (stored : List Byte) : FramerState :=
  if stored.length < 2 then .length
  else if stored.length < 4 then .header
  else if stored.length < 4 + frameLength stored then .body
  else .check

/-- The request in the bytes of a whole frame: kind and tag, then the body. -/
def frameRequest (stored : List Byte) : RequestFrame :=
  ⟨byteAt 3 stored, requestOf (numAt 2 1 stored) ((stored.drop 4).take (frameLength stored))⟩

/-- Whether the check value over length, kind, tag and body is the one received (R195). -/
def checkAgrees (stored : List Byte) : Bool :=
  decide (crcOf (stored.take (4 + frameLength stored)) = BitVec.ofNat 16 (numAt (4 + frameLength stored) 2 stored))

/-- The second CRC byte has been received: the framer returns to HUNT, and the frame is a complete request or a CRC error. -/
def frameWhole (stored : List Byte) (s : State) : State :=
  let s := s.setFramer Framer.idle
  if checkAgrees stored then completeRequest (frameRequest stored) s
  else s.count fun k => { k with crcErrors := bump k.crcErrors }

/-- A byte of a frame in assembly is stored, and the framer moves on (R196). -/
def frameByte (b : Byte) (s : State) : State :=
  let stored := s.link.framer.stored ++ [b]
  if stored.length = 2 ∧ Config.bodyLimit < frameLength stored then discardFrame s
  else if 4 ≤ stored.length ∧ stored.length = 6 + frameLength stored then frameWhole stored s
  else s.setFramer ⟨framerAfter stored, stored, s.runTime⟩

/-- A received character or character error, after any gap before it (R196). -/
def receive (c : Character) (s : State) : State :=
  let s := frameGap s
  if s.link.framer.state = .hunt then huntCharacter c s
  else
    match c with
    | .error => discardFrame s
    | .data b => frameByte b s

end Sys2Proof.Machine
end

