-- ==== Sys2Proof/Machine/Tick.lean ====
section
/-! DEFINITION. The idle step: one millisecond of run time passes, and the events that fall due join the command queue (R147;
log 2, log 3). -/

namespace Sys2Proof.Machine

open Sys2Proof

/-- Whether the frame on the line has had its whole time (R193, R207; log 5). -/
def State.frameDue (s : State) : Bool :=
  s.link.transmitter.elim false fun t => decide (t.start + frameTime s.link.bitRate t.frame.bytes.length ≤ s.runTime)

/-- The command when its condition holds. -/
def dueWhen (c : Bool) (i : Instr) : List Instr := if c then [i] else []

/-- The events of one lane that are due. -/
def State.laneDue (s : State) (i : LaneIx) : List Instr :=
  let l := s.lane i
  dueWhen (l.beamA.due s.runTime || l.beamB.due s.runTime) (.beamAcceptedChange i) ++
  dueWhen (timerDue s.runTime l.barrierTimer) (.barrierTimerExpiry i) ++
  dueWhen (timerDue s.runTime l.passageTimer) (.passageTimerExpiry i) ++
  dueWhen (timerDue s.runTime l.clearTimer) (.clearTimerExpiry i) ++
  dueWhen (timerDue s.runTime (s.lamp i).pulseDue) (.lampPulseEnd i)

/-- Every timed event that is due at this run time. -/
def State.dueEvents (s : State) : List Instr :=
  dueWhen s.advanceDue .serviceTimeAdvance ++ dueWhen s.windowOut .markWindowExpiry ++
  dueWhen s.lineDue .emergencyLineAcceptedChange ++ dueWhen s.gapOver .frameGapTimeout ++
  dueWhen s.frameDue .transmitFrameEnd ++ allLanes.flatMap s.laneDue

/-- One millisecond passes (R147). The events then due are queued in an order that is free (log 2, log 3). -/
def tick (s : State) : State :=
  let s := { s with runTime := s.runTime + 1 }
  let (due, s) := freeOrder s.dueEvents s
  { s with pending := s.pending ++ due }

end Sys2Proof.Machine
end

