-- ==== Sys2Proof/Machine/Events.lean ====
section
/-! DEFINITION. The meaning of the reset and of each link, field and timed event. Each ends with the arbiter of R207. -/

namespace Sys2Proof.Machine

open Sys2Proof

/-- POWER_ON_RESET with the pins as it finds them (R177). -/
def execPowerOnReset (pins : Pins) (s : State) : Host.Outcome State Fault Refusal :=
  .next (powerOnReset pins s)

/-- A character or character error reaches the framer (R196). -/
def execReceivedCharacter (c : Character) (s : State) : Host.Outcome State Fault Refusal :=
  .next (endOfEvent (receive c s))

/-- More than 10 ms have passed between characters (R196). -/
def execFrameGapTimeout (s : State) : Host.Outcome State Fault Refusal :=
  .next (endOfEvent (frameGap s))

/-- The last CRC byte of the frame on the line has been sent (R207). -/
def execTransmitFrameEnd (s : State) : Host.Outcome State Fault Refusal :=
  .next (endOfEvent (transmitEnd s))

/-- The raw levels of a lane's beams, one or both changed (R49). -/
def execBeamRawChange (lane : LaneIx) (blockedA blockedB : Bool) (s : State) : Host.Outcome State Fault Refusal :=
  .next (endOfEvent (beamRaw lane blockedA blockedB s))

/-- A beam measure has run for its filter time (R49). -/
def execBeamAcceptedChange (lane : LaneIx) (s : State) : Host.Outcome State Fault Refusal :=
  .next (endOfEvent (beamAccepted lane s))

/-- The barrier-open sense of a lane (R31, R32, R36, R37, R38). -/
def execBarrierSenseChange (lane : LaneIx) (isOpen : Bool) (s : State) : Host.Outcome State Fault Refusal :=
  .next (endOfEvent (senseChange lane isOpen s))

/-- The barrier timer of a lane expires (R31, R37). -/
def execBarrierTimerExpiry (lane : LaneIx) (s : State) : Host.Outcome State Fault Refusal :=
  .next (endOfEvent (barrierExpiry lane s))

/-- The passage timer of a lane expires (R34). -/
def execPassageTimerExpiry (lane : LaneIx) (s : State) : Host.Outcome State Fault Refusal :=
  .next (endOfEvent (passageExpiry lane s))

/-- The clear timer of a lane expires (R36). -/
def execClearTimerExpiry (lane : LaneIx) (s : State) : Host.Outcome State Fault Refusal :=
  .next (endOfEvent (clearExpiry lane s))

/-- A lamp pulse runs out (R47). -/
def execLampPulseEnd (lane : LaneIx) (s : State) : Host.Outcome State Fault Refusal :=
  .next (endOfEvent (pulseEnd lane s))

/-- A further 1000 ms have passed since the setting (R149). -/
def execServiceTimeAdvance (s : State) : Host.Outcome State Fault Refusal :=
  .next (endOfEvent (serviceAdvance s))

/-- The mark window has run out (R154). -/
def execMarkWindowExpiry (s : State) : Host.Outcome State Fault Refusal :=
  .next (endOfEvent (windowExpiry s))

/-- The raw level of the emergency line (R177). -/
def execEmergencyLineRawChange (asserted : Bool) (s : State) : Host.Outcome State Fault Refusal :=
  .next (endOfEvent (lineRaw asserted s))

/-- The measure of the emergency line has run for its filter time (R177, R186). -/
def execEmergencyLineAcceptedChange (s : State) : Host.Outcome State Fault Refusal :=
  .next (endOfEvent (lineAccepted s))

end Sys2Proof.Machine
end

