-- ==== Sys2Proof/Machine/Requests.lean ====
section
/-! DEFINITION. The meaning of each host request: a complete request frame of that kind reaches the Link Controller (R197; log 8). -/

namespace Sys2Proof.Machine

open Sys2Proof

/-- A complete request of this tag reaches R197, and the event ends (R197, R207). -/
def request (tag : Byte) (q : Request) (s : State) : State := endOfEvent (completeRequest ⟨tag, q⟩ s)

/-- SETUP (R181, R182). -/
def execSetup (tag : Byte) (r : SetupRequest) (s : State) : Host.Outcome State Fault Refusal :=
  .next (request tag (.setup r) s)

/-- SERVICE_START (R183, R184). -/
def execServiceStart (tag : Byte) (freeRun : Option ServiceTime) (s : State) : Host.Outcome State Fault Refusal :=
  .next (request tag (.serviceStart freeRun) s)

/-- SERVICE_STOP (R185). -/
def execServiceStop (tag : Byte) (s : State) : Host.Outcome State Fault Refusal :=
  .next (request tag (.serviceStop) s)

/-- EGRESS_BEGIN (R186). -/
def execEgressBegin (tag : Byte) (s : State) : Host.Outcome State Fault Refusal :=
  .next (request tag (.egressBegin) s)

/-- EGRESS_END (R186). -/
def execEgressEnd (tag : Byte) (s : State) : Host.Outcome State Fault Refusal :=
  .next (request tag (.egressEnd) s)

/-- RESTART (R191). -/
def execRestart (tag : Byte) (s : State) : Host.Outcome State Fault Refusal :=
  .next (request tag (.restart) s)

/-- STATUS (R192). -/
def execStatus (tag : Byte) (s : State) : Host.Outcome State Fault Refusal :=
  .next (request tag (.status) s)

/-- TIME_MARK (R151). -/
def execTimeMark (tag : Byte) (mark : ServiceTime) (s : State) : Host.Outcome State Fault Refusal :=
  .next (request tag (.timeMark mark) s)

/-- TARIFF_LOAD (R134). -/
def execTariffLoad (tag : Byte) (segment : Nat) (contents : SegmentContents) (s : State) : Host.Outcome State Fault Refusal :=
  .next (request tag (.tariffLoad segment contents) s)

/-- TARIFF_CLEAR (R135). -/
def execTariffClear (tag : Byte) (s : State) : Host.Outcome State Fault Refusal :=
  .next (request tag (.tariffClear) s)

/-- TARIFF_COMMIT (R136). -/
def execTariffCommit (tag : Byte) (generation : Nat) (effective : Option ServiceTime) (s : State) : Host.Outcome State Fault Refusal :=
  .next (request tag (.tariffCommit generation effective) s)

/-- TARIFF_CANCEL (R142). -/
def execTariffCancel (tag : Byte) (s : State) : Host.Outcome State Fault Refusal :=
  .next (request tag (.tariffCancel) s)

/-- TARIFF_QUERY (R145). -/
def execTariffQuery (tag : Byte) (s : State) : Host.Outcome State Fault Refusal :=
  .next (request tag (.tariffQuery) s)

/-- BERTH_OPEN (R4, R5). -/
def execBerthOpen (tag : Byte) (r : OpenRequest) (s : State) : Host.Outcome State Fault Refusal :=
  .next (request tag (.berthOpen r) s)

/-- BERTH_CLOSE (R15). -/
def execBerthClose (tag : Byte) (berth : Nat) (s : State) : Host.Outcome State Fault Refusal :=
  .next (request tag (.berthClose berth) s)

/-- BERTH_AMEND (R16, R17). -/
def execBerthAmend (tag : Byte) (r : AmendRequest) (s : State) : Host.Outcome State Fault Refusal :=
  .next (request tag (.berthAmend r) s)

/-- BERTH_QUERY (R18). -/
def execBerthQuery (tag : Byte) (berth : Nat) (s : State) : Host.Outcome State Fault Refusal :=
  .next (request tag (.berthQuery berth) s)

/-- LANE_ASSIGN (R45). -/
def execLaneAssign (tag : Byte) (lane : Nat) (berth : Option Nat) (s : State) : Host.Outcome State Fault Refusal :=
  .next (request tag (.laneAssign lane berth) s)

/-- LANE_RETURN (R39). -/
def execLaneReturn (tag : Byte) (lane : Nat) (s : State) : Host.Outcome State Fault Refusal :=
  .next (request tag (.laneReturn lane) s)

/-- LANE_LAMP (R48). -/
def execLaneLamp (tag : Byte) (r : LampRequest) (s : State) : Host.Outcome State Fault Refusal :=
  .next (request tag (.laneLamp r) s)

/-- PRESENT (R87, R88). -/
def execPresent (tag : Byte) (lane : Nat) (credential : Credential) (s : State) : Host.Outcome State Fault Refusal :=
  .next (request tag (.present lane credential) s)

/-- DENY_ADD (R165). -/
def execDenyAdd (tag : Byte) (count : Nat) (numbers : List Nat) (s : State) : Host.Outcome State Fault Refusal :=
  .next (request tag (.denyAdd count numbers) s)

/-- DENY_REMOVE (R166). -/
def execDenyRemove (tag : Byte) (count : Nat) (numbers : List Nat) (s : State) : Host.Outcome State Fault Refusal :=
  .next (request tag (.denyRemove count numbers) s)

/-- DENY_CLEAR (R167). -/
def execDenyClear (tag : Byte) (s : State) : Host.Outcome State Fault Refusal :=
  .next (request tag (.denyClear) s)

/-- DENY_CHECK (R168). -/
def execDenyCheck (tag : Byte) (card : Nat) (s : State) : Host.Outcome State Fault Refusal :=
  .next (request tag (.denyCheck card) s)

/-- JOURNAL_READ (R172). -/
def execJournalRead (tag : Byte) (s : State) : Host.Outcome State Fault Refusal :=
  .next (request tag (.journalRead) s)

/-- JOURNAL_RELEASE (R173). -/
def execJournalRelease (tag : Byte) (tripRef : Nat) (s : State) : Host.Outcome State Fault Refusal :=
  .next (request tag (.journalRelease tripRef) s)

/-- A frame of a kind that is not in the table (R198). -/
def execUnknownKind (tag : Byte) (kind : Nat) (s : State) : Host.Outcome State Fault Refusal :=
  .next (request tag (.unknownKind kind) s)

end Sys2Proof.Machine
end

