-- ==== Sys2Proof/Machine/Dispatch.lean ====
section
/-! DEFINITION. One arm for each command. -/

namespace Sys2Proof.Machine

open Sys2Proof

def exec (i : Instr) (s : State) : Host.Outcome State Fault Refusal :=
  match i with
  | .powerOnReset pins => Sys2Proof.Machine.execPowerOnReset pins s
  | .setup tag r => Sys2Proof.Machine.execSetup tag r s
  | .serviceStart tag freeRun => Sys2Proof.Machine.execServiceStart tag freeRun s
  | .serviceStop tag => Sys2Proof.Machine.execServiceStop tag s
  | .egressBegin tag => Sys2Proof.Machine.execEgressBegin tag s
  | .egressEnd tag => Sys2Proof.Machine.execEgressEnd tag s
  | .restart tag => Sys2Proof.Machine.execRestart tag s
  | .status tag => Sys2Proof.Machine.execStatus tag s
  | .timeMark tag mark => Sys2Proof.Machine.execTimeMark tag mark s
  | .tariffLoad tag segment contents => Sys2Proof.Machine.execTariffLoad tag segment contents s
  | .tariffClear tag => Sys2Proof.Machine.execTariffClear tag s
  | .tariffCommit tag generation effective => Sys2Proof.Machine.execTariffCommit tag generation effective s
  | .tariffCancel tag => Sys2Proof.Machine.execTariffCancel tag s
  | .tariffQuery tag => Sys2Proof.Machine.execTariffQuery tag s
  | .berthOpen tag r => Sys2Proof.Machine.execBerthOpen tag r s
  | .berthClose tag berth => Sys2Proof.Machine.execBerthClose tag berth s
  | .berthAmend tag r => Sys2Proof.Machine.execBerthAmend tag r s
  | .berthQuery tag berth => Sys2Proof.Machine.execBerthQuery tag berth s
  | .laneAssign tag lane berth => Sys2Proof.Machine.execLaneAssign tag lane berth s
  | .laneReturn tag lane => Sys2Proof.Machine.execLaneReturn tag lane s
  | .laneLamp tag r => Sys2Proof.Machine.execLaneLamp tag r s
  | .present tag lane credential => Sys2Proof.Machine.execPresent tag lane credential s
  | .denyAdd tag count numbers => Sys2Proof.Machine.execDenyAdd tag count numbers s
  | .denyRemove tag count numbers => Sys2Proof.Machine.execDenyRemove tag count numbers s
  | .denyClear tag => Sys2Proof.Machine.execDenyClear tag s
  | .denyCheck tag card => Sys2Proof.Machine.execDenyCheck tag card s
  | .journalRead tag => Sys2Proof.Machine.execJournalRead tag s
  | .journalRelease tag tripRef => Sys2Proof.Machine.execJournalRelease tag tripRef s
  | .unknownKind tag kind => Sys2Proof.Machine.execUnknownKind tag kind s
  | .receivedCharacter c => Sys2Proof.Machine.execReceivedCharacter c s
  | .frameGapTimeout => Sys2Proof.Machine.execFrameGapTimeout s
  | .transmitFrameEnd => Sys2Proof.Machine.execTransmitFrameEnd s
  | .beamRawChange lane blockedA blockedB => Sys2Proof.Machine.execBeamRawChange lane blockedA blockedB s
  | .beamAcceptedChange lane => Sys2Proof.Machine.execBeamAcceptedChange lane s
  | .barrierSenseChange lane isOpen => Sys2Proof.Machine.execBarrierSenseChange lane isOpen s
  | .barrierTimerExpiry lane => Sys2Proof.Machine.execBarrierTimerExpiry lane s
  | .passageTimerExpiry lane => Sys2Proof.Machine.execPassageTimerExpiry lane s
  | .clearTimerExpiry lane => Sys2Proof.Machine.execClearTimerExpiry lane s
  | .lampPulseEnd lane => Sys2Proof.Machine.execLampPulseEnd lane s
  | .serviceTimeAdvance => Sys2Proof.Machine.execServiceTimeAdvance s
  | .markWindowExpiry => Sys2Proof.Machine.execMarkWindowExpiry s
  | .emergencyLineRawChange asserted => Sys2Proof.Machine.execEmergencyLineRawChange asserted s
  | .emergencyLineAcceptedChange => Sys2Proof.Machine.execEmergencyLineAcceptedChange s

end Sys2Proof.Machine
end

