-- ==== Sys2Proof/Safety.lean ====
section
/-! DEFINITION. The terms that claims about the controller use: a safe run, what a taken request leaves, and the laws that the
manual says the controller keeps. -/

namespace Sys2Proof.Machine

open Sys2Proof

/-! ### Runs -/

/-- The state that a command answers, if it answers a next state. -/
def execState (c : Instr) (s : State) : Option State :=
  match exec c s with
  | .next t => some t
  | .fault _ => none
  | .refused _ => none

/-- The state after a list of commands, if none of them stops. -/
def runCommands : List Instr → State → Option State
  | [], s => some s
  | c :: cs, s => (execState c s).bind (runCommands cs)

/-- A list of commands runs safely when none of them stops. -/
def Safe (cs : List Instr) (s : State) : Prop := (runCommands cs s).isSome = true

/-! ### Taking a request -/

/-- The answer slot is empty and no request is pending: a complete request is taken at once (R197). -/
def State.slotFree (s : State) : Prop := s.link.answerSlot = none ∧ s.link.pendingRequest = none

/-- The link takes an answer (R197, R207): on an idle line it is sent at once, otherwise it waits in the slot. -/
def State.answering (kind : Nat) (tag : Byte) (r : Reply) (s : State) : State :=
  if s.link.transmitter = none then
    { s with link := { s.link with transmitter := some ⟨.answer ⟨kind, tag, r⟩, s.runTime⟩, answerSlot := none } }
  else { s with link := { s.link with answerSlot := some ⟨kind, tag, r⟩ } }

/-- The Link Controller without its Notice Queue and statistics: what the owners of the other blocks' state never change. -/
def Link.still (k : Link) : Link := { k with queue := [], lost := 0, stats := LinkStats.zero }

/-- Notices posted one after another (R203). -/
def State.posting (ns : List Notice) (s : State) : State := ns.foldl (fun s n => post n s) s

/-- The request frame that a host request's command stands for (R194, R198). -/
def requestFrameOf : Instr → Option RequestFrame
  | .setup tag r => some ⟨tag, .setup r⟩
  | .serviceStart tag t => some ⟨tag, .serviceStart t⟩
  | .serviceStop tag => some ⟨tag, .serviceStop⟩
  | .egressBegin tag => some ⟨tag, .egressBegin⟩
  | .egressEnd tag => some ⟨tag, .egressEnd⟩
  | .restart tag => some ⟨tag, .restart⟩
  | .status tag => some ⟨tag, .status⟩
  | .timeMark tag m => some ⟨tag, .timeMark m⟩
  | .tariffLoad tag n c => some ⟨tag, .tariffLoad n c⟩
  | .tariffClear tag => some ⟨tag, .tariffClear⟩
  | .tariffCommit tag g e => some ⟨tag, .tariffCommit g e⟩
  | .tariffCancel tag => some ⟨tag, .tariffCancel⟩
  | .tariffQuery tag => some ⟨tag, .tariffQuery⟩
  | .berthOpen tag r => some ⟨tag, .berthOpen r⟩
  | .berthClose tag b => some ⟨tag, .berthClose b⟩
  | .berthAmend tag r => some ⟨tag, .berthAmend r⟩
  | .berthQuery tag b => some ⟨tag, .berthQuery b⟩
  | .laneAssign tag l b => some ⟨tag, .laneAssign l b⟩
  | .laneReturn tag l => some ⟨tag, .laneReturn l⟩
  | .laneLamp tag r => some ⟨tag, .laneLamp r⟩
  | .present tag l c => some ⟨tag, .present l c⟩
  | .denyAdd tag n xs => some ⟨tag, .denyAdd n xs⟩
  | .denyRemove tag n xs => some ⟨tag, .denyRemove n xs⟩
  | .denyClear tag => some ⟨tag, .denyClear⟩
  | .denyCheck tag c => some ⟨tag, .denyCheck c⟩
  | .journalRead tag => some ⟨tag, .journalRead⟩
  | .journalRelease tag r => some ⟨tag, .journalRelease r⟩
  | .unknownKind tag k => some ⟨tag, .unknownKind k⟩
  | _ => none

/-- The body that a host builds for a PRESENT (R204). -/
def presentBody (lane : Nat) (c : Credential) : List Byte :=
  be 1 lane ++ be 4 c.card ++ be 1 c.cardState ++ be 1 c.concession ++ optBytes 12 boardingBytes c.lastBoarding ++
  daySpendBytes c.daySpend ++ be 1 c.productCount ++ c.products.flatMap productBytes

/-- The kind fields of a product as a host sends them carry no value in the bytes that are not read (R204). -/
def fieldsKnown : ProductFields → Bool
  | .unknown _ => false
  | _ => true

/-! ### The laws of the blocks -/

/-- Every waiting command can reach the controller. -/
def State.commandsFit (s : State) : Prop := ∀ c ∈ s.pending, c.wellFormed = true

/-- The card numbers that a pending DENY_ADD carries fit their fields (R199). -/
def State.pendingNumbersFit (s : State) : Prop :=
  ∀ f n xs, s.link.pendingRequest = some f → f.request = .denyAdd n xs → ∀ x ∈ xs, x ≤ 4294967295

/-- The days that a pending TIME_MARK or SERVICE_START carries fit their fields (R199). -/
def State.pendingTimesFit (s : State) : Prop :=
  ∀ f t, s.link.pendingRequest = some f → f.request = .timeMark t ∨ f.request = .serviceStart (some t) → t.day ≤ 65535

/-- The Deny List is in ascending order without repeats, holds at most 2048 numbers, and each is a card number (R163). -/
def DenyLaw (s : State) : Prop :=
  s.deny.Pairwise (· < ·) ∧ s.deny.length ≤ 2048 ∧ ∀ n ∈ s.deny, 1 ≤ n ∧ n ≤ 4294967295

/-- The Notice Queue holds at most 64 notices and lost counts are within 0..255; the statistics are within 0..65535 (R203, R208). -/
def QueueLaw (s : State) : Prop :=
  s.link.queue.length ≤ 64 ∧ s.link.lost ≤ 255 ∧ (∀ q ∈ s.link.queue, q.lost ≤ 255) ∧
  s.link.stats.framesTaken ≤ 65535 ∧ s.link.stats.framingErrors ≤ 65535 ∧ s.link.stats.crcErrors ≤ 65535 ∧
  s.link.stats.overruns ≤ 65535 ∧ s.link.stats.huntDiscards ≤ 65535 ∧ s.link.stats.answersSent ≤ 65535 ∧
  s.link.stats.noticesSent ≤ 65535 ∧ s.link.stats.noticesDiscarded ≤ 65535

/-- After every event: a pending request waits behind an answer, and nothing waits for an idle line (R197, R207). -/
def LineLaw (s : State) : Prop :=
  (s.link.pendingRequest ≠ none → s.link.answerSlot ≠ none) ∧
  (s.link.transmitter = none → s.link.answerSlot = none ∧ s.link.queue = [])

/-- The framer's state is the one its stored bytes call for, and a frame in assembly is within its length (R196). -/
def FramerLaw (s : State) : Prop :=
  let f := s.link.framer
  (f.state = .hunt → f.stored = []) ∧
  (f.state ≠ .hunt →
    f.state = framerAfter f.stored ∧ (2 ≤ f.stored.length → frameLength f.stored ≤ 480) ∧
    (4 ≤ f.stored.length → f.stored.length < 6 + frameLength f.stored))

/-- The Trip Journal holds at most 8 records; berths wait only while it is full, each once, and the waiting berths are those in
DEPARTED, each holding its record (R169). -/
def JournalLaw (s : State) : Prop :=
  s.journal.records.length ≤ 8 ∧ (s.journal.waiting ≠ [] → s.journal.records.length = 8) ∧ s.journal.waiting.Nodup ∧
  ∀ b t, s.berth b = some t →
    (b ∈ s.journal.waiting ↔ t.phase = .departed) ∧ (t.phase = .departed ↔ t.record ≠ none)

/-- A waiting berth holds a trip. -/
def WaitingLaw (s : State) : Prop := ∀ b ∈ s.journal.waiting, s.berth b ≠ none

/-- Every count of a trip is within its range (R6). -/
def Counts.inRange (c : Counts) : Prop :=
  c.onboard ≤ 999 ∧ c.forward ≤ 65535 ∧ c.reverse ≤ 65535 ∧ c.paidPurse ≤ 65535 ∧ c.paidCarnet ≤ 65535 ∧
  c.paidAllowance ≤ 65535 ∧ c.paidPass ≤ 65535 ∧ c.courtesy ≤ 65535 ∧ c.unpaid ≤ 65535 ∧ c.egress ≤ 65535 ∧
  c.ambiguous ≤ 65535 ∧ c.voids ≤ 65535 ∧ c.refusals ≤ 65535 ∧ c.revenue ≤ 4294967295

/-- An onboard count that has saturated, as its flags show, stands at its limit (R6, R7). -/
def TripFlags.saturate (f : TripFlags) (c : Counts) : Prop := (f.overflow = true → c.onboard = 999) ∧ (f.underflow = true → c.onboard = 0)

/-- The counts of every trip, of every held record and of every stored record are within their ranges, and an onboard count that has
saturated stands at its limit (R6, R23, R170). -/
def CountLaw (s : State) : Prop :=
  (∀ b t, s.berth b = some t →
    (t.counts.inRange ∧ t.flags.saturate t.counts) ∧ ∀ r, t.record = some r → r.counts.inRange ∧ r.flags.saturate r.counts) ∧
  ∀ r ∈ s.journal.records, r.counts.inRange ∧ r.flags.saturate r.counts

/-- Boarding goes on only in service: a berth that holds a trip is present, and the pontoon is IN_SERVICE or in an EGRESS that
returns to it (R26). -/
def ServiceLaw (s : State) : Prop :=
  ∀ b, s.berth b ≠ none →
    s.berthPresent b = true ∧
    (s.supervisor.state = .inService ∨ (s.supervisor.state = .egress ∧ s.supervisor.returnState = some .inService))

/-- The latched flag of a level is set. -/
def TripFlags.reached (f : TripFlags) : FillLevel → Prop
  | .room => True
  | .near => f.near = true
  | .full => f.full = true
  | .overfull => f.overfull = true

/-- The fill level of a boarding trip is the one its numbers give, and its latched flag is set (R8, R9). -/
def FillLaw (s : State) : Prop :=
  ∀ b t, s.berth b = some t → t.phase ≠ .departed → t.fill = s.tripFill t ∧ t.flags.reached t.fill

/-- No OPEN trip stands past a closing condition of its own, and no CLOSING trip stands settled (R19, R20, R22). -/
def ClosingLaw (s : State) : Prop :=
  ∀ b t, s.berth b = some t →
    (t.phase = .opened →
      t.departureReached s.clock.time = false ∧
      ¬(t.context.closeWhenFull = true ∧ t.context.capacity ≤ t.counts.onboard)) ∧
    (t.phase = .closing → s.settled b t = false)

/-- A lane holds a hold exactly in OPENING and OPEN, runs the timer of its state and no other, and carries a fault cause exactly in
FAULT (R27, R28, R29, R34, R36). -/
def Lane.coherent (l : Lane) : Prop :=
  (l.hold ≠ none ↔ l.state = .opening ∨ l.state = .opened) ∧
  (l.barrierTimer ≠ none ↔ l.state = .opening ∨ l.state = .closing) ∧
  (l.passageTimer ≠ none ↔ l.state = .opened ∧ l.expiryPending = false) ∧
  (l.clearTimer ≠ none ↔ l.state = .clearing ∧ l.decoder.pair = .clear) ∧
  (l.expiryPending = true → l.state = .opened ∧ l.decoder.pair ≠ .clear) ∧
  (l.faultCause ≠ none ↔ l.state = .fault) ∧
  (l.hold ≠ none → l.berth ≠ none)

/-- The fields of a movement stand as the pair state calls for (R52). -/
def Decoder.sound (d : Decoder) : Prop := (d.entry = none ↔ d.pair = .clear) ∧ d.last = d.pair.single

/-- The decoder's pair state is the one the accepted levels give; its fields stand as the pair calls for, as did those of the decoder that
the lane remembers (R52, R53). -/
def Lane.decoded (l : Lane) : Prop :=
  l.decoder.pair = l.pair ∧ l.decoder.sound ∧ ∀ c, l.lastChange = some c → c.before.sound

/-- A filter's measure, when it runs, is of the present raw level, which differs from the accepted one (R49). -/
def Beam.measured (b : Beam) : Prop :=
  match b.measure with
  | none => b.raw = b.accepted
  | some m => m.level = b.raw ∧ b.raw ≠ b.accepted

/-- Every lane is coherent with its decoder and filters; a lane that is not present is OFF and unassigned (R28, R29, R49, R52). -/
def LaneLaw (s : State) : Prop :=
  ∀ i, (s.lane i).coherent ∧ (s.lane i).decoded ∧ (s.lane i).beamA.measured ∧ (s.lane i).beamB.measured ∧
    (s.lanePresent i = false → (s.lane i).state = .off ∧ (s.lane i).berth = none)

/-- Service time has a value exactly outside UNSET, its second is in range, and the run times it was set at have passed (R148). -/
def ClockLaw (s : State) : Prop :=
  (s.clock.state = .unset ↔ s.clock.time = none) ∧ (s.clock.time = none ↔ s.clock.settingRunTime = none) ∧
  (s.clock.state = .synced → s.clock.lastMark ≠ none) ∧ (∀ t, s.clock.time = some t → t.second ≤ 86399) ∧
  (∀ r, s.clock.settingRunTime = some r → r ≤ s.runTime) ∧ (∀ r, s.clock.lastMark = some r → r ≤ s.runTime)

/-- Service time's day is in range (R148). -/
def DayLaw (s : State) : Prop := ∀ t, s.clock.time = some t → t.day ≤ 65535

/-- What a setting or an advance of service time makes of the state through its trigger (R157): one after another, in an order that nothing
fixes (log 3), each OPEN berth whose departure time is reached closes (R19), and a pending switch whose effective time is reached completes
(R139, R140; `none` in the order). A choice among two or more is one draw of the model's free orders. -/
def TriggerGives (s t : State) : Prop :=
  ∃ order : List (Option BerthIx), order.Nodup ∧
    (∀ b, some b ∈ order ↔ ∃ trip d now, s.berth b = some trip ∧ trip.phase = .opened ∧
      trip.context.closeAtDeparture = true ∧ trip.context.departure = some d ∧ s.clock.time = some now ∧
      absSecond d ≤ absSecond now) ∧
    (none ∈ order ↔ ∃ p now, s.tariff.pendingSwitch = some p ∧ s.clock.time = some now ∧
      absSecond p.effective ≤ absSecond now) ∧
    t = order.foldl (fun u task =>
        match task, s.tariff.staged.complete? with
        | some b, _ => closeBerth b .departureTime u
        | none, none => u
        | none, some set => State.posting
            [.tariffSwitched (s.tariff.active.elim 0 fun a => a.fares.generation) set.fares.generation s.clock.time]
            { u with tariff := ⟨some set, ⟨none, none, none, none⟩, none⟩ })
      { s with draws := if order.length < 2 then s.draws else s.draws + 1 }

/-- A pending switch stands only in SYNCED with an active set, names a complete staged set of another generation, and its effective
time lies ahead (R136, R138, R139). -/
def TariffLaw (s : State) : Prop :=
  ∀ p, s.tariff.pendingSwitch = some p →
    s.clock.state = .synced ∧ s.tariff.active ≠ none ∧
    (∃ set, s.tariff.staged.complete? = some set ∧ set.fares.generation = p.generation ∧
      set.fares.generation ≠ s.activeGeneration) ∧
    ∀ now, s.clock.time = some now → absSecond now < absSecond p.effective

/-- Outside CONFIG the pontoon is in EGRESS exactly while egress demand is true; the return state is present exactly in EGRESS
(R177, R187, R189). -/
def EgressLaw (s : State) : Prop :=
  (s.supervisor.state ≠ .config → (s.supervisor.state = .egress ↔ s.demand = true)) ∧
  (s.supervisor.state = .egress ↔
    s.supervisor.returnState = some .outOfService ∨ s.supervisor.returnState = some .inService) ∧
  (s.supervisor.returnState = none ∨ s.supervisor.state = .egress) ∧
  ∀ i, (s.lane i).state = .egress ↔ s.lanePresent i = true ∧ s.supervisor.state = .egress

/-- How many lanes assigned to a berth hold a hold. -/
def State.lanesHolding (s : State) (b : BerthIx) : Nat :=
  (allLanes.filter fun i => decide ((s.lane i).berth = some b) && (s.lane i).hold.isSome).length

/-- The holds count of a berth that holds a trip; 0 in VACANT. -/
def holdsOf (b : Berth) : Nat := b.elim 0 fun t => t.counts.holds

/-- Every berth's holds count is the number of its assigned lanes that hold a hold, and each such hold is for the berth's trip, which
is OPEN or CLOSING (R29). -/
def HoldLaw (s : State) : Prop :=
  (∀ b, holdsOf (s.berth b) = s.lanesHolding b) ∧
  ∀ i b h, (s.lane i).berth = some b → (s.lane i).hold = some h →
    ∃ t, s.berth b = some t ∧ t.phase ≠ .departed ∧ h.tripRef = t.context.tripRef

/-- The Recent Admission List holds at most 256 entries, at most one per pair and at most one HELD entry per card; each HELD entry
is the one of its lane's hold, and each hold has its HELD entry (R104, R105). -/
def ListLaw (s : State) : Prop :=
  s.recent.length ≤ 256 ∧
  s.recent.Pairwise (fun a b => ¬(a.card = b.card ∧ a.tripRef = b.tripRef)) ∧
  s.recent.Pairwise (fun a b => ¬(a.card = b.card ∧ a.state = .held ∧ b.state = .held)) ∧
  (∀ e ∈ s.recent, e.state = .held →
    (s.lane e.lane).hold = some ⟨e.card, e.tripRef, e.charge, e.kind⟩ ∧ (s.lane e.lane).berth = some e.berth) ∧
  ∀ i h, (s.lane i).hold = some h →
    ∃ e ∈ s.recent, e.state = .held ∧ e.lane = i ∧ e.card = h.card ∧ e.tripRef = h.tripRef

/-- The number of HELD entries. -/
def State.heldCount (s : State) : Nat := (s.recent.filter fun e => decide (e.state = .held)).length

end Sys2Proof.Machine
end

