-- ==== Sys2Proof/Certificates/Slice0/Obligations.lean ====
section
/-! DEFINITION. What is claimed of the PG-408, one proposition each, by the numbered rules of spec/. Model fields and functions are named
as the model names them; a clause that rests on a choice of the model names its log entry. -/

open Sys2Proof Sys2Proof.Machine

/-! ### The block, its queue and its clock -/

/-- A step takes the command at the front of the queue and is exec of it on the state with the queue's rest. The queue of waiting commands,
first in and first out, is the model's choice (log 1), not a rule of the manual. -/
def Obligations.StepRunsTheFrontCommand : Prop :=
  ∀ (c : Instr) (s : State), step { s with pending := c :: s.pending } = exec c s

/-- R147, and logs 1, 2, 4 and 5. Every command in every state answers a next state, leaves the queue of waiting commands as it is and, but for a
power-on reset, leaves run time as it is. With no command waiting a step is the model's tick: run time rises by one millisecond, nothing else
changes but the queue and the count of free orders, and exactly the timed events that are then due stand in the queue. That the end of a frame
on the line is due when frameTime, rounded up to a whole millisecond, has passed is the model's choice (log 5). -/
def Obligations.RunTimePassesOnlyInIdleSteps : Prop :=
  (∀ (c : Instr) (s : State), ∃ t, exec c s = .next t ∧ t.pending = s.pending ∧
     ((∀ pins, c ≠ .powerOnReset pins) → t.runTime = s.runTime)) ∧
  (∀ s : State, s.pending = [] →
     ∃ t, step s = .next t ∧ t.runTime = s.runTime + 1 ∧
       { t with runTime := s.runTime, draws := s.draws, pending := [] } = s ∧
       ∀ c, c ∈ t.pending ↔
         (c = .serviceTimeAdvance ∧ s.clock.state ≠ .unset ∧
           ∃ r, s.clock.settingRunTime = some r ∧ r + 1000 * (s.clock.advances + 1) ≤ s.runTime + 1) ∨
         (c = .markWindowExpiry ∧ s.clock.state = .synced ∧
           ∃ r, s.clock.lastMark = some r ∧ 1000 * s.supervisor.setup.markWindow < s.runTime + 1 - r) ∨
         (c = .emergencyLineAcceptedChange ∧ ∃ m, s.supervisor.line.measure = some m ∧ m + 20 ≤ s.runTime + 1) ∨
         (c = .frameGapTimeout ∧ s.link.framer.state ≠ .hunt ∧ s.link.framer.lastCharacter + 10 < s.runTime + 1) ∨
         (c = .transmitFrameEnd ∧ ∃ tr, s.link.transmitter = some tr ∧
           tr.start + frameTime s.link.bitRate tr.frame.bytes.length ≤ s.runTime + 1) ∨
         ∃ i : LaneIx,
           (c = .beamAcceptedChange i ∧ ∃ m, ((s.lane i).beamA.measure = some m ∨ (s.lane i).beamB.measure = some m) ∧
             m.start + m.length ≤ s.runTime + 1) ∨
           (c = .barrierTimerExpiry i ∧ ∃ d, (s.lane i).barrierTimer = some d ∧ d ≤ s.runTime + 1) ∨
           (c = .passageTimerExpiry i ∧ ∃ d, (s.lane i).passageTimer = some d ∧ d ≤ s.runTime + 1) ∨
           (c = .clearTimerExpiry i ∧ ∃ d, (s.lane i).clearTimer = some d ∧ d ≤ s.runTime + 1) ∨
           (c = .lampPulseEnd i ∧ ∃ d, (s.lamp i).pulseDue = some d ∧ d ≤ s.runTime + 1))

/-- What a power-on reset leaves, by R1, R27, R50, R58, R104, R132, R133, R147, R148, R163, R169, R177, R180, R193, R196, R197, R203,
R207 and R208. The pins are those it finds; the command queue and the count of free orders stand (log 1, log 3 and log 9). -/
def Obligations.PowerOnResetGivesThePowerOnValues : Prop :=
  ∀ (pins : Pins) (s : State), ∃ t, exec (.powerOnReset pins) s = .next t ∧
    t.runTime = 0 ∧
    t.link = ⟨pins.strap1, pins.strap0, ⟨.hunt, [], 0⟩, none, none, [], 0, none, ⟨0, 0, 0, 0, 0, 0, 0, 0⟩⟩ ∧
    t.supervisor = ⟨.config, none, false, ⟨pins.emergency, pins.emergency, none⟩, ⟨0, 8, 4, 30, 120, 0, 3, false⟩⟩ ∧
    t.clock.state = .unset ∧ t.clock.time = none ∧ t.clock.settingRunTime = none ∧ t.clock.lastMark = none ∧
    t.tariff = ⟨none, ⟨none, none, none, none⟩, none⟩ ∧
    (∀ b, t.berth b = none) ∧
    (∀ i, (t.lane i).state = .off ∧ (t.lane i).berth = none ∧ (t.lane i).hold = none ∧ (t.lane i).faultCause = none ∧
      (t.lane i).returning = false ∧ (t.lane i).expiryPending = false ∧ (t.lane i).beamOrder = .normal ∧
      (t.lane i).filterCode = 20 ∧ (t.lane i).passageTimeout = 8000 ∧ (t.lane i).barrierTimeout = 1500 ∧
      (t.lane i).barrierTimer = none ∧ (t.lane i).passageTimer = none ∧ (t.lane i).clearTimer = none ∧
      (t.lane i).sense = pins.sense.get i ∧
      (t.lane i).beamA = ⟨pins.beamA.get i, pins.beamA.get i, none⟩ ∧
      (t.lane i).beamB = ⟨pins.beamB.get i, pins.beamB.get i, none⟩ ∧
      (t.lane i).decoder =
        (match pins.beamA.get i, pins.beamB.get i with
          | false, false => ⟨.clear, none, none⟩
          | true, false => ⟨.outerOnly, some .unknown, some .outer⟩
          | true, true => ⟨.both, some .unknown, none⟩
          | false, true => ⟨.innerOnly, some .unknown, some .inner⟩) ∧
      (t.lane i).lastChange = none ∧ t.lamp i = ⟨.off, .follow, 250, false, none⟩) ∧
    t.recent = [] ∧ t.deny = [] ∧ t.journal = ⟨[], []⟩ ∧ t.draws = s.draws ∧ t.pending = s.pending

/-- The machine right after reset keeps every law that the steps keep. The levels of its input pins are the model's choice (log 6). -/
def Obligations.ResetMeetsTheLaws : Prop :=
  DenyLaw State.reset ∧ QueueLaw State.reset ∧ LineLaw State.reset ∧ FramerLaw State.reset ∧ JournalLaw State.reset ∧
  WaitingLaw State.reset ∧ CountLaw State.reset ∧ ServiceLaw State.reset ∧ FillLaw State.reset ∧ ClosingLaw State.reset ∧
  LaneLaw State.reset ∧ ClockLaw State.reset ∧ DayLaw State.reset ∧ TariffLaw State.reset ∧ EgressLaw State.reset ∧ HoldLaw State.reset ∧
  ListLaw State.reset
/-! ### The request link -/

/-- R197, for every host request: with a request pending it is discarded and an overrun is counted; with the slot full and none pending
it waits in the pending position. The line is busy whenever the slot is full (LineLaw, which every step keeps). -/
def Obligations.RequestsWaitOrAreOverrun : Prop :=
  ∀ (c : Instr) (f : RequestFrame) (s : State), requestFrameOf c = some f → LineLaw s →
    (∀ p, s.link.pendingRequest = some p →
      exec c s = .next { s with link := { s.link with
        stats := { s.link.stats with overruns := min 65535 (s.link.stats.overruns + 1) } } }) ∧
    (∀ a, s.link.pendingRequest = none → s.link.answerSlot = some a →
      exec c s = .next { s with link := { s.link with pendingRequest := some f } })

/-- R198 and R200: a frame of an unknown kind is answered UNKNOWN_KIND with the kind received, under its kind + 0x80 or 0xFF, whatever
its body. A body that has not the length its kind calls for is answered FORMAT with that length: for the kinds of fixed length, for those whose
length a count or a segment number in the body gives, and 0 where the body is too short to hold it. A request given as a command is answered
so when its count does not agree with its records, or a TARIFF_LOAD when its contents are not those of its segment; the length called for is
then read from the count or the segment number (log 29). None of these changes anything but the link. -/
def Obligations.UnknownKindsAndWrongLengthsAreAnswered : Prop :=
  ∀ (tag : Byte) (s : State), s.slotFree →
    (∀ k, exec (.unknownKind tag k) s = .next (State.answering k tag (.unknownKind k) (countTaken s)) ∧
      answerKind k = (if k ≤ 0x7E then k + 0x80 else 0xFF) ∧
      (Reply.unknownKind k).bytes = [0x10#8, BitVec.ofNat 8 k]) ∧
    (∀ lane c, c.products.length ≠ c.productCount →
      exec (.present tag lane c) s = .next (State.answering 0x30 tag (.badLength (25 + 8 * c.productCount)) (countTaken s))) ∧
    (∀ r : SetupRequest, r.lanes.length ≠ r.lanesPresent →
      exec (.setup tag r) s = .next (State.answering 0x01 tag (.badLength (11 + 6 * r.lanesPresent)) (countTaken s))) ∧
    (∀ n (xs : List Nat), xs.length ≠ n →
      exec (.denyAdd tag n xs) s = .next (State.answering 0x38 tag (.badLength (1 + 4 * n)) (countTaken s)) ∧
      exec (.denyRemove tag n xs) s = .next (State.answering 0x39 tag (.badLength (1 + 4 * n)) (countTaken s))) ∧
    (∀ n c, n ≤ 3 →
      ¬((n = 0 ∧ ∃ g : FareSegment, c = .fares g ∧ g.matrix.length = 32) ∨
        (n = 1 ∧ ∃ g : ConcessionSegment, c = .concessions g ∧ g.table.length = 8) ∨
        ((n = 2 ∨ n = 3) ∧ ∃ es : List SchemeEntry, c = .schemes es ∧ es.length = 16)) →
      exec (.tariffLoad tag n c) s = .next (State.answering 0x18 tag
        (.badLength (if n = 0 then 73 else if n = 1 then 29 else 65)) (countTaken s))) ∧
    (∀ k n, endOfEvent (completeRequest ⟨tag, .badLength k n⟩ s) = State.answering k tag (.badLength n) (countTaken s) ∧
      (Reply.badLength n).bytes = 0x11#8 :: be 2 n) ∧
    ∀ (bs : List Byte) (at_ : Nat → Nat), (∀ k, at_ k = (bs.getD k 0#8).toNat) →
      (∀ k, k ∉ [0x01, 0x02, 0x03, 0x04, 0x05, 0x06, 0x07, 0x10, 0x18, 0x19, 0x1A, 0x1B, 0x1C, 0x20, 0x21, 0x22, 0x23,
          0x28, 0x29, 0x2A, 0x30, 0x38, 0x39, 0x3A, 0x3B, 0x3C, 0x3D] → requestOf k bs = .unknownKind k) ∧
      (∀ k n, (k, n) ∈ [(0x02, 7), (0x03, 0), (0x04, 0), (0x05, 0), (0x06, 0), (0x07, 0), (0x10, 6), (0x19, 0), (0x1A, 9),
          (0x1B, 0), (0x1C, 0), (0x20, 23), (0x21, 1), (0x22, 17), (0x23, 1), (0x28, 2), (0x29, 1), (0x2A, 6), (0x3A, 0),
          (0x3B, 4), (0x3C, 0), (0x3D, 4)] → bs.length ≠ n → requestOf k bs = .badLength k n) ∧
      (bs.length < 3 → requestOf 0x01 bs = .badLength 0x01 0) ∧
      (3 ≤ bs.length → bs.length ≠ 11 + 6 * at_ 2 → requestOf 0x01 bs = .badLength 0x01 (11 + 6 * at_ 2)) ∧
      (bs.length < 25 → requestOf 0x30 bs = .badLength 0x30 0) ∧
      (25 ≤ bs.length → bs.length ≠ 25 + 8 * at_ 24 → requestOf 0x30 bs = .badLength 0x30 (25 + 8 * at_ 24)) ∧
      (∀ k, k = 0x38 ∨ k = 0x39 → (bs = [] → requestOf k bs = .badLength k 0) ∧
        (bs ≠ [] → bs.length ≠ 1 + 4 * at_ 0 → requestOf k bs = .badLength k (1 + 4 * at_ 0))) ∧
      (bs = [] → requestOf 0x18 bs = .badLength 0x18 0) ∧
      ∀ n, bs ≠ [] → at_ 0 ≤ 3 → n = (if at_ 0 = 0 then 73 else if at_ 0 = 1 then 29 else 65) → bs.length ≠ n →
        requestOf 0x18 bs = .badLength 0x18 n

/-- R194, R195, R196 and R197: the bytes of a frame, received one after another by a framer in HUNT, are a complete request when the check
value agrees, and otherwise a CRC error is counted and nothing else changes. The check value of a run of bytes is all ones before the first of
them; each byte joins the register's upper half, and the register is then shifted eight times under the generator 0x1021 of R195. -/
def Obligations.FrameBytesDeliverTheRequest : Prop :=
  (crcOf [] = 0xFFFF#16 ∧ ∀ (bs : List Byte) (b : Byte), crcOf (bs ++ [b]) =
    (List.range 8).foldl (fun r _ => if r.msb then (r <<< 1) ^^^ 0x1021#16 else r <<< 1)
      (crcOf bs ^^^ (b.setWidth 16 <<< 8))) ∧
  ∀ (kind : Nat) (tag : Byte) (body : List Byte) (w : CheckWord) (s : State),
    kind < 256 → body.length ≤ 480 → s.link.framer = Framer.idle → LineLaw s →
    runCommands (((0xA5#8 :: be 2 body.length ++ be 1 kind ++ [tag] ++ body ++ be 2 w.toNat).map
        fun b => Instr.receivedCharacter (.data b))) s =
      some (if w = crcOf (be 2 body.length ++ be 1 kind ++ [tag] ++ body) then
          endOfEvent (completeRequest ⟨tag, requestOf kind body⟩ s)
        else { s with link := { s.link with
          stats := { s.link.stats with crcErrors := min 65535 (s.link.stats.crcErrors + 1) } } })

/-- R196 and R208: what the framer discards. In HUNT every character but 0xA5 is a hunt discard; within a frame a character error, a
gap of more than 10 ms or a length above 480 is a framing error, and the character that ends such a gap is then taken in HUNT. On a line that
carries a frame nothing else happens. That a gap is more than 10 whole milliseconds since the last character, and that FRAME_GAP_TIMEOUT has no
effect before, are the model's choices (logs 4 and 5). -/
def Obligations.FramerDiscardsAndCounts : Prop :=
  ∀ s : State, s.link.transmitter ≠ none →
    (s.link.framer.state = .hunt →
      exec .frameGapTimeout s = .next s ∧
      exec (.receivedCharacter (.data 0xA5#8)) s =
        .next { s with link := { s.link with framer := ⟨.length, [], s.runTime⟩ } } ∧
      ∀ c : Character, c ≠ .data 0xA5#8 →
        exec (.receivedCharacter c) s = .next { s with link := { s.link with
          stats := { s.link.stats with huntDiscards := min 65535 (s.link.stats.huntDiscards + 1) } } }) ∧
    (s.link.framer.state ≠ .hunt →
      (s.link.framer.lastCharacter + 10 < s.runTime →
        exec .frameGapTimeout s = .next { s with link := { s.link with
          framer := Framer.idle
          stats := { s.link.stats with framingErrors := min 65535 (s.link.stats.framingErrors + 1) } } } ∧
        exec (.receivedCharacter (.data 0xA5#8)) s = .next { s with link := { s.link with
          framer := ⟨.length, [], s.runTime⟩
          stats := { s.link.stats with framingErrors := min 65535 (s.link.stats.framingErrors + 1) } } } ∧
        ∀ c : Character, c ≠ .data 0xA5#8 →
          exec (.receivedCharacter c) s = .next { s with link := { s.link with
            framer := Framer.idle
            stats := { s.link.stats with
              framingErrors := min 65535 (s.link.stats.framingErrors + 1)
              huntDiscards := min 65535 (s.link.stats.huntDiscards + 1) } } }) ∧
      (s.runTime ≤ s.link.framer.lastCharacter + 10 →
        exec .frameGapTimeout s = .next s ∧
        exec (.receivedCharacter .error) s = .next { s with link := { s.link with
          framer := Framer.idle
          stats := { s.link.stats with framingErrors := min 65535 (s.link.stats.framingErrors + 1) } } } ∧
        ∀ hi lo : Byte, s.link.framer.stored = [hi] →
          exec (.receivedCharacter (.data lo)) s = .next { s with link :=
            if 480 < 256 * hi.toNat + lo.toNat then
              { s.link with
                framer := Framer.idle
                stats := { s.link.stats with framingErrors := min 65535 (s.link.stats.framingErrors + 1) } }
            else { s.link with framer := ⟨.header, [hi, lo], s.runTime⟩ } }))

/-- R207, R197 and R208: at the end of a frame it is counted, and an answer in the slot is sent next, which takes a pending request in the
same event; with the slot empty the oldest notice is sent next; with both empty the transmitter becomes idle. -/
def Obligations.TransmitFrameEndHandsOutTheLine : Prop :=
  ∀ (s : State) (tr : Transmission) (counted : LinkStats), s.link.transmitter = some tr →
    counted = (match tr.frame with
      | .answer _ => { s.link.stats with answersSent := min 65535 (s.link.stats.answersSent + 1) }
      | .notice _ => { s.link.stats with noticesSent := min 65535 (s.link.stats.noticesSent + 1) }) →
    (∀ a, s.link.answerSlot = some a → s.link.pendingRequest = none →
      exec .transmitFrameEnd s = .next { s with link := { s.link with
        stats := counted, transmitter := some ⟨.answer a, s.runTime⟩, answerSlot := none } }) ∧
    (∀ a q, s.link.answerSlot = some a → s.link.pendingRequest = some q →
      ∃ t, exec .transmitFrameEnd s = .next t ∧
        t.link.transmitter = some ⟨.answer a, s.runTime⟩ ∧ t.link.pendingRequest = none ∧
        ∃ taken reply,
          judgeRequest q.request (countTaken { s with link := { s.link with
            stats := counted, transmitter := some ⟨.answer a, s.runTime⟩, answerSlot := none, pendingRequest := none } }) =
            (taken, reply) ∧
          t = { taken with link := { taken.link with answerSlot := some ⟨requestKind q.request, q.tag, reply⟩ } }) ∧
    (∀ n rest, s.link.answerSlot = none → s.link.queue = n :: rest →
      exec .transmitFrameEnd s = .next { s with link := { s.link with
        stats := counted, transmitter := some ⟨.notice n, s.runTime⟩, queue := rest } }) ∧
    (s.link.answerSlot = none → s.link.queue = [] →
      exec .transmitFrameEnd s = .next { s with link := { s.link with stats := counted, transmitter := none } })

/-- R203 and R208: a notice posted while fewer than 64 are held enters at the newest position with the lost count, which returns to 0; with
64 held it is discarded, the lost count rises within 0..255, and the discard is counted. R207: at the end of an event an idle line takes the
oldest notice. -/
def Obligations.PostedNoticesEnterOrAreLost : Prop :=
  ∀ (n : Notice) (s : State),
    (s.link.queue.length < 64 →
      post n s = { s with link := { s.link with queue := s.link.queue ++ [⟨s.link.lost, n⟩], lost := 0 } }) ∧
    (64 ≤ s.link.queue.length →
      post n s = { s with link := { s.link with
        lost := min 255 (s.link.lost + 1)
        stats := { s.link.stats with noticesDiscarded := min 65535 (s.link.stats.noticesDiscarded + 1) } } }) ∧
    (s.link.transmitter ≠ none → endOfEvent s = s) ∧
    (s.link.transmitter = none → s.link.answerSlot = none → s.link.queue = [] → endOfEvent s = s) ∧
    ∀ q rest, s.link.transmitter = none → s.link.answerSlot = none → s.link.queue = q :: rest →
      endOfEvent s = { s with link := { s.link with transmitter := some ⟨.notice q, s.runTime⟩, queue := rest } }

/-- R196, R197, R203, R207 and R208: three laws that every step keeps, from every state of which they hold: the Notice Queue, the lost counts
and the statistics stay within their bounds; nothing waits for an idle line and a pending request waits behind an answer; the framer's state is
the one its stored bytes call for. -/
def Obligations.LinkStaysSound : Prop :=
  (∀ s t : State, QueueLaw s → step s = .next t → QueueLaw t) ∧
  (∀ s t : State, LineLaw s → step s = .next t → LineLaw t) ∧
  (∀ s t : State, FramerLaw s → step s = .next t → FramerLaw t)

/-- R199, R200, R204: the body of a PRESENT that a host builds from a credential record of the product kinds 0 to 3, of a DENY_ADD or DENY_REMOVE of up to 119 numbers and of
a TIME_MARK is read back as what was encoded; the bits of the kind fields that are not read are sent as zeros. R194, R201, R205: every answer body
begins with its result code, the answer to a PRESENT has 57 bytes, a JOURNAL_READ answered OK 76, and a frame is 7 bytes longer than its body. -/
def Obligations.BodiesRoundTripAndHaveTheirSizes : Prop :=
  (∀ (tag : Byte) (lane : Nat) (c : Credential),
     (Instr.present tag lane c).wellFormed = true → c.productCount = c.products.length →
     (∀ p ∈ c.products, fieldsKnown p.fields = true) →
     requestOf 0x30 (presentBody lane c) = .present lane c) ∧
  ((∀ xs : List Nat, xs.length ≤ 119 → (∀ x ∈ xs, x < 4294967296) →
     requestOf 0x38 (be 1 xs.length ++ xs.flatMap (be 4)) = .denyAdd xs.length xs ∧
     requestOf 0x39 (be 1 xs.length ++ xs.flatMap (be 4)) = .denyRemove xs.length xs) ∧
   ∀ t : ServiceTime, t.day < 65536 → t.second < 4294967296 → requestOf 0x10 (timeBytes t) = .timeMark t) ∧
  ((∀ r : Reply, r.bytes.head? = some (BitVec.ofNat 8 r.result.code)) ∧
   (∀ d, (Reply.decision d).bytes.length = 57) ∧
   (∀ depth waiting record, (Reply.journalRead depth waiting record).bytes.length = 76) ∧
   (∀ kind tag body, (frameBytes kind tag body).length = body.length + 7) ∧
   ∀ k n, (be k n).length = k)
/-! ### Queries, the Deny List and the Trip Journal -/

/-- R192 and R145: STATUS and TARIFF_QUERY are taken in every pontoon state, change nothing but the link, and answer the values as they
stand, the frame that carries the request already counted (R208; log 22). -/
def Obligations.StatusAndTariffQueryReport : Prop :=
  ∀ (tag : Byte) (s : State), s.slotFree →
    exec (.tariffQuery tag) s = .next (State.answering 0x1C tag (.tariffQuery
      { activeGeneration := s.tariff.active.elim 0 fun a => a.fares.generation
        present := (s.tariff.staged.fares.isSome, s.tariff.staged.concessions.isSome, s.tariff.staged.schemesLow.isSome,
          s.tariff.staged.schemesHigh.isSome)
        stagedGeneration := s.tariff.staged.fares.map fun f => f.generation
        complete := s.tariff.staged.fares.isSome && s.tariff.staged.concessions.isSome &&
          s.tariff.staged.schemesLow.isSome && s.tariff.staged.schemesHigh.isSome
        effective := s.tariff.pendingSwitch.map fun p => p.effective
        timeState := s.clock.state }) (countTaken s)) ∧
    ∃ r : StatusReport, exec (.status tag) s = .next (State.answering 0x07 tag (.status r) (countTaken s)) ∧
      r.pontoon = s.supervisor.state ∧ r.returnState = s.supervisor.returnState ∧
      r.demand = (s.supervisor.line.accepted || s.supervisor.latch) ∧ r.line = s.supervisor.line.accepted ∧
      r.latch = s.supervisor.latch ∧ r.pontoonId = s.supervisor.setup.pontoonId ∧
      r.lanesPresent = s.supervisor.setup.lanesPresent ∧ r.berthsPresent = s.supervisor.setup.berthsPresent ∧
      r.timeState = s.clock.state ∧ r.time = s.clock.time ∧
      r.activeGeneration = s.tariff.active.elim 0 (fun a => a.fares.generation) ∧
      r.stagedGeneration = s.tariff.staged.fares.map (fun f => f.generation) ∧
      r.switchPending = s.tariff.pendingSwitch.isSome ∧
      (∀ k : Nat, r.berths[k]? = if h : k < 4 ∧ k < s.supervisor.setup.berthsPresent then
        some ⟨berthStateOf (s.berth ⟨k, h.1⟩), (s.berth ⟨k, h.1⟩).map (fun t => t.fill),
          (s.berth ⟨k, h.1⟩).map fun t => (t.counts.onboard, t.counts.holds, t.context.capacity)⟩ else none) ∧
      (∀ k : Nat, r.lanes[k]? = if h : k < 8 then
        some ⟨(s.lane ⟨k, h⟩).state, (s.lane ⟨k, h⟩).berth,
          if (s.lane ⟨k, h⟩).state = .fault then (s.lane ⟨k, h⟩).faultCause else none⟩ else none) ∧
      r.denyCount = s.deny.length ∧ r.journalDepth = s.journal.records.length ∧
      r.journalWaiting = s.journal.waiting.length ∧ r.queueDepth = s.link.queue.length ∧ r.lost = s.link.lost ∧
      r.stats = { s.link.stats with framesTaken := min 65535 (s.link.stats.framesTaken + 1) }

/-- R164 and R165: the checks of the Deny List, whatever the pontoon state: a count of 0 or above 32, or a number 0, is refused with RANGE, the
first 0 named by its position (the codes of the field names by log 15). A DENY_ADD that passes them changes nothing but the list and the link: the
list gains the first numbers that fit, in ascending order, and the answer's counts add up. When the list fills, the first number not added is
named, and no number carried after it is added. -/
def Obligations.DenyAddAddsWhatFits : Prop :=
  ∀ (tag : Byte) (xs : List Nat) (s : State), s.slotFree → DenyLaw s →
    exec (.denyCheck tag 0) s = .next (State.answering 0x3B tag (.rangeField ⟨0, 1⟩) (countTaken s)) ∧
    ((xs = [] ∨ 32 < xs.length) →
      exec (.denyAdd tag xs.length xs) s = .next (State.answering 0x38 tag (.code .range) (countTaken s)) ∧
      exec (.denyRemove tag xs.length xs) s = .next (State.answering 0x39 tag (.code .range) (countTaken s))) ∧
    (xs ≠ [] → xs.length ≤ 32 → 0 ∈ xs → ∃ pre post, xs = pre ++ 0 :: post ∧ 0 ∉ pre ∧
      exec (.denyAdd tag xs.length xs) s =
        .next (State.answering 0x38 tag (.rangeField ⟨pre.length + 1, 1⟩) (countTaken s)) ∧
      exec (.denyRemove tag xs.length xs) s =
        .next (State.answering 0x39 tag (.rangeField ⟨pre.length + 1, 1⟩) (countTaken s))) ∧
    (xs ≠ [] → xs.length ≤ 32 → 0 ∉ xs →
      ∃ d added already notAdded first,
        exec (.denyAdd tag xs.length xs) s = .next (State.answering 0x38 tag
          (.denyAdd added already notAdded first d.length (decide (d.length = 2048))) { countTaken s with deny := d }) ∧
        d.Pairwise (· < ·) ∧ d.length = s.deny.length + added ∧ d.length ≤ 2048 ∧
        added + already + notAdded = xs.length ∧ (∀ n, n ∈ d → n ∈ s.deny ∨ n ∈ xs) ∧ (∀ n ∈ s.deny, n ∈ d) ∧
        first = xs.find? (fun n => decide (n ∉ d)) ∧ notAdded = (xs.filter fun n => decide (n ∉ d)).length ∧
        (0 < notAdded → d.length = 2048) ∧
        ∀ f, first = some f → ∃ pre post, xs = pre ++ f :: post ∧ f ∉ pre ∧ ∀ n ∈ d, n ∈ s.deny ∨ n ∈ pre)

/-- R166: a DENY_REMOVE that passes the checks of R164 removes every number it carries and no other, and counts the numbers removed and the numbers
absent, which add up to the count carried. -/
def Obligations.DenyRemoveRemovesWhatItCarries : Prop :=
  ∀ (tag : Byte) (xs : List Nat) (s : State), s.slotFree → DenyLaw s →
    (xs ≠ [] → xs.length ≤ 32 → 0 ∉ xs →
      ∃ d removed absent,
        exec (.denyRemove tag xs.length xs) s = .next (State.answering 0x39 tag (.denyRemove removed absent d.length)
          { countTaken s with deny := d }) ∧
        d = s.deny.filter (fun n => decide (n ∉ xs)) ∧ removed + d.length = s.deny.length ∧
        removed + absent = xs.length)

/-- R167 and R168: DENY_CLEAR empties the list with the number removed, or answers REDUNDANT with 0; DENY_CHECK of a number changes nothing and
reports whether the number is held and the deny count. A presentation that passes steps 1 to 5 is refused DENIED at step 6 exactly when a DENY_CHECK
of its card at the same list reports it present, with the write-back that blocks the card. -/
def Obligations.DenyClearAndCheckAndPresentAgree : Prop :=
  (∀ (tag : Byte) (card : Nat) (s : State), s.slotFree →
     (s.deny = [] → exec (.denyClear tag) s = .next (State.answering 0x3A tag (.denyClear .redundant 0) (countTaken s))) ∧
     (s.deny ≠ [] → exec (.denyClear tag) s =
       .next (State.answering 0x3A tag (.denyClear .ok s.deny.length) { countTaken s with deny := [] })) ∧
     (card ≠ 0 → exec (.denyCheck tag card) s =
       .next (State.answering 0x3B tag (.denyCheck card (decide (card ∈ s.deny)) s.deny.length) (countTaken s)))) ∧
  (∀ (tag : Byte) (i : LaneIx) (b : BerthIx) (t : Trip) (c : Credential) (s : State),
     s.slotFree → s.supervisor.state = .inService → s.lanePresent i = true → (s.lane i).berth = some b →
     s.berthPresent b = true → (s.lane i).state = .closed → s.berth b = some t → t.phase = .opened →
     malformed c = false → c.cardState = 0 → c.productCount = c.products.length →
     (∀ s' : State, s'.slotFree → s'.deny = s.deny → ∃ n, exec (.denyCheck tag c.card) s' =
       .next (State.answering 0x3B tag (.denyCheck c.card (decide (c.card ∈ s.deny)) n) (countTaken s'))) ∧
     ∃ u d, exec (.present tag i.val c) s = .next (State.answering 0x30 tag (.decision d) u) ∧
       (d.outcome = .refused .denied none ↔ c.card ∈ s.deny) ∧
       (c.card ∈ s.deny → d.writeBack = ⟨true, none, none, none⟩))

/-- R163: from every state in which the Deny List is in ascending order without repeats, of at most 2048 card numbers, every step leads
to such a state. The waiting commands and the pending request carry numbers that fit their fields, and every step keeps that. -/
def Obligations.DenyListStaysOrdered : Prop :=
  ∀ s t : State, DenyLaw s → s.commandsFit → s.pendingNumbersFit → step s = .next t →
    DenyLaw t ∧ t.commandsFit ∧ t.pendingNumbersFit

/-- R172, R173 and R174: reading changes nothing; a release removes the oldest record when its reference is given, and the freed slot goes
to the berth that has waited longest, whose record is stored and which becomes VACANT with TRIP_STORED and BERTH_STATE posted. -/
def Obligations.JournalReadAndRelease : Prop :=
  ∀ (tag : Byte) (ref : Nat) (s : State), s.slotFree → WaitingLaw s → JournalLaw s →
    exec (.journalRead tag) s = .next (State.answering 0x3C tag
      (match s.journal.records with
        | [] => .journalEmptyRead 0 s.journal.waiting.length
        | r :: _ => .journalRead s.journal.records.length s.journal.waiting.length r) (countTaken s)) ∧
    exec (.journalRelease tag 0) s = .next (State.answering 0x3D tag (.code .range) (countTaken s)) ∧
    (ref ≠ 0 → s.journal.records = [] →
      exec (.journalRelease tag ref) s = .next (State.answering 0x3D tag (.journalEmptyRelease 0) (countTaken s))) ∧
    (∀ r rest, ref ≠ 0 → s.journal.records = r :: rest → ref ≠ r.tripRef →
      exec (.journalRelease tag ref) s =
        .next (State.answering 0x3D tag (.journalMismatch r.tripRef (rest.length + 1)) (countTaken s))) ∧
    (∀ r rest, ref ≠ 0 → s.journal.records = r :: rest → ref = r.tripRef → s.journal.waiting = [] →
      exec (.journalRelease tag ref) s =
        .next (State.answering 0x3D tag (.journalRelease ref rest.length 0 (rest.head?.map fun x => x.tripRef))
          { countTaken s with journal := ⟨rest, []⟩ })) ∧
    (∀ r rest b waiting, ref ≠ 0 → s.journal.records = r :: rest → ref = r.tripRef → s.journal.waiting = b :: waiting →
      ∃ trip own t, s.berth b = some trip ∧ trip.record = some own ∧
        exec (.journalRelease tag ref) s = .next (State.answering 0x3D tag
          (.journalRelease ref 8 waiting.length ((rest ++ [own]).head?.map fun x => x.tripRef)) t) ∧
        t = State.posting [.tripStored b own.tripRef 8, .berthState b .vacant own.tripRef none s.clock.time]
          { countTaken s with journal := ⟨rest ++ [own], waiting⟩, berths := s.berths.set b none })

/-- R169, R24 and R174: the journal holds at most 8 records, the waiting berths are the DEPARTED ones, each once and each with its
record, and berths wait only while the journal is full. From every state of which this holds, every step leads to such a state. -/
def Obligations.JournalStaysInOrder : Prop :=
  ∀ s t : State, JournalLaw s → WaitingLaw s → step s = .next t → JournalLaw t ∧ WaitingLaw t
/-! ### The Tariff Store -/

/-- R131, R76 and R134: a segment's contents are well formed exactly when every value lies in its range, the period starts rise, and each scheme
entry has a listed kind and a quota its kind allows. TARIFF_LOAD, in every pontoon state: a segment number above 3 is RANGE, a pending switch
PENDING, a segment that is not well formed RANGE with its first bad field, named by its record and position (log 13); otherwise the named segment
of the staged set is replaced and nothing else changes. Contents that are not those of the segment are answered FORMAT, which
UnknownKindsAndWrongLengthsAreAnswered states. -/
def Obligations.TariffLoadReplacesOneSegment : Prop :=
  ((∀ g : FareSegment, segmentBad (.fares g) = none ↔
     (1 ≤ g.generation ∧ g.generation ≤ 65535) ∧ (∀ n ∈ g.matrix, n ≤ 9999) ∧
     1 ≤ g.s1 ∧ g.s1 < g.s2 ∧ g.s2 < g.s3 ∧ g.s3 ≤ 1439) ∧
   (∀ g : ConcessionSegment, segmentBad (.concessions g) = none ↔
     (∀ k ∈ g.table, k.discount ≤ 100 ∧ k.cap ≤ 30000) ∧ g.transferWindow ≤ 240 ∧ g.maxTransfers ≤ 7 ∧
     g.creditLimit ≤ 2000) ∧
   ∀ es : List SchemeEntry, segmentBad (.schemes es) = none ↔
     ∀ e ∈ es, e.kind ≤ 4 ∧ e.tripsPerDay ≤ 20 ∧ (e.kind = 3 → 1 ≤ e.tripsPerDay)) ∧
  ((∀ g : FareSegment, segmentBad (.fares g) =
     if g.generation = 0 ∨ 65535 < g.generation then some ⟨0, 2⟩
     else match g.matrix.findIdx? fun n => decide (9999 < n) with
       | some k => some ⟨k + 1, 1⟩
       | none =>
         if g.s1 = 0 ∨ 1439 < g.s1 then some ⟨0, 4⟩
         else if g.s2 ≤ g.s1 ∨ 1439 < g.s2 then some ⟨0, 5⟩
         else if g.s3 ≤ g.s2 ∨ 1439 < g.s3 then some ⟨0, 6⟩ else none) ∧
   (∀ g : ConcessionSegment, segmentBad (.concessions g) =
     match g.table.findIdx? fun k => decide (100 < k.discount ∨ 30000 < k.cap) with
     | some k => some ⟨k + 1, if (g.table[k]?.elim 0 fun c => c.discount) ≤ 100 then 2 else 1⟩
     | none =>
       if 240 < g.transferWindow then some ⟨0, 3⟩
       else if 7 < g.maxTransfers then some ⟨0, 4⟩ else if 2000 < g.creditLimit then some ⟨0, 5⟩ else none) ∧
   ∀ es : List SchemeEntry, segmentBad (.schemes es) =
     match es.findIdx? fun e => decide (4 < e.kind ∨ 20 < e.tripsPerDay ∨ (e.kind = 3 ∧ e.tripsPerDay = 0)) with
     | some k => some ⟨k + 1, if (es[k]?.elim 0 fun e => e.kind) ≤ 4 then 3 else 1⟩
     | none => none) ∧
  (∀ (tag : Byte) (s : State), s.slotFree →
     (∀ n c, 3 < n →
       exec (.tariffLoad tag n c) s = .next (State.answering 0x18 tag (.code .range) (countTaken s))) ∧
     (∀ n c, n ≤ 3 → contentsAgree n c = true → s.tariff.pendingSwitch ≠ none →
       exec (.tariffLoad tag n c) s = .next (State.answering 0x18 tag (.code .pending) (countTaken s))) ∧
     (∀ n c f, n ≤ 3 → contentsAgree n c = true → s.tariff.pendingSwitch = none → segmentBad c = some f →
       exec (.tariffLoad tag n c) s = .next (State.answering 0x18 tag (.rangeField f) (countTaken s))) ∧
     (∀ n c, n ≤ 3 → contentsAgree n c = true → s.tariff.pendingSwitch = none → segmentBad c = none →
       ∃ g : StagedSet,
         exec (.tariffLoad tag n c) s = .next (State.answering 0x18 tag
           (.tariffLoad n (g.fares.isSome, g.concessions.isSome, g.schemesLow.isSome, g.schemesHigh.isSome)
             (g.fares.map fun f => f.generation)
             (g.fares.isSome && g.concessions.isSome && g.schemesLow.isSome && g.schemesHigh.isSome))
           { countTaken s with tariff := { s.tariff with staged := g } }) ∧
         (∀ f, c = .fares f → n = 0 ∧ g = { s.tariff.staged with fares := some f }) ∧
         (∀ k, c = .concessions k → n = 1 ∧ g = { s.tariff.staged with concessions := some k }) ∧
         (∀ es, c = .schemes es → (n = 2 ∧ g = { s.tariff.staged with schemesLow := some es }) ∨
           (n = 3 ∧ g = { s.tariff.staged with schemesHigh := some es })) ∧
         c ≠ .unread))

/-- R135 and R142: TARIFF_CLEAR empties a staged set that holds a segment, is REDUNDANT on an empty one and PENDING while a switch is
pending; TARIFF_CANCEL removes a pending switch with TARIFF_CANCELLED and is REDUNDANT without one. -/
def Obligations.TariffClearAndCancel : Prop :=
  ∀ (tag : Byte) (s : State), s.slotFree →
    (s.tariff.pendingSwitch = none → s.tariff.staged ≠ ⟨none, none, none, none⟩ →
      exec (.tariffClear tag) s = .next (State.answering 0x19 tag (.code .ok)
        { countTaken s with tariff := { s.tariff with staged := ⟨none, none, none, none⟩ } })) ∧
    (s.tariff.pendingSwitch = none → s.tariff.staged = ⟨none, none, none, none⟩ →
      exec (.tariffClear tag) s = .next (State.answering 0x19 tag (.code .redundant) (countTaken s))) ∧
    (∀ p, s.tariff.pendingSwitch = some p →
      exec (.tariffClear tag) s = .next (State.answering 0x19 tag (.code .pending) (countTaken s)) ∧
      exec (.tariffCancel tag) s = .next (State.answering 0x1B tag (.code .ok) (State.posting
        [.tariffCancelled .request p.generation p.effective (s.tariff.active.elim 0 fun a => a.fares.generation)]
        { countTaken s with tariff := { s.tariff with pendingSwitch := none } }))) ∧
    (s.tariff.pendingSwitch = none →
      exec (.tariffCancel tag) s = .next (State.answering 0x1B tag (.code .redundant) (countTaken s)))

/-- R136: a TARIFF_COMMIT that its checks refuse, or that names the active generation, changes nothing but the link, and the first check
that decides gives the answer, with the active generation and the pending effective time. -/
def Obligations.TariffCommitRefusals : Prop :=
  ∀ (tag : Byte) (g : Nat) (e : Option ServiceTime) (s : State), s.slotFree →
    (∀ r : ResultCode, r = (if g = 0 ∨ (∃ t, e = some t ∧ 86399 < t.second) then .range
        else if s.tariff.staged.complete? = none then .incomplete
        else if s.tariff.staged.fares.map (fun f => f.generation) ≠ some g then .mismatch
        else if s.tariff.active = none then .ok
        else if s.tariff.active.map (fun a => a.fares.generation) = some g then .redundant
        else if s.clock.state ≠ .synced then .timeNotSynced else .ok) → r ≠ .ok →
      exec (.tariffCommit tag g e) s = .next (State.answering 0x1A tag
        (.tariffCommit r (s.tariff.active.elim 0 fun a => a.fares.generation)
          (s.tariff.pendingSwitch.map fun p => p.effective)) (countTaken s)))

/-- R136, R137, R138 and R140: a TARIFF_COMMIT that passes the checks. The first activation completes at once in any time state; a later
one in SYNCED completes at once when its effective time is absent or reached, and is otherwise armed, the staged set kept. -/
def Obligations.TariffCommitActivatesOrArms : Prop :=
  ∀ (tag : Byte) (g : Nat) (e : Option ServiceTime) (set : TariffSet) (s : State), s.slotFree →
    g ≠ 0 → (∀ t, e = some t → t.second ≤ 86399) → s.tariff.staged.complete? = some set → set.fares.generation = g →
    (s.tariff.active = none →
      exec (.tariffCommit tag g e) s = .next (State.answering 0x1A tag (.tariffCommit .ok g none)
        (State.posting [.tariffSwitched 0 g s.clock.time]
          { countTaken s with tariff := ⟨some set, ⟨none, none, none, none⟩, none⟩ }))) ∧
    (∀ a now, s.tariff.active = some a → a.fares.generation ≠ g → s.clock.state = .synced → s.clock.time = some now →
      (absSecond (e.getD now) ≤ absSecond now →
        exec (.tariffCommit tag g e) s = .next (State.answering 0x1A tag (.tariffCommit .ok g none)
          (State.posting [.tariffSwitched a.fares.generation g (some now)]
            { countTaken s with tariff := ⟨some set, ⟨none, none, none, none⟩, none⟩ }))) ∧
      (∀ t, e = some t → absSecond now < absSecond t →
        exec (.tariffCommit tag g e) s = .next (State.answering 0x1A tag (.tariffCommit .ok a.fares.generation (some t))
          { countTaken s with tariff := { s.tariff with pendingSwitch := some ⟨g, t⟩ } })))

/-- R136, R138, R139: from every state in which a pending switch stands only in SYNCED, names the complete staged set and lies ahead,
every step leads to such a state. -/
def Obligations.PendingSwitchStaysSound : Prop :=
  ∀ s t : State, TariffLaw s → ClockLaw s → step s = .next t → TariffLaw t

/-- R132 and R140: outside a power-on reset an active set stays active, and it changes only while the time state is SYNCED, to the staged
set, which is then emptied, with no switch left pending. -/
def Obligations.ActiveSetChangesOnlyWhole : Prop :=
  ∀ (s t : State) (a : TariffSet), TariffLaw s → ClockLaw s → LineLaw s →
    (∀ pins rest, s.pending ≠ .powerOnReset pins :: rest) → step s = .next t → s.tariff.active = some a →
    ∃ b, t.tariff.active = some b ∧
      (b ≠ a → s.tariff.staged.complete? = some b ∧ t.tariff.staged = ⟨none, none, none, none⟩ ∧
        t.tariff.pendingSwitch = none ∧ t.clock.state = .synced)
/-! ### The Service Clock -/

/-- R151, R152 and R153: a TIME_MARK with a second above 86399 is refused with RANGE; any other is taken in every pontoon state. With no
OPEN berth and no pending switch waiting for a moment at or before the mark, the clock alone changes: service time, the setting and mark run
times, SYNCED; TIME_STEP for a difference above 2 s, then TIME_STATE for a change of state. In every case the mark's trigger follows: the berths
whose departure time is then reached close and a switch whose effective time is reached completes (R157, R19, R139, R140), in an order that
nothing fixes (log 3), before the answer. -/
def Obligations.TimeMarkSetsServiceTime : Prop :=
  ∀ (tag : Byte) (m : ServiceTime) (s : State), s.slotFree →
    (86399 < m.second → exec (.timeMark tag m) s = .next (State.answering 0x10 tag (.code .range) (countTaken s))) ∧
    (m.second ≤ 86399 →
      (∀ b t d, s.berth b = some t → t.phase = .opened → t.context.closeAtDeparture = true →
        t.context.departure = some d → absSecond m < absSecond d) →
      (∀ p, s.tariff.pendingSwitch = some p → absSecond m < absSecond p.effective) →
      exec (.timeMark tag m) s = .next (State.answering 0x10 tag
        (.timeMark .synced m (s.clock.time.map fun o => (absSecond m : Int) - absSecond o))
        (State.posting
          ((match s.clock.time with
            | none => []
            | some o =>
              if absSecond o + 2 < absSecond m then [.timeStep o m .forward]
              else if absSecond m + 2 < absSecond o then [.timeStep o m .backward] else []) ++
            (if s.clock.state = .synced then [] else [.timeState s.clock.state .synced .mark (some m)]))
          { countTaken s with clock := ⟨.synced, some m, some s.runTime, some s.runTime, 0⟩ }))) ∧
    (m.second ≤ 86399 → ∃ final,
      TriggerGives (State.posting
          ((match s.clock.time with
            | none => []
            | some o =>
              if absSecond o + 2 < absSecond m then [.timeStep o m .forward]
              else if absSecond m + 2 < absSecond o then [.timeStep o m .backward] else []) ++
            (if s.clock.state = .synced then [] else [.timeState s.clock.state .synced .mark (some m)]))
          { countTaken s with clock := ⟨.synced, some m, some s.runTime, some s.runTime, 0⟩ }) final ∧
      exec (.timeMark tag m) s = .next (State.answering 0x10 tag
        (.timeMark .synced m (s.clock.time.map fun o => (absSecond m : Int) - absSecond o)) final))

/-- R149, R157: when a further 1000 ms have passed since the setting, service time advances by one second, into the next day after second 86399; at
day 65535, second 86399 it holds; before that run time the command has no effect (log 4). R154, R143, R155: in SYNCED, when the interval since the
last mark exceeds the mark window, the state becomes DEGRADED with TIME_STATE of cause WINDOW, and a pending switch is cancelled with cause TIME
after it; the rest stays. At the window itself, and in the other time states, nothing happens. An advance that is not held gives its trigger: the
berths whose departure time is then reached close and a switch whose effective time is reached completes (R19, R139, R140), in an order that
nothing fixes (log 3). -/
def Obligations.ServiceTimeAdvancesAndMarkWindowRunsOut : Prop :=
  (∀ (s : State) (r : Nat) (now : ServiceTime), s.clock.state ≠ .unset → s.clock.settingRunTime = some r →
     s.clock.time = some now →
     (s.runTime < r + 1000 * (s.clock.advances + 1) → exec .serviceTimeAdvance s = .next (endOfEvent s)) ∧
     (r + 1000 * (s.clock.advances + 1) ≤ s.runTime → ∀ then_ : ServiceTime,
       then_ = (if now.second < 86399 then ⟨now.day, now.second + 1⟩
         else if now.day < 65535 then ⟨now.day + 1, 0⟩ else now) →
       ((∀ b t d, s.berth b = some t → t.phase = .opened → t.context.closeAtDeparture = true →
         t.context.departure = some d → absSecond then_ < absSecond d) →
       (∀ p, s.tariff.pendingSwitch = some p → absSecond then_ < absSecond p.effective) →
       exec .serviceTimeAdvance s = .next (endOfEvent
         { s with clock := { s.clock with time := some then_, advances := s.clock.advances + 1 } })) ∧
       (then_ = now → exec .serviceTimeAdvance s = .next (endOfEvent
         { s with clock := { s.clock with advances := s.clock.advances + 1 } })) ∧
       (then_ ≠ now → ∃ final,
         TriggerGives { s with clock := { s.clock with time := some then_, advances := s.clock.advances + 1 } } final ∧
         exec .serviceTimeAdvance s = .next (endOfEvent final)))) ∧
  (∀ s : State,
     (∀ r, s.clock.state = .synced → s.clock.lastMark = some r →
       1000 * s.supervisor.setup.markWindow < s.runTime - r →
       exec .markWindowExpiry s = .next (endOfEvent (State.posting
         (.timeState .synced .degraded .window s.clock.time ::
           (match s.tariff.pendingSwitch with
             | none => []
             | some p => [.tariffCancelled .time p.generation p.effective
                 (s.tariff.active.elim 0 fun a => a.fares.generation)]))
         { s with
           clock := { s.clock with state := .degraded }
           tariff := { s.tariff with pendingSwitch := none } }))) ∧
     ((∀ r, s.clock.lastMark = some r → s.runTime - r ≤ 1000 * s.supervisor.setup.markWindow) →
       exec .markWindowExpiry s = .next (endOfEvent s)) ∧
     (s.clock.state ≠ .synced → exec .markWindowExpiry s = .next (endOfEvent s)))

/-- R148: from every state in which service time has a value exactly outside UNSET and its second in range, and the run times it was set and
marked at have passed, every step leads to such a state. Its day stays in range too, while the waiting commands and the pending request carry days
that fit their fields, which every step keeps of the pending request (and DenyListStaysOrdered of the commands). -/
def Obligations.ClockStaysSound : Prop :=
  (∀ s t : State, ClockLaw s → step s = .next t → ClockLaw t) ∧
  ∀ s t : State, DayLaw s → s.commandsFit → s.pendingTimesFit → step s = .next t → DayLaw t ∧ t.pendingTimesFit

/-- R160: service time moves backward only when a TIME_MARK sets it. From a state whose clock law holds, every step that is not a power-on
reset and takes no TIME_MARK, whether as its command, as a pending request or as the end of a received frame, keeps or raises it, and neither the last-mark run time nor
the setting run time decreases. -/
def Obligations.OnlyMarksMoveTimeBack : Prop :=
  ∀ (s t : State) (o : ServiceTime), ClockLaw s → step s = .next t → s.clock.time = some o →
    (∀ pins rest, s.pending ≠ .powerOnReset pins :: rest) →
    (∀ tag m rest, s.pending ≠ .timeMark tag m :: rest) →
    (∀ f m, s.link.pendingRequest = some f → f.request ≠ .timeMark m) →
    s.link.framer.stored[2]? ≠ some 0x10#8 →
    (∃ n, t.clock.time = some n ∧ absSecond o ≤ absSecond n) ∧
    (∀ r, s.clock.lastMark = some r → ∃ q, t.clock.lastMark = some q ∧ r ≤ q) ∧
    (∀ r, s.clock.settingRunTime = some r → ∃ q, t.clock.settingRunTime = some q ∧ r ≤ q)
/-! ### Berths and trips -/

/-- R8: OVER when onboard exceeds the capacity, else FULL at no free place, else NEAR within an effective margin of 1 or more, else ROOM. R8, R9: from
every state in which the fill level of every OPEN or CLOSING trip is the one its numbers give, with its latched flag set, and trips stand only in
service, every step leads to such a state. -/
def Obligations.FillLevelFollowsTheCounts : Prop :=
  (∀ capacity onboard holds margin : Nat,
     (capacity < onboard → fillLevel capacity onboard holds margin = .overfull) ∧
     (onboard ≤ capacity → capacity ≤ onboard + holds → fillLevel capacity onboard holds margin = .full) ∧
     (onboard + holds < capacity → 1 ≤ margin → capacity ≤ onboard + holds + margin →
       fillLevel capacity onboard holds margin = .near) ∧
     (onboard + holds + margin < capacity → fillLevel capacity onboard holds margin = .room)) ∧
  (∀ s t : State, FillLaw s → ServiceLaw s → EgressLaw s → step s = .next t → FillLaw t)

/-- R3 and R18: in CONFIG the four berth requests are refused with STATE, and otherwise RANGE for a berth that is not present. BERTH_QUERY of
a present berth changes nothing and reports the trip the berth holds. -/
def Obligations.BerthRequestsCheckAndQuery : Prop :=
  ∀ (tag : Byte) (s : State), s.slotFree →
    (s.supervisor.state = .config →
      (∀ r, exec (.berthOpen tag r) s = .next (State.answering 0x20 tag (.code .state) (countTaken s))) ∧
      (∀ n, exec (.berthClose tag n) s = .next (State.answering 0x21 tag (.code .state) (countTaken s))) ∧
      (∀ r, exec (.berthAmend tag r) s = .next (State.answering 0x22 tag (.code .state) (countTaken s))) ∧
      (∀ n, exec (.berthQuery tag n) s = .next (State.answering 0x23 tag (.code .state) (countTaken s)))) ∧
    (s.supervisor.state ≠ .config → ∀ n, (4 ≤ n ∨ s.supervisor.setup.berthsPresent ≤ n) →
      (∀ r : OpenRequest, r.berth = n →
        exec (.berthOpen tag r) s = .next (State.answering 0x20 tag (.code .range) (countTaken s))) ∧
      exec (.berthClose tag n) s = .next (State.answering 0x21 tag (.code .range) (countTaken s)) ∧
      (∀ r : AmendRequest, r.berth = n →
        exec (.berthAmend tag r) s = .next (State.answering 0x22 tag (.code .range) (countTaken s))) ∧
      exec (.berthQuery tag n) s = .next (State.answering 0x23 tag (.code .range) (countTaken s))) ∧
    (s.supervisor.state ≠ .config → ∀ b : BerthIx, b.val < s.supervisor.setup.berthsPresent →
      exec (.berthQuery tag b.val) s = .next (State.answering 0x23 tag
        (.berthQuery ((s.berth b).map fun t =>
          { trip := t
            margin := t.context.margin.getD s.supervisor.setup.defaultMargin
            marginIsDefault := t.context.margin.isNone
            free := (t.context.capacity : Int) - t.counts.onboard - t.counts.holds
            waiting := decide (b ∈ s.journal.waiting) })) (countTaken s)))

/-- R4, steps 1 to 4: the first check that fails decides the answer, and a refused BERTH_OPEN changes nothing but the link. R4 and R5: a
BERTH_OPEN that passes sets up the trip with aboard clamped to the capacity, posts FILL and BERTH_STATE, and then closes the
berth with cause FULL or, failing that, DEPARTURE_TIME when that condition already holds. Each lamp whose level condition the change makes true
rises. A condition that becomes true and false again within the event, as when the berth opens, closes and departs in it, rises too in the model's
reading (log 21, DEDUCED). A berth that is VACANT again at the end of the event is answered without fill level and free places (log 11). -/
def Obligations.BerthOpenSetsUpTheTrip : Prop :=
  ∀ (tag : Byte) (r : OpenRequest) (b : BerthIx) (s : State), s.slotFree → s.supervisor.state ≠ .config →
    r.berth = b.val → b.val < s.supervisor.setup.berthsPresent → ∀ inUse inRange : Prop,
    (inUse ↔ ∃ c t, c ≠ b ∧ s.berth c = some t ∧ t.context.tripRef = r.tripRef) →
    (inRange ↔ 1 ≤ r.tripRef ∧ r.tripRef ≤ 4294967295 ∧ 1 ≤ r.vessel ∧ r.vessel ≤ 65535 ∧ r.routeClass ≤ 7 ∧
      1 ≤ r.capacity ∧ r.capacity ≤ 600 ∧ (∀ d, r.departure = some d → d.second ≤ 86399) ∧
      ∀ m, r.margin = some m → m ≤ 50) →
    (¬inRange → exec (.berthOpen tag r) s = .next (State.answering 0x20 tag (.code .range) (countTaken s))) ∧
    (inRange → s.supervisor.state ≠ .inService ∨ s.berth b ≠ none →
      exec (.berthOpen tag r) s = .next (State.answering 0x20 tag (.code .state) (countTaken s))) ∧
    (inRange → s.supervisor.state = .inService → s.berth b = none → inUse →
      exec (.berthOpen tag r) s = .next (State.answering 0x20 tag (.code .busy) (countTaken s))) ∧
    (inRange → s.supervisor.state = .inService → s.berth b = none → ¬inUse →
      ∃ (opened final : State) (level : FillLevel) (trip : Trip),
        level = fillLevel r.capacity (min r.aboard r.capacity) 0 (r.margin.getD s.supervisor.setup.defaultMargin) ∧
        trip =
          { phase := .opened
            context := ⟨r.tripRef, r.vessel, r.routeClass, r.capacity, min r.aboard r.capacity, r.departure,
              r.closeAtDeparture, r.closeWhenFull, r.margin⟩
            openTime := s.clock.time
            counts := ⟨min r.aboard r.capacity, 0, 0, 0, 0, 0, 0, 0, 0, 0, 0, 0, 0, 0, 0⟩
            flags := ⟨decide (level = .near), decide (level = .full), decide (level = .overfull), false, false⟩
            firstGeneration := 0, lastGeneration := 0, fill := level
            closeCause := none, closeTime := none, departureTime := none, record := none } ∧
        opened = State.posting
          [.fill b level (min r.aboard r.capacity) 0 r.capacity, .berthState b .opened r.tripRef none s.clock.time]
          (rescanLamps s { countTaken s with berths := s.berths.set b (some trip) }) ∧
        final = (if r.closeWhenFull = true ∧ r.capacity ≤ r.aboard then closeBerth b .full opened
          else if r.closeAtDeparture = true ∧ (match r.departure, s.clock.time with
              | some d, some now => decide (absSecond d ≤ absSecond now)
              | _, _ => false) = true then closeBerth b .departureTime opened else opened) ∧
        exec (.berthOpen tag r) s = .next (State.answering 0x20 tag
          (.berthOpen (decide (r.capacity < r.aboard)) b
            ((final.berth b).map fun t => ⟨t.fill, (t.context.capacity : Int) - t.counts.onboard - t.counts.holds⟩)
            (berthStateOf (final.berth b))) final))

/-- R15: BERTH_CLOSE by the state of its berth: OPEN closes with cause REQUEST, CLOSING is REDUNDANT, VACANT and DEPARTED are STATE. R15, R19, R20:
closing makes the trip CLOSING with its cause and the service time, posts BERTH_STATE, and tests the berth's settlement. Each lamp whose level
condition the change makes true rises. BERTH_CLOSING rises so at a berth that closes and departs in one event too, in the model's reading (log 21,
DEDUCED). -/
def Obligations.BerthCloseClosesAnOpenBerth : Prop :=
  (∀ (tag : Byte) (b : BerthIx) (s : State), s.slotFree → s.supervisor.state ≠ .config →
     b.val < s.supervisor.setup.berthsPresent →
     (s.berth b = none →
       exec (.berthClose tag b.val) s = .next (State.answering 0x21 tag (.code .state) (countTaken s))) ∧
     ∀ t, s.berth b = some t →
       (t.phase = .opened →
         exec (.berthClose tag b.val) s =
           .next (State.answering 0x21 tag (.code .ok) (closeBerth b .request (countTaken s)))) ∧
       (t.phase = .closing →
         exec (.berthClose tag b.val) s = .next (State.answering 0x21 tag (.code .redundant) (countTaken s))) ∧
       (t.phase = .departed →
         exec (.berthClose tag b.val) s = .next (State.answering 0x21 tag (.code .state) (countTaken s)))) ∧
  (∀ (b : BerthIx) (t : Trip) (cause : CloseCause) (s : State), s.berth b = some t →
     closeBerth b cause s = settle b (State.posting
       [.berthState b .closing t.context.tripRef (some cause) s.clock.time]
       (rescanLamps s { s with
         berths := s.berths.set b
           (some { t with phase := .closing, closeCause := some cause, closeTime := s.clock.time }) })))

/-- R22, R23, R24 and R171: settlement. A CLOSING berth with no holds and none of its lanes in OPENING, OPEN, CLEARING, CLOSING or EGRESS
departs with its trip record; with room the record is stored and the berth is VACANT, otherwise it waits. Anything else stays as it is. That a
berth without lanes departs so during EGRESS too is the model's choice (log 32). -/
def Obligations.SettlingABerth : Prop :=
  ∀ (b : BerthIx) (t : Trip) (s : State) (held settled : Prop) (r : TripRecord), s.berth b = some t →
    (held ↔ t.counts.holds ≠ 0 ∨ ∃ i, (s.lane i).berth = some b ∧
      ((s.lane i).state = .opening ∨ (s.lane i).state = .opened ∨ (s.lane i).state = .clearing ∨
        (s.lane i).state = .closing ∨ (s.lane i).state = .egress)) →
    (settled ↔ t.phase = .closing ∧ ¬held) →
    r = ⟨b, t.context.tripRef, t.context.vessel, t.context.routeClass, t.context.capacity, t.context.aboard, t.counts,
      t.flags, t.firstGeneration, t.lastGeneration, t.openTime, t.closeTime, s.clock.time, t.closeCause⟩ →
    (¬settled → settle b s = s) ∧
    (settled → s.journal.records.length < 8 →
      settle b s = State.posting
        [.berthState b .departed t.context.tripRef none s.clock.time,
          .tripStored b t.context.tripRef (s.journal.records.length + 1),
          .berthState b .vacant t.context.tripRef none s.clock.time]
        { s with
          berths := s.berths.set b none
          journal := { s.journal with records := s.journal.records ++ [r] } }) ∧
    (settled → 8 ≤ s.journal.records.length →
      settle b s = State.posting
        [.berthState b .departed t.context.tripRef none s.clock.time,
          .journalFull b t.context.tripRef s.journal.records.length]
        { s with
          berths := s.berths.set b
            (some { t with phase := .departed, departureTime := s.clock.time, record := some r })
          journal := { s.journal with waiting := s.journal.waiting ++ [b] } })

/-- R16 and R17: BERTH_AMEND. Values out of range are RANGE, a berth that is not OPEN is STATE. In OPEN the amended fields of the context are
replaced together, the fill level is recomputed with its FILL notice and each lamp whose level condition that makes true rises, and then the two
closing conditions are evaluated, FULL first. A condition that becomes true rises even where the berth then departs in the event, in the model's
reading (log 21, DEDUCED). An option code of a departure or margin that R16 does not list is RANGE (log 14), and a berth that
is VACANT again at the end of the event is answered without fill level and free places (log 11). -/
def Obligations.BerthAmendReplacesTheContext : Prop :=
  ∀ (tag : Byte) (r : AmendRequest) (b : BerthIx) (s : State), s.slotFree → s.supervisor.state ≠ .config →
    r.berth = b.val → b.val < s.supervisor.setup.berthsPresent → ∀ inRange : Prop,
    (inRange ↔ (∀ c, r.capacity = some c → 1 ≤ c ∧ c ≤ 600) ∧
      (∀ d, r.departure = .set d → d.second ≤ 86399) ∧ (∀ code, r.departure ≠ .reserved code) ∧
      (∀ m, r.margin = .set m → m ≤ 50) ∧ ∀ code, r.margin ≠ .reserved code) →
    (¬inRange →
      exec (.berthAmend tag r) s = .next (State.answering 0x22 tag (.code .range) (countTaken s))) ∧
    (inRange → (∀ t, s.berth b = some t → t.phase ≠ .opened) →
      exec (.berthAmend tag r) s = .next (State.answering 0x22 tag (.code .state) (countTaken s))) ∧
    ∀ t, inRange → s.berth b = some t → t.phase = .opened →
      ∃ (context : TripContext) (level : FillLevel) (amendedTrip : Trip) (u final : State),
        context = { t.context with
          capacity := r.capacity.getD t.context.capacity
          departure := (match r.departure with
            | .set d => some d
            | .remove => none
            | _ => t.context.departure)
          closeAtDeparture := r.closeAtDeparture.getD t.context.closeAtDeparture
          closeWhenFull := r.closeWhenFull.getD t.context.closeWhenFull
          margin := (match r.margin with
            | .set m => some m
            | .remove => none
            | _ => t.context.margin) } ∧
        level = fillLevel context.capacity t.counts.onboard t.counts.holds
          (context.margin.getD s.supervisor.setup.defaultMargin) ∧
        amendedTrip = { t with
          context := context
          fill := level
          flags := if level = t.fill then t.flags else
            { t.flags with
              near := t.flags.near || decide (level = .near)
              full := t.flags.full || decide (level = .full)
              overfull := t.flags.overfull || decide (level = .overfull) } } ∧
        u = State.posting
          (if level = t.fill then [] else [.fill b level t.counts.onboard t.counts.holds context.capacity])
          (rescanLamps s { countTaken s with berths := s.berths.set b (some amendedTrip) }) ∧
        final = (if context.closeWhenFull = true ∧ context.capacity ≤ t.counts.onboard then closeBerth b .full u
          else if context.closeAtDeparture = true ∧ (match context.departure, s.clock.time with
              | some d, some now => decide (absSecond d ≤ absSecond now)
              | _, _ => false) = true then closeBerth b .departureTime u else u) ∧
        exec (.berthAmend tag r) s = .next (State.answering 0x22 tag
          (.berthAmend (berthStateOf (final.berth b))
            ((final.berth b).map fun t => ⟨t.fill, (t.context.capacity : Int) - t.counts.onboard - t.counts.holds⟩))
          final)

/-- R11, R12, R13, R6, R7 and R9: what a consumption, a void and a passage without a hold do to a trip that is OPEN or CLOSING: the counts
change within their ranges, the fill level is recomputed with FILL for a change of level, close-when-full follows a forward step in OPEN, and a
CLOSING berth tests its settlement. Each lamp whose level condition the change makes true rises, also one whose condition the closing or the
settlement makes false again within the event, in the model's reading (log 21, DEDUCED). A VACANT or DEPARTED berth ignores all three (R60's
STRAY passage). An onboard count that has saturated, as its flags show (log 31, DEDUCED), stays at its limit for the rest of the trip. -/
def Obligations.LaneReportsChangeTheTrip : Prop :=
  (∀ (b : BerthIx) (s : State), (∀ t, s.berth b = some t → t.phase = .departed) →
    berthConsumption b s = s ∧ berthVoid b s = s ∧ ∀ m eg, berthPassage m eg b s = s) ∧
  ∀ (b : BerthIx) (t : Trip) (s : State) (change : State → State) (c : Counts) (under over_ fwd : Bool) (up down : Nat),
    s.berth b = some t → t.phase ≠ .departed →
    up = (if t.flags.underflow = true ∨ t.flags.overflow = true ∨ 999 ≤ t.counts.onboard then t.counts.onboard
      else t.counts.onboard + 1) →
    down = (if t.flags.underflow = true ∨ t.flags.overflow = true then t.counts.onboard else t.counts.onboard - 1) →
    ((change = berthConsumption b ∧ fwd = true ∧ under = t.flags.underflow ∧
        over_ = (t.flags.overflow || decide (999 ≤ t.counts.onboard)) ∧
        c = { t.counts with
          holds := t.counts.holds - 1
          forward := min 65535 (t.counts.forward + 1)
          onboard := up }) ∨
      (change = berthVoid b ∧ fwd = false ∧ under = t.flags.underflow ∧ over_ = t.flags.overflow ∧
        c = { t.counts with holds := t.counts.holds - 1, voids := min 65535 (t.counts.voids + 1) }) ∨
      (∃ eg, change = berthPassage .forward eg b ∧ fwd = true ∧ under = t.flags.underflow ∧
        over_ = (t.flags.overflow || decide (999 ≤ t.counts.onboard)) ∧
        c = { t.counts with
          onboard := up
          forward := min 65535 (t.counts.forward + 1)
          unpaid := if eg then t.counts.unpaid else min 65535 (t.counts.unpaid + 1)
          egress := if eg then min 65535 (t.counts.egress + 1) else t.counts.egress }) ∨
      (∃ eg, change = berthPassage .reverse eg b ∧ fwd = false ∧
        under = (t.flags.underflow || decide (t.counts.onboard = 0)) ∧ over_ = t.flags.overflow ∧
        c = { t.counts with
          onboard := down
          reverse := min 65535 (t.counts.reverse + 1)
          egress := if eg then min 65535 (t.counts.egress + 1) else t.counts.egress }) ∨
      (∃ eg, change = berthPassage .ambiguous eg b ∧ fwd = false ∧ under = t.flags.underflow ∧
        over_ = t.flags.overflow ∧ c = { t.counts with ambiguous := min 65535 (t.counts.ambiguous + 1) })) →
    ∃ (level : FillLevel) (changed : Trip) (u : State),
      level = fillLevel t.context.capacity c.onboard c.holds
        (t.context.margin.getD s.supervisor.setup.defaultMargin) ∧
      changed = { t with
        counts := c
        fill := level
        flags := ⟨t.flags.near || decide (level = .near ∧ level ≠ t.fill),
          t.flags.full || decide (level = .full ∧ level ≠ t.fill),
          t.flags.overfull || decide (level = .overfull ∧ level ≠ t.fill), under, over_⟩ } ∧
      u = State.posting (if level = t.fill then [] else [.fill b level c.onboard c.holds t.context.capacity])
        (rescanLamps s { s with berths := s.berths.set b (some changed) }) ∧
      change s = (if t.phase = .opened ∧ fwd = true ∧ t.context.closeWhenFull = true ∧
          t.context.capacity ≤ c.onboard then closeBerth b .full u
        else settle b u)

/-- R6, R23 and R170: from every state in which the counts of every trip and record but holds are within their ranges and an onboard count that has
saturated stands at its limit, every step leads to such a state. That it has saturated once its overflow or underflow flag is set is the model's
reading of R6 (log 31, DEDUCED). Holds is 0..8 in every state in which it counts the lanes that hold a hold (R29), which
HoldsEqualTheLanesThatHold says every step keeps. -/
def Obligations.CountsStayInRange : Prop :=
  (∀ s t : State, CountLaw s → ServiceLaw s → EgressLaw s → s.commandsFit → step s = .next t → CountLaw t) ∧
  ∀ (s : State) (b : BerthIx) (t : Trip), HoldLaw s → s.berth b = some t → t.counts.holds ≤ 8

/-- R19, R20 and R22: from every state in which no OPEN trip stands past its departure time or its capacity with the closing mechanism set, and
no CLOSING trip stands settled, every step leads to such a state. That a CLOSING trip without lanes and holds does not stand in EGRESS either is
the model's choice (log 32, DESIGN CHOICE), against the wording of R26 and R188. -/
def Obligations.ClosingConditionsAreActedOn : Prop :=
  ∀ s t : State, ClosingLaw s → ServiceLaw s → EgressLaw s → LaneLaw s → HoldLaw s → JournalLaw s → WaitingLaw s → step s = .next t → ClosingLaw t
/-! ### Lanes and barriers -/

/-- R45: LANE_ASSIGN is refused with STATE in CONFIG, RANGE for a lane or berth that is not present, and BUSY for a lane in OPENING, OPEN,
CLEARING, CLOSING or EGRESS. In CLOSED, OFF or FAULT the assignment is replaced, and the berth the lane leaves and the berth it joins test their
settlement, after each lamp whose level condition the change makes true has risen; an equal assignment changes nothing. That a condition which the
settlement makes false again has risen too is the model's reading (log 21, DEDUCED). -/
def Obligations.LaneAssignReplacesTheAssignment : Prop :=
  ∀ (tag : Byte) (s : State), s.slotFree →
    (s.supervisor.state = .config → ∀ n b,
      exec (.laneAssign tag n b) s = .next (State.answering 0x28 tag (.code .state) (countTaken s))) ∧
    (s.supervisor.state ≠ .config → ∀ n b,
      8 ≤ n ∨ s.supervisor.setup.lanesPresent ≤ n ∨
        (∃ k, b = some k ∧ (4 ≤ k ∨ s.supervisor.setup.berthsPresent ≤ k)) →
      exec (.laneAssign tag n b) s = .next (State.answering 0x28 tag (.code .range) (countTaken s))) ∧
    ∀ (i : LaneIx) (b : Option BerthIx), s.supervisor.state ≠ .config → i.val < s.supervisor.setup.lanesPresent →
      (∀ k, b = some k → k.val < s.supervisor.setup.berthsPresent) →
      ((s.lane i).state ∈ [LaneState.opening, .opened, .clearing, .closing, .egress] →
        exec (.laneAssign tag i.val (b.map Fin.val)) s =
          .next (State.answering 0x28 tag (.code .busy) (countTaken s))) ∧
      ((s.lane i).state ∈ [LaneState.closed, .off, .fault] →
        ((s.lane i).berth = b →
          exec (.laneAssign tag i.val (b.map Fin.val)) s =
            .next (State.answering 0x28 tag (.laneAssign i.val b) (countTaken s))) ∧
        ((s.lane i).berth ≠ b → ∃ u left joined : State,
          u = rescanLamps s { countTaken s with lanes := s.lanes.set i { s.lane i with berth := b } } ∧
          left = (s.lane i).berth.elim u (fun k => settle k u) ∧
          joined = b.elim left (fun k => settle k left) ∧
          exec (.laneAssign tag i.val (b.map Fin.val)) s =
            .next (State.answering 0x28 tag (.laneAssign i.val b) joined)))

/-- R39 and R37: LANE_RETURN is refused with STATE in CONFIG, RANGE for a lane not present, and STATE for a lane not in FAULT. In FAULT the lane
enters CLOSING with return in progress and its barrier timer; with the sense closed it reaches CLOSED, or OFF while OUT_OF_SERVICE, in the same
event, with LANE_RETURNED before the answer. No lamp changes. -/
def Obligations.LaneReturnClosesAFaultedLane : Prop :=
  ∀ (tag : Byte) (s : State), s.slotFree →
    (s.supervisor.state = .config → ∀ n,
      exec (.laneReturn tag n) s = .next (State.answering 0x29 tag (.code .state) (countTaken s))) ∧
    (s.supervisor.state ≠ .config → ∀ n, 8 ≤ n ∨ s.supervisor.setup.lanesPresent ≤ n →
      exec (.laneReturn tag n) s = .next (State.answering 0x29 tag (.code .range) (countTaken s))) ∧
    ∀ i : LaneIx, s.supervisor.state ≠ .config → i.val < s.supervisor.setup.lanesPresent →
      ((s.lane i).state ≠ .fault →
        exec (.laneReturn tag i.val) s = .next (State.answering 0x29 tag (.code .state) (countTaken s))) ∧
      ((s.lane i).state = .fault →
        ((s.lane i).sense = true →
          exec (.laneReturn tag i.val) s = .next (State.answering 0x29 tag (.code .ok)
            { countTaken s with
              lanes := s.lanes.set i { s.lane i with
                state := .closing, faultCause := none, returning := true
                barrierTimer := some (s.runTime + (s.lane i).barrierTimeout), passageTimer := none, clearTimer := none } })) ∧
        ((s.lane i).sense = false → ∀ u : State,
          u = State.posting [.laneReturned i]
            { countTaken s with
              lanes := s.lanes.set i { s.lane i with
                state := if s.supervisor.state = .outOfService then .off else .closed
                faultCause := none, returning := false
                barrierTimer := none, passageTimer := none, clearTimer := none } } →
          exec (.laneReturn tag i.val) s = .next (State.answering 0x29 tag (.code .ok)
            ((s.lane i).berth.elim u fun k => settle k u))))

/-- R48, R46 and R47: LANE_LAMP. The checks; with PULSE the nearest allowed width, a value midway taking the larger, and OK_CLAMPED; the
clear-latch option first; a selection that differs from the one held replaces it, ends the pulse and clears the latch, and a level condition that
is then true rises by its width. A running pulse ends at its due time, and not before (log 4). -/
def Obligations.LaneLampSelectsAndPulsesEnd : Prop :=
  ∀ (tag : Byte) (r : LampRequest) (s : State), s.slotFree →
    (s.supervisor.state = .config →
      exec (.laneLamp tag r) s = .next (State.answering 0x2A tag (.code .state) (countTaken s))) ∧
    (s.supervisor.state ≠ .config →
      8 ≤ r.lane ∨ s.supervisor.setup.lanesPresent ≤ r.lane ∨ 9 < r.condition ∨ 2 < r.width →
      exec (.laneLamp tag r) s = .next (State.answering 0x2A tag (.code .range) (countTaken s))) ∧
    (∀ (i : LaneIx) (c : LampCondition) (w : LampWidth) (pw : Nat) (old lamp : Lamp),
      s.supervisor.state ≠ .config → i.val < s.supervisor.setup.lanesPresent → r.lane = i.val →
      LampCondition.ofCode r.condition = some c → LampWidth.ofCode r.width = some w →
      (w ≠ .pulse → pw = (s.lamp i).pulseWidth) →
      (w = .pulse → pw ∈ [100, 250, 500, 1000, 2000] ∧ ∀ v ∈ [100, 250, 500, 1000, 2000],
        ((r.pulseWidth : Int) - pw).natAbs ≤ ((r.pulseWidth : Int) - v).natAbs ∧
        (((r.pulseWidth : Int) - pw).natAbs = ((r.pulseWidth : Int) - v).natAbs → v ≤ pw)) →
      old = (if r.clearLatch then { s.lamp i with latch := false } else s.lamp i) →
      lamp = (if old.condition = c ∧ old.width = w ∧ old.pulseWidth = pw then old
        else ⟨c, w, pw,
          decide (w = .latched) && State.level { s with lamps := s.lamps.set i ⟨c, w, pw, false, none⟩ } i,
          if w = .pulse ∧ State.level { s with lamps := s.lamps.set i ⟨c, w, pw, false, none⟩ } i = true then
            some (s.runTime + pw) else none⟩) →
      exec (.laneLamp tag r) s = .next (State.answering 0x2A tag
        (.laneLamp (decide (w = .pulse ∧ pw ≠ r.pulseWidth)) ⟨c, w, pw⟩)
        { countTaken s with lamps := s.lamps.set i lamp })) ∧
    ∀ i : LaneIx,
      ((∀ d, (s.lamp i).pulseDue = some d → s.runTime < d) → exec (.lampPulseEnd i) s = .next (endOfEvent s)) ∧
      (∀ d, (s.lamp i).pulseDue = some d → d ≤ s.runTime →
        exec (.lampPulseEnd i) s =
          .next (endOfEvent { s with lamps := s.lamps.set i { s.lamp i with pulseDue := none } }))

/-- R31, R32, R36, R37, R38 and R42: a change of the barrier-open sense by the state of its lane. OPENING opens and starts the passage timer; OPEN
returns to OPENING with its hold; CLEARING is FORCED by a closed sense and CLOSED by an open one; CLOSING completes; the other states ignore it.
Each lamp whose level condition the lane's new state makes true rises. -/
def Obligations.BarrierSenseChangeByLaneState : Prop :=
  ∀ (i : LaneIx) (isOpen : Bool) (s : State),
    ((s.lane i).sense = isOpen → exec (.barrierSenseChange i isOpen) s = .next (endOfEvent s)) ∧
    ((s.lane i).sense = (!isOpen) → ∃ (next : Lane) (notices : List Notice) (u : State),
      ((s.lane i).state = .opening → isOpen = true → notices = [] ∧
        next = { s.lane i with
          sense := true, state := .opened, barrierTimer := none
          passageTimer := some (s.runTime + (s.lane i).passageTimeout) }) ∧
      ((s.lane i).state = .opened → isOpen = false → notices = [] ∧
        next = { s.lane i with
          sense := false, state := .opening, expiryPending := false, passageTimer := none
          barrierTimer := some (s.runTime + (s.lane i).barrierTimeout) }) ∧
      (((s.lane i).state = .clearing ∧ isOpen = false) ∨ ((s.lane i).state = .closed ∧ isOpen = true) →
        notices = [.laneFault i .forced] ∧
        next = { s.lane i with
          sense := isOpen, state := .fault, hold := none, faultCause := some .forced, returning := false
          barrierTimer := none, passageTimer := none, clearTimer := none }) ∧
      ((s.lane i).state = .closing → isOpen = false →
        notices = (if (s.lane i).returning then [.laneReturned i] else []) ∧
        next = { s.lane i with
          sense := false, state := if s.supervisor.state = .outOfService then .off else .closed
          barrierTimer := none, returning := false }) ∧
      ((s.lane i).state ∈ [LaneState.off, .fault, .egress] ∨ (s.lane i).state = .opening ∧ isOpen = false ∨
          (s.lane i).state = .opened ∧ isOpen = true ∨ (s.lane i).state = .clearing ∧ isOpen = true ∨
          (s.lane i).state = .closed ∧ isOpen = false ∨ (s.lane i).state = .closing ∧ isOpen = true →
        notices = [] ∧ next = { s.lane i with sense := isOpen } ∧ u = { s with lanes := s.lanes.set i next }) ∧
      ((s.lane i).state ∈ [LaneState.opening, .opened] → u = { s with lanes := s.lanes.set i next }) ∧
      u = State.posting notices (rescanLamps s { s with lanes := s.lanes.set i next }) ∧
      exec (.barrierSenseChange i isOpen) s = .next (endOfEvent (if next.state = (s.lane i).state then u
        else (s.lane i).berth.elim u fun b => settle b u)))

/-- R31, R35, R37, R38 and R109: when the barrier timer runs out an OPENING lane voids its hold with cause FAULT and enters FAULT with cause
OPEN_TIMEOUT, HOLD_VOID first and LANE_FAULT second, both before its berth's notices; a CLOSING lane enters FAULT with cause CLOSE_TIMEOUT. Its
lamp rises if its condition is FAULT. Before the timer is due the command has no effect (log 4). -/
def Obligations.BarrierTimerExpiryFaultsTheLane : Prop :=
  ∀ (i : LaneIx) (s : State), (s.lane i).coherent →
    ((∀ d, (s.lane i).barrierTimer = some d → s.runTime < d) →
      exec (.barrierTimerExpiry i) s = .next (endOfEvent s)) ∧
    ∀ d, (s.lane i).barrierTimer = some d → d ≤ s.runTime →
      ∃ u : State,
        ((s.lane i).state = .opening → ∃ h b, (s.lane i).hold = some h ∧ (s.lane i).berth = some b ∧
          u = State.posting [.holdVoid i h.card .fault h.charge h.kind, .laneFault i .openTimeout]
            (rescanLamps s { s with
              lanes := s.lanes.set i { s.lane i with
                state := .fault, hold := none, faultCause := some .openTimeout, returning := false
                barrierTimer := none, passageTimer := none, clearTimer := none }
              recent := s.recent.map fun e =>
                if e.card = h.card ∧ e.tripRef = h.tripRef ∧ e.state = .held then
                  { e with state := .void, changedAt := s.runTime } else e }) ∧
          exec (.barrierTimerExpiry i) s = .next (endOfEvent (berthVoid b u))) ∧
        ((s.lane i).state ≠ .opening → (s.lane i).state = .closing ∧
          u = State.posting [.laneFault i .closeTimeout]
            (rescanLamps s { s with
              lanes := s.lanes.set i { s.lane i with
                state := .fault, faultCause := some .closeTimeout, returning := false
                barrierTimer := none, passageTimer := none, clearTimer := none } }) ∧
          exec (.barrierTimerExpiry i) s =
            .next (endOfEvent ((s.lane i).berth.elim u fun b => settle b u)))

/-- R34, R35 and R36: the passage timer runs out in OPEN. With both beams clear the hold is voided with cause TIMEOUT and the lane enters CLEARING
with its clear timer; otherwise the expiry is deferred and nothing else changes. The clear timer runs out in CLEARING: IN_SERVICE the lane enters
CLOSING, or CLOSED at once with the sense closed; OUT_OF_SERVICE it enters OFF. No lamp rises. Neither has an effect before it is due (log 4). -/
def Obligations.PassageAndClearTimersRunOut : Prop :=
  ∀ (i : LaneIx) (s : State), (s.lane i).coherent →
    ((∀ d, (s.lane i).passageTimer = some d → s.runTime < d) →
      exec (.passageTimerExpiry i) s = .next (endOfEvent s)) ∧
    (∀ d, (s.lane i).passageTimer = some d → d ≤ s.runTime → ∃ h b, (s.lane i).hold = some h ∧ (s.lane i).berth = some b ∧
      ((s.lane i).decoder.pair ≠ .clear → exec (.passageTimerExpiry i) s = .next (endOfEvent
        { s with lanes := s.lanes.set i { s.lane i with expiryPending := true, passageTimer := none } })) ∧
      ((s.lane i).decoder.pair = .clear →
        exec (.passageTimerExpiry i) s = .next (endOfEvent (berthVoid b (State.posting
          [.holdVoid i h.card .timeout h.charge h.kind]
          { s with
            lanes := s.lanes.set i { s.lane i with
              state := .clearing, hold := none, expiryPending := false
              barrierTimer := none, passageTimer := none, clearTimer := some (s.runTime + 1000) }
            recent := s.recent.map fun e =>
              if e.card = h.card ∧ e.tripRef = h.tripRef ∧ e.state = .held then
                { e with state := .void, changedAt := s.runTime } else e }))))) ∧
    ((∀ d, (s.lane i).clearTimer = some d → s.runTime < d) →
      exec (.clearTimerExpiry i) s = .next (endOfEvent s)) ∧
    (∀ d, (s.lane i).clearTimer = some d → d ≤ s.runTime →
      ∃ (next : Lane) (u : State), u = { s with lanes := s.lanes.set i next } ∧
        (s.supervisor.state = .outOfService → next = { s.lane i with
          state := .off, expiryPending := false, barrierTimer := none, passageTimer := none, clearTimer := none }) ∧
        (s.supervisor.state = .inService → (s.lane i).sense = true → next = { s.lane i with
          state := .closing, barrierTimer := some (s.runTime + (s.lane i).barrierTimeout)
          passageTimer := none, clearTimer := none }) ∧
        (s.supervisor.state = .inService → (s.lane i).sense = false → next = { s.lane i with
          state := .closed, returning := false, barrierTimer := none, passageTimer := none, clearTimer := none }) ∧
        (s.supervisor.state = .inService ∨ s.supervisor.state = .outOfService →
          exec (.clearTimerExpiry i) s = .next (endOfEvent (State.posting
            (if (s.lane i).returning = true ∧ next.state = .closed then [.laneReturned i] else [])
            u |> fun v => (s.lane i).berth.elim v fun b => settle b v))))

/-- R27, R28, R29, R34, R36, R49 and R52: in every lane the hold stands exactly in OPENING and OPEN, each timer runs exactly where R28 says, the
fault cause stands exactly in FAULT, and the decoder and the filters follow the beams (the decoder a lane remembers, log 7, is a sound one too); a
lane that is not present is OFF and unassigned. From every state in which this holds, every step leads to such a state. -/
def Obligations.LanesStayCoherent : Prop :=
  ∀ s t : State, LaneLaw s → ServiceLaw s → EgressLaw s → step s = .next t → LaneLaw t
/-! ### Beams and passages -/

/-- R49, R50 and R53: a raw change starts a measure of the filter's length, or drops it when the level is the accepted one again; with filter code
0 it is accepted at once. A measure that has run for its length gives the accepted level. What a lane's beams accept at one run time the decoder
takes as one change: with an accepted change every measure that is due, and with filter code 0 the lane's next raw change in the queue where it
is one of the other side alone, since what waits takes place at the present run time (logs 2 and 7, DESIGN CHOICE). Before a measure is due the command has no effect (log 4). -/
def Obligations.BeamFiltersMeasureAndAccept : Prop :=
  ∀ (i : LaneIx) (s : State) (accepted : Beam → Beam) (at0 : Beam → Bool → Beam) (waiting : Bool → Bool → Option (Bool × Bool))
    (joined : Beam → Beam → Beam × Beam) (take : Beam × Beam → State),
    (∀ b, accepted b = match b.measure with
      | some m => if m.start + m.length ≤ s.runTime then ⟨b.raw, m.level, none⟩ else b
      | none => b) →
    (∀ b r, at0 b r = if r = b.raw then b else ⟨r, r, none⟩) →
    (∀ rawA rawB, waiting rawA rawB = ((s.pending.takeWhile fun c => match c with
      | .powerOnReset _ => false
      | _ => true).findSome? fun c => match c with
      | .beamRawChange j a b => if j = i ∧ (a ≠ rawA ∨ b ≠ rawB) then some (a, b) else none
      | _ => none)) →
    (∀ A B, joined A B = match waiting A.raw B.raw with
      | none => (A, B)
      | some (a, b) =>
        if (s.lane i).filterCode ≠ 0 then (A, B)
        else if A.accepted ≠ (s.lane i).beamA.accepted ∧ B.accepted = (s.lane i).beamB.accepted ∧ a = A.raw then (A, at0 B b)
        else if B.accepted ≠ (s.lane i).beamB.accepted ∧ A.accepted = (s.lane i).beamA.accepted ∧ b = B.raw then (at0 A a, B)
        else (A, B)) →
    (∀ beams, take beams = takeBeams i { s with
      lanes := s.lanes.set i { s.lane i with beamA := beams.1, beamB := beams.2 } }) →
    (∀ (rawA rawB : Bool) (taken : Beam → Bool → Beam), (s.lane i).filterCode ≠ 0 →
      (∀ b r, taken b r = if r = b.raw then b else if r = b.accepted then ⟨r, b.accepted, none⟩
        else ⟨r, b.accepted, some ⟨r, s.runTime, (s.lane i).filterCode⟩⟩) →
      exec (.beamRawChange i rawA rawB) s = .next (endOfEvent { s with lanes := s.lanes.set i { s.lane i with
        beamA := taken (s.lane i).beamA rawA, beamB := taken (s.lane i).beamB rawB } })) ∧
    (∀ (rawA rawB : Bool) (A B : Beam), (s.lane i).filterCode = 0 →
      A = at0 (s.lane i).beamA rawA → B = at0 (s.lane i).beamB rawB →
      (A.accepted = (s.lane i).beamA.accepted → B.accepted = (s.lane i).beamB.accepted →
        exec (.beamRawChange i rawA rawB) s =
          .next (endOfEvent { s with lanes := s.lanes.set i { s.lane i with beamA := A, beamB := B } })) ∧
      (A.accepted ≠ (s.lane i).beamA.accepted ∨ B.accepted ≠ (s.lane i).beamB.accepted →
        exec (.beamRawChange i rawA rawB) s =
          .next (endOfEvent (take (joined (accepted A) (accepted B)))))) ∧
    (∀ rawA rawB : Bool, (s.lane i).filterCode = 0 → (s.lane i).beamA.measured → (s.lane i).beamB.measured →
      rawA = (s.lane i).beamA.raw → rawB = (s.lane i).beamB.raw →
      exec (.beamRawChange i rawA rawB) s = .next (endOfEvent s)) ∧
    ((∀ m, (s.lane i).beamA.measure = some m ∨ (s.lane i).beamB.measure = some m → s.runTime < m.start + m.length) →
      exec (.beamAcceptedChange i) s = .next (endOfEvent s)) ∧
    ((∃ m, ((s.lane i).beamA.measure = some m ∨ (s.lane i).beamB.measure = some m) ∧ m.start + m.length ≤ s.runTime) →
      exec (.beamAcceptedChange i) s = .next (endOfEvent
        (take (joined (accepted (s.lane i).beamA) (accepted (s.lane i).beamB)))))

/-- R52 to R57 and R36. A movement that leaves CLEAR, passes through any pair states and returns to CLEAR hands over one class, when it
ends: its entry side is the side of the first state, its exit side the side of the last, BOTH giving UNKNOWN, and the class is that of R56's
table. What the decoder does at a lane: it takes the pair of the accepted levels under the beam order, from the pair before both changes when the
other side changed at the same run time (R53; log 7); the lane acts on the class first, and then the clear timer of a lane in CLEARING follows the
beams. That a class which the first of the two changes has handed over in its own event stands is the model's choice (log 7, DESIGN CHOICE). -/
def Obligations.DecoderClassifiesMovements : Prop :=
  (∀ (path : List PairState) (first last : PairState) (entry exit : EntrySide),
    (∀ p ∈ path, p ≠ .clear) → path.head? = some first → path.getLast? = some last →
    entry = (match first with
      | .outerOnly => .outer
      | .innerOnly => .inner
      | _ => .unknown) →
    exit = (match last with
      | .outerOnly => .outer
      | .innerOnly => .inner
      | _ => .unknown) →
    (path ++ [PairState.clear]).foldl (fun (x : Decoder × List (Movement × EntrySide)) p =>
        ((x.1.take p).1, x.2 ++ (x.1.take p).2.toList)) (⟨.clear, none, none⟩, []) =
      (⟨.clear, none, none⟩,
        [(if exit = .unknown then .ambiguous
          else if exit = .inner then (if entry = .inner then .balk else .forward)
          else (if entry = .outer then .balk else .reverse), entry)])) ∧
  ∀ (i : LaneIx) (s : State) (pair : PairState) (both : Option Decoder) (before : Decoder),
    pair = (match (s.lane i).beamA.accepted, (s.lane i).beamB.accepted, (s.lane i).beamOrder with
      | false, false, _ => .clear
      | true, true, _ => .both
      | true, false, .normal => .outerOnly
      | true, false, .swapped => .innerOnly
      | false, true, .normal => .innerOnly
      | false, true, .swapped => .outerOnly) →
    both = (match (s.lane i).lastChange with
      | some ⟨r, d⟩ =>
        if r = s.runTime ∧ (d.pair, pair) ∈
          [(PairState.clear, PairState.both), (.both, .clear), (.outerOnly, .innerOnly), (.innerOnly, .outerOnly)] then some d
        else none
      | none => none) →
    before = both.getD (s.lane i).decoder →
    (∀ d, before.take pair = (d, none) →
      takeBeams i s = { s with lanes := s.lanes.set i { s.lane i with
        decoder := d
        lastChange := if both = none then some ⟨s.runTime, (s.lane i).decoder⟩ else none
        clearTimer := if (s.lane i).state ≠ .clearing then (s.lane i).clearTimer
          else if d.pair ≠ .clear then none
          else if (s.lane i).clearTimer = none then some (s.runTime + 1000) else (s.lane i).clearTimer } }) ∧
    ∀ d m entry, before.take pair = (d, some (m, entry)) →
      ∃ u, u = takeMovement i m entry { s with
          lanes := s.lanes.set i { s.lane i with
            decoder := d
            lastChange := if both = none then some ⟨s.runTime, (s.lane i).decoder⟩ else none } } ∧
        takeBeams i s = { u with lanes := u.lanes.set i { u.lane i with
          clearTimer := if (u.lane i).state = .clearing ∧ (u.lane i).clearTimer = none then some (s.runTime + 1000)
            else (u.lane i).clearTimer } }

/-- R33, R34, R40, R57 and R59 to R62: what a lane does with a class. A lane not present announces and reports nothing, and a balk is announced to
nobody. A forward passage at a lane with a hold consumes it as a PAID passage with its card; any other is announced with its class, UNPAID, STRAY or
EGRESS, and reported without a hold. With an expiry pending any movement but a forward one is then followed by the TIMEOUT void. The lane's
notices stand before its berth's. No lamp of a lane rises by the lane's own part. -/
def Obligations.MovementsActByLaneState : Prop :=
  ∀ (i : LaneIx) (m : Movement) (entry : EntrySide) (s : State) (cls : PassageClass) (notices : List Notice),
    cls = (if s.boardingTrip i = none then .stray else if (s.lane i).state = .egress then .egress else .unpaid) →
    notices = (match m with
      | .forward => [.passage i (s.lane i).berth .forward cls none]
      | .reverse => [.passage i (s.lane i).berth .reverse cls none]
      | .ambiguous => [.ambiguous i (s.lane i).berth entry cls]
      | .balk => []) →
    (s.supervisor.setup.lanesPresent ≤ i.val → takeMovement i m entry s = s) ∧
    (i.val < s.supervisor.setup.lanesPresent →
      (m ≠ .forward ∨ (s.lane i).state ∉ [LaneState.opening, .opened] → (s.lane i).expiryPending = false →
        takeMovement i m entry s =
          if m = .balk then s
          else (s.lane i).berth.elim (State.posting notices s) fun b =>
            berthPassage m (decide ((s.lane i).state = .egress)) b (State.posting notices s)) ∧
      (∀ h b, (s.lane i).hold = some h → (s.lane i).berth = some b →
        ∃ (cleared : Lane) (ended : EntryState → List Entry),
          cleared = { s.lane i with
            state := .clearing, hold := none, expiryPending := false
            barrierTimer := none, passageTimer := none
            clearTimer := if (s.lane i).decoder.pair = .clear then some (s.runTime + 1000) else none } ∧
          (∀ st, ended st = s.recent.map fun e =>
            if e.card = h.card ∧ e.tripRef = h.tripRef ∧ e.state = .held then
              { e with state := st, changedAt := s.runTime } else e) ∧
          (m = .forward → (s.lane i).state ∈ [LaneState.opening, .opened] →
            takeMovement i m entry s = berthConsumption b (State.posting
              [if s.boardingTrip i = none then .passage i (some b) .forward .stray none
                else .passage i (some b) .forward .paid (some h.card)]
              { s with lanes := s.lanes.set i cleared, recent := ended .passed })) ∧
          (m ≠ .forward → (s.lane i).state = .opened → (s.lane i).expiryPending = true → ∀ u : State,
            u = State.posting (notices ++ [.holdVoid i h.card .timeout h.charge h.kind])
              { s with lanes := s.lanes.set i cleared, recent := ended .void } →
            takeMovement i m entry s =
              berthVoid b (if m = .balk then u else berthPassage m false b u))))
/-! ### Admission and fares -/

/-- R73: when a credential record is malformed. R87 to R98, R102, R103 and R14: the order of checks. The first check that fails gives the one reason
of a REFUSE decision; it raises the refusals counter of an OPEN berth and the REFUSE lamp event of its lane, blocks the card with DENIED alone, and
changes nothing else. The entry it carries in detail is the HELD one of the card with IN_PROGRESS, the PASSED one of the pair with PASSBACK, and the
VOID one within the courtesy window with FULL; no other refusal carries one. -/
def Obligations.PresentRefusesInTheOrderOfChecks : Prop :=
  (∀ c : Credential, malformed c = true ↔
    c.card = 0 ∨ 1 < c.cardState ∨ 7 < c.concession ∨
    (∃ l, c.lastBoarding = some l ∧ (86399 < l.second ∨ l.pontoonId = 0 ∨ 7 < l.routeClass ∨ 9999 < l.rideValue ∨
      7 < l.transferCount)) ∨
    4 < c.products.length ∨
    (∃ p ∈ c.products, 3 < p.slot ∨ 31 < p.scheme ∨ (∃ code, p.fields = .unknown code) ∨
      (∃ balance, p.fields = .purse balance ∧ (balance < -2000 ∨ 99999 < balance)) ∨
      (∃ n, p.fields = .carnet n ∧ 99 < n) ∨ (∃ day used, p.fields = .allowance day used ∧ 20 < used) ∨
      ∃ first last, p.fields = .pass first last ∧ last < first) ∨
    ¬c.products.Pairwise (fun p q => p.slot ≠ q.slot)) ∧
  ∀ (tag : Byte) (lane : Nat) (c : Credential) (s : State), s.slotFree → c.productCount = c.products.length →
    (8 ≤ lane ∨ s.supervisor.setup.lanesPresent ≤ lane →
      exec (.present tag lane c) s = .next (State.answering 0x30 tag (.decision
        { lane := lane
          outcome := .refused (if s.supervisor.state = .inService then .laneUnavailable else .notInService) none
          berth := none, fill := none, degraded := decide (s.clock.state = .degraded)
          generation := s.tariff.active.elim 0 fun a => a.fares.generation
          detail := none, writeBack := ⟨false, none, none, none⟩ }) (countTaken s))) ∧
    ∀ (i : LaneIx) (lamp : Lamp), lane = i.val → lane < s.supervisor.setup.lanesPresent →
      lamp = (if (s.lane i).state ≠ .off ∧ (s.lamp i).condition = .refuse then
        (match (s.lamp i).width with
          | .follow => { s.lamp i with pulseDue := some (s.runTime + 250) }
          | .pulse => { s.lamp i with pulseDue := some (s.runTime + (s.lamp i).pulseWidth) }
          | .latched => { s.lamp i with latch := true }) else s.lamp i) →
      (∀ reason, (s.lane i).berth.elim none s.berth = none →
        reason = (if s.supervisor.state ≠ .inService then .notInService
          else if (s.lane i).berth.elim false s.berthPresent = false then .laneUnavailable
          else if (s.lane i).state = .off ∨ (s.lane i).state = .fault then .laneUnavailable
          else if (s.lane i).state ≠ .closed then .laneBusy else .berthNotBoarding) →
        exec (.present tag lane c) s = .next (State.answering 0x30 tag (.decision
          { lane := lane, outcome := .refused reason none
            berth := (s.lane i).berth, fill := none, degraded := decide (s.clock.state = .degraded)
            generation := s.tariff.active.elim 0 fun a => a.fares.generation
            detail := none, writeBack := ⟨false, none, none, none⟩ })
          { countTaken s with lamps := s.lamps.set i lamp })) ∧
      ∀ (b : BerthIx) (t : Trip) (set : TariffSet) (now : ServiceTime) (x : FareInputs) (reason : Reason)
        (slot : Option Nat), (s.lane i).berth = some b → s.berth b = some t →
        s.tariff.active = some set → s.clock.time = some now → x = fareInputs s t set now →
        some (reason, slot) =
          (if s.supervisor.state ≠ .inService then some (.notInService, none)
          else if s.supervisor.setup.berthsPresent ≤ b.val then some (.laneUnavailable, none)
          else if (s.lane i).state = .off ∨ (s.lane i).state = .fault then some (.laneUnavailable, none)
          else if (s.lane i).state ≠ .closed then some (.laneBusy, none)
          else if t.phase ≠ .opened then some (.berthNotBoarding, none)
          else if malformed c = true then some (.cardFormat, none)
          else if c.cardState = 1 then some (.cardBlocked, none)
          else if c.card ∈ s.deny then some (.denied, none)
          else if ∃ e ∈ s.recent, e.card = c.card ∧ e.state = .held then some (.inProgress, none)
          else if ∃ e ∈ s.recent, e.card = c.card ∧ e.tripRef = t.context.tripRef ∧ e.state = .passed then
            some (.passback, none)
          else if t.fill = .full ∨ t.fill = .overfull then some (.full, none)
          else if (s.recent.find? fun e =>
              decide (e.card = c.card ∧ e.tripRef = t.context.tripRef ∧ e.state = .void)).any (fun e =>
              decide (s.supervisor.setup.courtesyWindow ≠ 0 ∧
                s.runTime - e.changedAt ≤ 1000 * s.supervisor.setup.courtesyWindow)) = true then none
          else match walk x (price x c) c none c.products with
            | .none r slot => some (r, slot)
            | .used _ _ => none) →
        ∀ (voided matched : Option Entry) (detail : Option EntryDetail),
        voided = (s.recent.find? fun e => decide (e.card = c.card ∧ e.tripRef = t.context.tripRef ∧ e.state = .void)).filter
          (fun e => decide (s.supervisor.setup.courtesyWindow ≠ 0 ∧
            s.runTime - e.changedAt ≤ 1000 * s.supervisor.setup.courtesyWindow)) →
        matched = (if reason = .inProgress then s.recent.find? fun e => decide (e.card = c.card ∧ e.state = .held)
          else if reason = .passback then s.recent.find? fun e =>
            decide (e.card = c.card ∧ e.tripRef = t.context.tripRef ∧ e.state = .passed)
          else if reason = .full then voided else none) →
        detail = matched.map (fun e =>
          ⟨e.berth, e.lane, e.state, e.charge, e.kind, s.runTime - e.admittedAt, s.runTime - e.changedAt⟩) →
        exec (.present tag lane c) s = .next (State.answering 0x30 tag (.decision
          { lane := lane, outcome := .refused reason slot
            berth := some b
            fill := if t.phase = .departed then none else
              some ⟨t.fill, (t.context.capacity : Int) - t.counts.onboard - t.counts.holds⟩
            degraded := decide (s.clock.state = .degraded), generation := set.fares.generation
            detail := detail, writeBack := ⟨decide (reason = .denied), none, none, none⟩ })
          { countTaken s with
            lamps := s.lamps.set i lamp
            berths := s.berths.set b (some { t with counts := { t.counts with
              refusals := if t.phase = .opened then min 65535 (t.counts.refusals + 1) else t.counts.refusals } }) })

/-- R30, R31, R10, R83, R95, R97 to R103, R106 and R107: a presentation that passes the checks is admitted as COURTESY when its pair has a VOID
entry within the courtesy window, and otherwise by the product that its walk uses. In one event the lane takes the hold and opens, the berth's
holds, kind counter, revenue and generations rise, its fill level follows, the list gains the HELD entry, and PRODUCT_EXHAUSTED is posted if the
scheme asks for it. The lamps whose level condition this makes true rise, and the ADMIT event rises at the lane; a
condition that is true only within the event rises too, in the model's reading (log 21, DEDUCED). -/
def Obligations.PresentGrantsTheAdmission : Prop :=
  ∀ (tag : Byte) (i : LaneIx) (b : BerthIx) (t : Trip) (c : Credential) (s : State) (void : Option Entry)
    (grant : AdmissionKind → Nat → List Notice → State → Prop) (decision : DecisionOutcome → Option EntryDetail → WriteBack → Decision),
    s.slotFree → c.productCount = c.products.length → s.supervisor.state = .inService →
    i.val < s.supervisor.setup.lanesPresent → (s.lane i).berth = some b → b.val < s.supervisor.setup.berthsPresent →
    (s.lane i).state = .closed → s.berth b = some t → t.phase = .opened → malformed c = false → c.cardState = 0 →
    c.card ∉ s.deny → (∀ e ∈ s.recent, e.card = c.card → e.state ≠ .held) →
    (∀ e ∈ s.recent, e.card = c.card → e.tripRef = t.context.tripRef → e.state ≠ .passed) →
    (t.fill = .room ∨ t.fill = .near) →
    void = (s.recent.find? fun e => decide (e.card = c.card ∧ e.tripRef = t.context.tripRef ∧ e.state = .void)).filter
      (fun e => decide (s.supervisor.setup.courtesyWindow ≠ 0 ∧
        s.runTime - e.changedAt ≤ 1000 * s.supervisor.setup.courtesyWindow)) →
    (∀ kind charge notices u, grant kind charge notices u ↔
      ∃ (level : FillLevel) (entry : Entry),
        level = fillLevel t.context.capacity t.counts.onboard (t.counts.holds + 1)
          (t.context.margin.getD s.supervisor.setup.defaultMargin) ∧
        entry = ⟨c.card, t.context.tripRef, b, i, .held, charge, kind, s.runTime, s.runTime⟩ ∧
        u = State.posting ((if level = t.fill then [] else
            [.fill b level t.counts.onboard (t.counts.holds + 1) t.context.capacity]) ++ notices)
          (raiseEvent .admission i (rescanLamps s { countTaken s with
            lanes := s.lanes.set i { s.lane i with
              state := if (s.lane i).sense then .opened else .opening
              hold := some ⟨c.card, t.context.tripRef, charge, kind⟩
              expiryPending := false
              barrierTimer := if (s.lane i).sense then none else some (s.runTime + (s.lane i).barrierTimeout)
              passageTimer := if (s.lane i).sense then some (s.runTime + (s.lane i).passageTimeout) else none }
            berths := s.berths.set b (some { t with
              counts := { t.counts with
                holds := t.counts.holds + 1
                revenue := min 4294967295 (t.counts.revenue + charge)
                paidPurse := if kind = .purse then min 65535 (t.counts.paidPurse + 1) else t.counts.paidPurse
                paidCarnet := if kind = .carnet then min 65535 (t.counts.paidCarnet + 1) else t.counts.paidCarnet
                paidAllowance := if kind = .allowance then min 65535 (t.counts.paidAllowance + 1) else t.counts.paidAllowance
                paidPass := if kind = .pass then min 65535 (t.counts.paidPass + 1) else t.counts.paidPass
                courtesy := if kind = .courtesy then min 65535 (t.counts.courtesy + 1) else t.counts.courtesy }
              fill := level
              flags := if level = t.fill then t.flags else { t.flags with
                near := t.flags.near || decide (level = .near)
                full := t.flags.full || decide (level = .full)
                overfull := t.flags.overfull || decide (level = .overfull) }
              lastGeneration := s.tariff.active.elim 0 fun a => a.fares.generation
              firstGeneration := if t.firstGeneration = 0 then s.tariff.active.elim 0 fun a => a.fares.generation
                else t.firstGeneration })
            recent :=
              if s.recent.any (fun e => decide (e.card = c.card ∧ e.tripRef = t.context.tripRef)) then
                s.recent.filter (fun e => !decide (e.card = c.card ∧ e.tripRef = t.context.tripRef)) ++ [entry]
              else if s.recent.length < 256 then s.recent ++ [entry]
              else s.recent.eraseP (fun e => decide (e.state ≠ .held)) ++ [entry] }))) →
    (∀ o detail w, decision o detail w =
      { lane := i.val, outcome := o, berth := some b
        fill := some ⟨fillLevel t.context.capacity t.counts.onboard (t.counts.holds + 1)
            (t.context.margin.getD s.supervisor.setup.defaultMargin),
          (t.context.capacity : Int) - t.counts.onboard - (t.counts.holds + 1 : Nat)⟩
        degraded := decide (s.clock.state = .degraded)
        generation := s.tariff.active.elim 0 fun a => a.fares.generation
        detail := detail, writeBack := w }) →
    (∀ e, void = some e → ∃ u, grant .courtesy 0 [] u ∧
      exec (.present tag i.val c) s = .next (State.answering 0x30 tag (.decision (decision
        (.granted .courtesy none 0 0 false)
        (some ⟨e.berth, e.lane, .void, e.charge, e.kind, s.runTime - e.admittedAt, s.runTime - e.changedAt⟩)
        ⟨false, none, none, none⟩)) u)) ∧
    ∀ set now x g p pay, void = none → s.tariff.active = some set → s.clock.time = some now →
      x = fareInputs s t set now → g = price x c → walk x g c none c.products = .used p pay →
      ∃ u, grant pay.kind pay.charge
          (if pay.exhausted = true ∧ ((set.schemesLow ++ set.schemesHigh)[p.scheme]?.elim false fun e => e.notify) = true then
            [.productExhausted c.card p.slot pay.kind] else []) u ∧
        exec (.present tag i.val c) s = .next (State.answering 0x30 tag (.decision (decision
          (.granted pay.kind (some p.slot) pay.charge g.rideValue g.transfer) none
          ⟨false, some ⟨now.day, now.second, s.supervisor.setup.pontoonId, t.context.routeClass, g.rideValue,
            if g.transfer then c.lastBoarding.elim 0 (fun l => l.transferCount + 1) else 0⟩,
            pay.daySpend, pay.written⟩)) u)

/-- R114 to R128, R77 to R83 and R98: the arithmetic of one priced presentation, for fares, discounts and times in their ranges. The figures are
those the rules give and are ordered 0 ≤ K ≤ U ≤ G ≤ F ≤ 9999; the base fare stands at 4 × route class + period in the matrix (log 12). A product
applies by its scheme's kind and routes and a pass's dates; each kind pays, is consumed and is exhausted, or offers its reason, as R79 to R83 say; no
purse debit leaves a balance below minus the credit limit. The product used is the first in card order that applies and can pay, every earlier one
that applies having its chain flag set. When none is used the reason and slot are those of the last that applied before the walk stopped. -/
def Obligations.FaresAreComputedAndBounded : Prop :=
  ∀ (s : State) (t : Trip) (set : TariffSet) (now : ServiceTime) (c : Credential) (x : FareInputs) (g : Pricing)
    (offset discount cap spent : Nat),
    (∀ n ∈ set.fares.matrix, n ≤ 9999) → (∀ k ∈ set.concessions.table, k.discount ≤ 100) →
    now.second ≤ 86399 → offset = s.supervisor.setup.dayStartOffset → offset ≤ 86399 →
    discount = (set.concessions.table[c.concession]?.elim 0 fun k => k.discount) →
    cap = (set.concessions.table[c.concession]?.elim 0 fun k => k.cap) →
    spent = (if c.daySpend.day < x.serviceDay then 0 else c.daySpend.spent) →
    x = fareInputs s t set now → g = price x c →
    x.serviceDay = (if offset ≤ now.second then now.day else now.day - 1) ∧
    x.minute = (now.second + 86400 - offset) % 86400 / 60 ∧ x.minute ≤ 1439 ∧
    g.period = ([set.fares.s1, set.fares.s2, set.fares.s3].filter fun n => decide (n ≤ x.minute)).length ∧
    (∀ f, set.fares.matrix[4 * t.context.routeClass + g.period]? = some f → g.baseFare = f) ∧
    g.rideValue = (g.baseFare * (100 - discount) + 50) / 100 ∧
    (g.transfer = true ↔ ∃ l, c.lastBoarding = some l ∧ l.pontoonId ≠ s.supervisor.setup.pontoonId ∧
      l.transferCount < set.concessions.maxTransfers ∧
      absSecond now ≤ absSecond ⟨l.day, l.second⟩ + 60 * set.concessions.transferWindow) ∧
    (g.transfer = false → g.upgrade = g.rideValue) ∧
    (∀ l, g.transfer = true → c.lastBoarding = some l → g.upgrade = g.rideValue - l.rideValue) ∧
    g.upgrade ≤ g.rideValue ∧ g.rideValue ≤ g.baseFare ∧ g.baseFare ≤ 9999 ∧
    (∀ p : Product, productApplies x p = true ↔ ∃ e, (set.schemesLow ++ set.schemesHigh)[p.scheme]? = some e ∧
      e.routes.getLsbD t.context.routeClass = true ∧
      ((e.kind = 1 ∧ ∃ balance, p.fields = .purse balance) ∨ (e.kind = 2 ∧ ∃ n, p.fields = .carnet n) ∨
        (e.kind = 3 ∧ ∃ day used, p.fields = .allowance day used) ∨
        (e.kind = 4 ∧ ∃ first last, p.fields = .pass first last ∧ first ≤ x.serviceDay ∧ x.serviceDay ≤ last))) ∧
    (∀ (p : Product) (balance : Int) (k : Nat), p.fields = .purse balance →
      k = (if cap = 0 then g.upgrade else min g.upgrade (cap - spent)) →
      payWith x g c p = if -(set.concessions.creditLimit : Int) ≤ balance - k then
        .inl ⟨.purse, k, some ⟨max c.daySpend.day x.serviceDay, min 65535 (spent + k)⟩,
          if k = 0 then none else some { p with fields := .purse (balance - k) }, false⟩
        else .inr .insufficient) ∧
    (∀ (p : Product) (n : Nat), p.fields = .carnet n →
      payWith x g c p = if g.transfer = true ∧ g.upgrade = 0 then .inl ⟨.carnet, 0, none, none, false⟩
        else if 1 ≤ n then .inl ⟨.carnet, 0, none, some { p with fields := .carnet (n - 1) }, decide (n = 1)⟩
        else .inr .carnetEmpty) ∧
    (∀ (p : Product) (day used taken quota : Nat), p.fields = .allowance day used →
      taken = (if day < x.serviceDay then 0 else used) →
      quota = ((set.schemesLow ++ set.schemesHigh)[p.scheme]?.elim 0 fun e => e.tripsPerDay) →
      payWith x g c p = if g.transfer = true ∧ g.upgrade = 0 then .inl ⟨.allowance, 0, none, none, false⟩
        else if taken < quota then .inl ⟨.allowance, 0, none,
          some { p with fields := .allowance (max day x.serviceDay) (taken + 1) }, decide (taken + 1 = quota)⟩
        else .inr .allowanceUsed) ∧
    (∀ (p : Product) (first last : Nat), p.fields = .pass first last →
      payWith x g c p = .inl ⟨.pass, 0, none, none, false⟩) ∧
    (∀ r slot, walk x g c none c.products = .none r slot →
      (r = .noProduct ∧ slot = none ∧ ∀ p ∈ c.products, productApplies x p = false) ∨
      ∃ earlier p later, c.products = earlier ++ p :: later ∧ productApplies x p = true ∧ payWith x g c p = .inr r ∧
        slot = some p.slot ∧ (p.chain = false ∨ ∀ q ∈ later, productApplies x q = false) ∧
        ∀ q ∈ earlier, productApplies x q = true → q.chain = true ∧ ∃ e, payWith x g c q = .inr e) ∧
    ∀ p pay, walk x g c none c.products = .used p pay →
      pay.charge ≤ g.upgrade ∧
      (∀ balance, p.fields = .purse balance →
        pay.kind = .purse ∧ pay.charge = (if cap = 0 then g.upgrade else min g.upgrade (cap - spent)) ∧
        -(set.concessions.creditLimit : Int) ≤ balance - pay.charge ∧
        pay.daySpend = some ⟨max c.daySpend.day x.serviceDay, min 65535 (spent + pay.charge)⟩ ∧
        pay.written = if pay.charge = 0 then none else some { p with fields := .purse (balance - pay.charge) }) ∧
      ((∀ balance, p.fields ≠ .purse balance) → pay.charge = 0 ∧ pay.daySpend = none ∧ pay.kind ≠ .purse) ∧
      ∃ earlier later, c.products = earlier ++ p :: later ∧ productApplies x p = true ∧
        payWith x g c p = .inl pay ∧
        ∀ q ∈ earlier, productApplies x q = true → q.chain = true ∧ ∃ r, payWith x g c q = .inr r

/-- R29: every berth's holds count is the number of its assigned lanes that hold a hold, and each hold is for the trip of its lane's berth, which
is OPEN or CLOSING. From every state in which this and the laws of the lanes, the supervisor and the journal hold, every step leads to such a
state. -/
def Obligations.HoldsEqualTheLanesThatHold : Prop :=
  ∀ s t : State, HoldLaw s → LaneLaw s → ServiceLaw s → EgressLaw s → JournalLaw s → step s = .next t → HoldLaw t

/-- R105 and R104: the Recent Admission List holds at most 256 entries, at most one per pair of card and trip reference and at most one HELD
entry per card, and its number of HELD entries equals the sum of the holds of all berths, at most 8. Every HELD entry belongs to the hold of the
lane it names and every hold to its entry, and from every state in which the laws hold every step keeps this. -/
def Obligations.RecentListAgreesWithTheHolds : Prop :=
  (∀ s t : State, ListLaw s → HoldLaw s → LaneLaw s → ServiceLaw s → EgressLaw s → JournalLaw s → step s = .next t →
    ListLaw t) ∧
  ∀ s : State, ListLaw s → HoldLaw s → LaneLaw s →
    s.recent.length ≤ 256 ∧
    s.recent.Pairwise (fun a b => ¬(a.card = b.card ∧ a.tripRef = b.tripRef)) ∧
    s.recent.Pairwise (fun a b => ¬(a.card = b.card ∧ a.state = .held ∧ b.state = .held)) ∧
    s.heldCount = holdsOf (s.berth 0) + holdsOf (s.berth 1) + holdsOf (s.berth 2) + holdsOf (s.berth 3) ∧
    s.heldCount ≤ 8
/-! ### The Pontoon Supervisor -/

/-- R181: SETUP is refused with STATE in IN_SERVICE and EGRESS, and with RANGE for its first field that is out of range and not clamped. R44, R150,
R155, R180 and R182: a SETUP that is taken writes every setup value, the clamped ones moved to the nearest allowed value and named; each present
lane takes its record, its decoder re-seated when the beam order changes; a lane no longer present is OFF and unassigned; CONFIG becomes
OUT_OF_SERVICE. Then a changed mark window may run out, and a standing demand begins egress. The names of the fields in RANGE and OK_CLAMPED
answers are read by log 13; that a lane no longer present keeps its return-in-progress bit is the model's choice (log 19). -/
def Obligations.SetupWritesEverySetupValue : Prop :=
  ∀ (tag : Byte) (r : SetupRequest) (s : State), s.slotFree → r.lanes.length = r.lanesPresent →
    (s.supervisor.state = .inService ∨ s.supervisor.state = .egress →
      exec (.setup tag r) s = .next (State.answering 0x01 tag (.code .state) (countTaken s))) ∧
    (s.supervisor.state = .config ∨ s.supervisor.state = .outOfService → ∀ bad : Option FieldName,
      bad = (if r.pontoonId = 0 then some ⟨0, 1⟩
        else if r.lanesPresent = 0 ∨ 8 < r.lanesPresent then some ⟨0, 2⟩
        else if r.berthsPresent = 0 ∨ 4 < r.berthsPresent then some ⟨0, 3⟩
        else match r.lanes.findIdx? fun l => decide (1 < l.beamOrder) with
          | some k => some ⟨k + 1, 1⟩
          | none => if 50 < r.defaultMargin then some ⟨0, 8⟩ else none) →
      (∀ f, bad = some f →
        exec (.setup tag r) s = .next (State.answering 0x01 tag (.rangeField f) (countTaken s))) ∧
      (bad = none → ∃ (lanes : PerLane Lane) (fields : List FieldName) (written expired final : State),
        (∀ (i : LaneIx) (rec : LaneRecord), r.lanes[i.val]? = some rec →
          ∃ (order : BeamOrder) (filter : Nat), (order = .normal ↔ rec.beamOrder = 0) ∧
            filter ∈ [0, 5, 10, 20, 50, 100] ∧
            (∀ v ∈ [0, 5, 10, 20, 50, 100],
              ((rec.filterCode : Int) - filter).natAbs ≤ ((rec.filterCode : Int) - v).natAbs ∧
              (((rec.filterCode : Int) - filter).natAbs = ((rec.filterCode : Int) - v).natAbs → v ≤ filter)) ∧
            lanes.get i = { s.lane i with
              beamOrder := order, filterCode := filter
              passageTimeout := max 3000 (min 30000 rec.passageTimeout)
              barrierTimeout := max 500 (min 3000 rec.barrierTimeout)
              decoder := if order = (s.lane i).beamOrder then (s.lane i).decoder
                else Decoder.reseated (pairOf order (s.lane i).beamA.accepted (s.lane i).beamB.accepted)
              lastChange := if order = (s.lane i).beamOrder then (s.lane i).lastChange else none }) ∧
        (∀ i : LaneIx, r.lanesPresent ≤ i.val → lanes.get i =
          if i.val < s.supervisor.setup.lanesPresent then
            { s.lane i with
              state := .off, berth := none, hold := none, expiryPending := false, faultCause := none
              barrierTimer := none, passageTimer := none, clearTimer := none }
          else s.lane i) ∧
        (∀ f, f ∈ fields ↔ (f = ⟨0, 5⟩ ∧ 120 < r.courtesyWindow) ∨
          (f = ⟨0, 6⟩ ∧ (r.markWindow < 30 ∨ 600 < r.markWindow)) ∨ (f = ⟨0, 7⟩ ∧ 1439 < r.dayStartOffset) ∨
          ∃ (k : Nat) (rec : LaneRecord), r.lanes[k]? = some rec ∧
            ((f = ⟨k + 1, 2⟩ ∧ rec.filterCode ∉ [0, 5, 10, 20, 50, 100]) ∨
              (f = ⟨k + 1, 3⟩ ∧ (rec.passageTimeout < 3000 ∨ 30000 < rec.passageTimeout)) ∨
              (f = ⟨k + 1, 4⟩ ∧ (rec.barrierTimeout < 500 ∨ 3000 < rec.barrierTimeout)))) ∧
        written = State.posting
          (if s.supervisor.state = .config then [.pontoonState .config .outOfService .setup none s.clock.time] else [])
          { countTaken s with
            lanes := lanes
            supervisor := { s.supervisor with
              state := .outOfService
              returnState := if s.supervisor.state = .config then none else s.supervisor.returnState
              setup := ⟨r.pontoonId, r.lanesPresent, r.berthsPresent, min 120 r.courtesyWindow,
                max 30 (min 600 r.markWindow), 60 * min 1439 r.dayStartOffset, r.defaultMargin, r.freeRunPermitted⟩ } } ∧
        expired = (if max 30 (min 600 r.markWindow) = s.supervisor.setup.markWindow then written
          else windowExpiry written) ∧
        final = (if s.supervisor.state = .config ∧ (s.supervisor.line.accepted || s.supervisor.latch) = true then
          enterEgress none expired else expired) ∧
        exec (.setup tag r) s =
          .next (State.answering 0x01 tag (.setup fields final.supervisor.state) final)))

/-- R183, R184, R41 and R156: SERVICE_START. The first check that fails decides the answer. A start that passes first lets the Service Clock act on
a permitted free-run option, then makes the pontoon IN_SERVICE, and then brings each present lane in OFF to CLOSED, or to FAULT with cause FORCED
where its sense is open; the notices stand in that order. Each lamp whose level condition is true as its lane leaves OFF rises. -/
def Obligations.ServiceStartBringsThePontoonIntoService : Prop :=
  ∀ (tag : Byte) (free : Option ServiceTime) (s : State), s.slotFree →
    (s.supervisor.state ≠ .outOfService →
      exec (.serviceStart tag free) s = .next (State.answering 0x02 tag (.code .state) (countTaken s))) ∧
    (s.supervisor.state = .outOfService →
      (∀ t, free = some t → 86399 < t.second →
        exec (.serviceStart tag free) s = .next (State.answering 0x02 tag (.code .range) (countTaken s))) ∧
      ((∀ t, free = some t → t.second ≤ 86399) →
        (s.tariff.active = none →
          exec (.serviceStart tag free) s = .next (State.answering 0x02 tag (.code .noTariff) (countTaken s))) ∧
        (s.tariff.active ≠ none → s.clock.state ≠ .synced →
          free = none ∨ s.supervisor.setup.freeRunPermitted = false →
          exec (.serviceStart tag free) s = .next (State.answering 0x02 tag (.code .timeNotSynced) (countTaken s))) ∧
        (s.tariff.active ≠ none →
          s.clock.state = .synced ∨ (free ≠ none ∧ s.supervisor.setup.freeRunPermitted = true) →
          ServiceLaw s → TariffLaw s → ClockLaw s →
          ∃ (clock : Clock) (timeNotices : List Notice) (lanes : PerLane Lane) (forced : List LaneIx),
            (s.clock.state = .synced → clock = s.clock ∧ timeNotices = []) ∧
            (∀ t, free = some t → s.clock.state = .unset →
              clock = { s.clock with
                state := .degraded, time := some t, settingRunTime := some s.runTime, advances := 0 } ∧
              timeNotices = [.timeState .unset .degraded .freeRun (some t)]) ∧
            (∀ t o, free = some t → s.clock.state = .degraded → s.clock.time = some o →
              (absSecond t < absSecond o → clock = s.clock ∧ timeNotices = []) ∧
              (absSecond o ≤ absSecond t →
                clock = { s.clock with time := some t, settingRunTime := some s.runTime, advances := 0 } ∧
                timeNotices = if absSecond o + 2 < absSecond t then [.timeStep o t .forward] else [])) ∧
            forced = (List.finRange 8).filter (fun i => decide (i.val < s.supervisor.setup.lanesPresent) &&
              decide ((s.lane i).state = .off) && (s.lane i).sense) ∧
            (∀ i : LaneIx, lanes.get i =
              if i ∈ forced then { s.lane i with
                state := .fault, hold := none, faultCause := some .forced, returning := false
                barrierTimer := none, passageTimer := none, clearTimer := none }
              else if i.val < s.supervisor.setup.lanesPresent ∧ (s.lane i).state = .off then
                { s.lane i with state := .closed }
              else s.lane i) ∧
            exec (.serviceStart tag free) s = .next (State.answering 0x02 tag
              (.serviceStart clock.state clock.time
                ((List.finRange 8).filter fun i => decide (i.val < s.supervisor.setup.lanesPresent ∧ (lanes.get i).state = .closed)).length
                ((List.finRange 8).filter fun i => decide (i.val < s.supervisor.setup.lanesPresent ∧ (lanes.get i).state = .fault)).length)
              (State.posting
                (timeNotices ++ [.pontoonState .outOfService .inService .start none clock.time] ++
                  forced.map fun i => .laneFault i .forced)
                (rescanLamps s { countTaken s with
                  clock := clock
                  supervisor := { s.supervisor with state := .inService, returnState := none }
                  lanes := lanes }))))))

/-- R185 and R41: SERVICE_STOP is refused with STATE outside IN_SERVICE, and with BERTHS_ACTIVE, each such berth named with its state, while a
present berth is not VACANT; that they are named in ascending order is the model's choice (log 25, DESIGN CHOICE). Otherwise the pontoon is
OUT_OF_SERVICE and every present lane OFF; assignments, lamp selections, lists and stores are kept. -/
def Obligations.ServiceStopTurnsTheLanesOff : Prop :=
  ∀ (tag : Byte) (s : State) (standing : List BerthIx), s.slotFree →
    standing = ((List.finRange 4).filter fun b => decide (b.val < s.supervisor.setup.berthsPresent ∧ s.berth b ≠ none)) →
    (s.supervisor.state ≠ .inService →
      exec (.serviceStop tag) s = .next (State.answering 0x03 tag (.code .state) (countTaken s))) ∧
    (s.supervisor.state = .inService → standing ≠ [] →
      exec (.serviceStop tag) s = .next (State.answering 0x03 tag
        (.berthsActive (standing.map fun b => (b, berthStateOf (s.berth b)))) (countTaken s))) ∧
    (s.supervisor.state = .inService → standing = [] → ∃ lanes : PerLane Lane,
      (∀ i : LaneIx, lanes.get i = if i.val < s.supervisor.setup.lanesPresent then
        { s.lane i with
          state := .off, hold := none, expiryPending := false, faultCause := none, returning := false
          barrierTimer := none, passageTimer := none, clearTimer := none } else s.lane i) ∧
      exec (.serviceStop tag) s = .next (State.answering 0x03 tag (.code .ok) (State.posting
        [.pontoonState .inService .outOfService .stop none s.clock.time]
        { countTaken s with
          supervisor := { s.supervisor with state := .outOfService, returnState := none }
          lanes := lanes })))

/-- R191, R41, R58, R104, R144 and R208: RESTART is refused with STATE in IN_SERVICE and EGRESS. Otherwise the answer carries the notices and the
lost count discarded; the queue, the statistics and the Recent Admission List are empty, every faulted lane is OFF, every lamp latch is clear, every
decoder is re-seated, and a pending switch is cancelled with its notice first in the emptied queue. Nothing else changes. -/
def Obligations.RestartClearsWhatItShould : Prop :=
  ∀ (tag : Byte) (s : State), s.slotFree →
    (s.supervisor.state = .inService ∨ s.supervisor.state = .egress →
      exec (.restart tag) s = .next (State.answering 0x06 tag (.code .state) (countTaken s))) ∧
    (s.supervisor.state = .config ∨ s.supervisor.state = .outOfService → ∃ (lanes : PerLane Lane) (lamps : PerLane Lamp),
      (∀ i : LaneIx, lanes.get i = { s.lane i with
        state := if (s.lane i).state = .fault then .off else (s.lane i).state
        hold := if (s.lane i).state = .fault then none else (s.lane i).hold
        faultCause := if (s.lane i).state = .fault then none else (s.lane i).faultCause
        expiryPending := if (s.lane i).state = .fault then false else (s.lane i).expiryPending
        barrierTimer := if (s.lane i).state = .fault then none else (s.lane i).barrierTimer
        passageTimer := if (s.lane i).state = .fault then none else (s.lane i).passageTimer
        clearTimer := if (s.lane i).state = .fault then none else (s.lane i).clearTimer
        decoder := Decoder.reseated
          (pairOf (s.lane i).beamOrder (s.lane i).beamA.accepted (s.lane i).beamB.accepted)
        lastChange := none } ∧
        lamps.get i = { s.lamp i with latch := false }) ∧
      exec (.restart tag) s = .next (State.answering 0x06 tag (.restart s.link.queue.length s.link.lost)
        (State.posting
          (match s.tariff.pendingSwitch with
            | none => []
            | some p => [.tariffCancelled .restart p.generation p.effective
                (s.tariff.active.elim 0 fun a => a.fares.generation)])
          { s with
            link := { s.link with queue := [], lost := 0, stats := ⟨0, 0, 0, 0, 0, 0, 0, 0⟩ }
            recent := []
            lanes := lanes
            lamps := lamps
            tariff := { s.tariff with pendingSwitch := none } })))

/-- R177 and R186: the emergency line is filtered over 20 ms and an accepted change sets its level; before that the command has no effect (log
4). EGRESS_BEGIN sets the latch and EGRESS_END clears it in every pontoon state, with REDUNDANT where it already stands so. R187, R189, R42 and
R43: what a change of the demand does. A rise brings a pontoon out of service or in service to EGRESS and every present lane after it, in
ascending order, a hold voided with cause EGRESS; a fall in EGRESS brings the pontoon to its return state and its lanes to CLEARING. In CONFIG the
EGRESS notice alone is posted. Each lamp whose level condition becomes true, or is true as its lane leaves EGRESS, rises: that the
latter rises even if it was true before is the model's reading (log 20, DEDUCED), as is the rise lane by lane of a condition that becomes true
and false again within the event (log 21, DEDUCED). -/
def Obligations.EgressDemandMovesThePontoon : Prop :=
  (∀ (raw : Bool) (s : State),
    exec (.emergencyLineRawChange raw) s = .next (endOfEvent (if raw = s.supervisor.line.raw then s
      else { s with supervisor := { s.supervisor with line := ⟨raw, s.supervisor.line.accepted,
        if raw = s.supervisor.line.accepted then none else some s.runTime⟩ } })) ∧
    ((∀ m, s.supervisor.line.measure = some m → s.runTime < m + 20) →
      exec .emergencyLineAcceptedChange s = .next (endOfEvent s)) ∧
    (∀ m, s.supervisor.line.measure = some m → m + 20 ≤ s.runTime →
      exec .emergencyLineAcceptedChange s = .next (endOfEvent (demandEvent s.demand .line
        { s with supervisor := { s.supervisor with
          line := ⟨s.supervisor.line.raw, s.supervisor.line.raw, none⟩ } })))) ∧
  (∀ (tag : Byte) (s : State), s.slotFree →
    (s.supervisor.latch = true → exec (.egressBegin tag) s = .next (State.answering 0x04 tag
      (.egress .redundant true s.supervisor.line.accepted true s.supervisor.state) (countTaken s))) ∧
    (s.supervisor.latch = false → exec (.egressEnd tag) s = .next (State.answering 0x05 tag
      (.egress .redundant false s.supervisor.line.accepted s.supervisor.line.accepted s.supervisor.state) (countTaken s))) ∧
    (s.supervisor.latch = false → ∃ t,
      t = demandEvent s.demand .request { countTaken s with supervisor := { s.supervisor with latch := true } } ∧
      exec (.egressBegin tag) s = .next (State.answering 0x04 tag
        (.egress .ok true s.supervisor.line.accepted true t.supervisor.state) t)) ∧
    (s.supervisor.latch = true → ∃ t,
      t = demandEvent s.demand .request { countTaken s with supervisor := { s.supervisor with latch := false } } ∧
      exec (.egressEnd tag) s = .next (State.answering 0x05 tag
        (.egress .ok false s.supervisor.line.accepted s.supervisor.line.accepted t.supervisor.state) t))) ∧
  (∀ (before : Bool) (c : EgressCause) (s : State),
    (s.demand = before → demandEvent before c s = s) ∧
    (before = false → s.demand = true →
      (s.supervisor.state = .config ∨ s.supervisor.state = .egress → demandEvent before c s = State.posting
        [.egress .begins c s.supervisor.line.accepted s.supervisor.latch s.clock.time] s) ∧
      (s.supervisor.state = .outOfService ∨ s.supervisor.state = .inService →
        demandEvent before c s = (List.finRange 8).foldl laneToEgress (State.posting
          [.pontoonState s.supervisor.state .egress .egressBegin (some s.supervisor.state) s.clock.time,
            .egress .begins c s.supervisor.line.accepted s.supervisor.latch s.clock.time]
          { s with supervisor := { s.supervisor with
            state := .egress, returnState := some s.supervisor.state } }))) ∧
    (before = true → s.demand = false →
      (s.supervisor.state ≠ .egress → demandEvent before c s = State.posting
        [.egress .ends c s.supervisor.line.accepted s.supervisor.latch s.clock.time] s) ∧
      (∀ back, s.supervisor.state = .egress → s.supervisor.returnState = some back →
        ∃ lanes : PerLane Lane,
          (∀ i : LaneIx, lanes.get i = (if (s.lane i).state = .egress then { s.lane i with
            state := .clearing, hold := none, expiryPending := false
            barrierTimer := none, passageTimer := none
            clearTimer := if (s.lane i).decoder.pair = .clear then some (s.runTime + 1000) else none } else s.lane i)) ∧
          demandEvent before c s = State.posting
            [.pontoonState .egress back .egressEnd none s.clock.time,
              .egress .ends c s.supervisor.line.accepted s.supervisor.latch s.clock.time]
            (rescanLamps s { s with
              supervisor := { s.supervisor with state := back, returnState := none }
              lanes := lanes })))) ∧
  ∀ (i : LaneIx) (s : State) (next : Lane),
    next = { s.lane i with
      state := .egress, hold := none, expiryPending := false, returning := false, faultCause := none
      barrierTimer := none, passageTimer := none, clearTimer := none } →
    (s.supervisor.setup.lanesPresent ≤ i.val ∨ (s.lane i).state = .egress → laneToEgress s i = s) ∧
    (i.val < s.supervisor.setup.lanesPresent → (s.lane i).state ≠ .egress →
      ((s.lane i).hold = none → laneToEgress s i = rescanLamps s { s with lanes := s.lanes.set i next }) ∧
      ∀ h b, (s.lane i).hold = some h → (s.lane i).berth = some b →
        laneToEgress s i = berthVoid b (State.posting [.holdVoid i h.card .egress h.charge h.kind]
          (rescanLamps s { s with
            lanes := s.lanes.set i next
            recent := s.recent.map fun e =>
              if e.card = h.card ∧ e.tripRef = h.tripRef ∧ e.state = .held then
                { e with state := .void, changedAt := s.runTime } else e })))

/-- R177, R187 and R189: outside CONFIG the pontoon is in EGRESS exactly while the demand is true, with a return state exactly then, and a lane is
in EGRESS exactly when it is present and the pontoon is. R26 and R185: trips stand only at present berths of a pontoon that is in service, or in
an egress that returns to it. From every state in which these and the laws of the lanes hold, every step leads to such a state. -/
def Obligations.SupervisorStaysSound : Prop :=
  ∀ s t : State, EgressLaw s → ServiceLaw s → LaneLaw s → step s = .next t → EgressLaw t ∧ ServiceLaw t
/-! ### Lamp and drive outputs -/

/-- R28: a lane in OPENING, OPEN, CLEARING or EGRESS drives its barrier open and any other closed, but in CONFIG egress demand drives all eight open.
R46: when a level condition is true; in OFF none is. R47: the lamp is on in EGRESS and off in OFF whatever its selection, and is otherwise lit as its
width gives: FOLLOW by the level condition or within 250 ms of an event, PULSE while its pulse runs, LATCHED while its latch is set. R46, R47 and R189:
at a change of lanes or berths a level condition rises when it passes from false to true or is true as its lane leaves EGRESS, and an event condition
rises at each event (R30, R87) but not in OFF; a rise acts by the width. That a condition true as its lane leaves EGRESS rises again is read with log
20. -/
def Obligations.LampsAndDrivesFollowTheState : Prop :=
  (∀ (s : State) (i : LaneIx),
    (s.driveOpen i = true ↔ (s.lane i).state ∈ [LaneState.opening, .opened, .clearing, .egress] ∨
      (s.supervisor.state = .config ∧ (s.supervisor.line.accepted = true ∨ s.supervisor.latch = true))) ∧
    (s.level i = true ↔ (s.lane i).state ≠ .off ∧
      ((s.lamp i).condition = .on ∨
        ((s.lamp i).condition = .laneOpen ∧ (s.lane i).state ∈ [LaneState.opening, .opened]) ∨
        ((s.lamp i).condition = .fault ∧ (s.lane i).state = .fault) ∨
        ((s.lamp i).condition = .egress ∧ (s.lane i).state = .egress) ∨
        ∃ b t, (s.lane i).berth = some b ∧ s.berth b = some t ∧ t.phase ≠ .departed ∧
          (((s.lamp i).condition = .berthNear ∧ t.fill = .near) ∨
            ((s.lamp i).condition = .berthFull ∧ (t.fill = .full ∨ t.fill = .overfull)) ∨
            ((s.lamp i).condition = .berthClosing ∧ t.phase = .closing)))) ∧
    (s.lampLit i = true ↔ (s.lane i).state = .egress ∨ ((s.lane i).state ≠ .off ∧
      (((s.lamp i).width = .follow ∧ (s.lamp i).condition ∉ [LampCondition.admission, .refuse] ∧ s.level i = true) ∨
        ((s.lamp i).width = .follow ∧ (s.lamp i).condition ∈ [LampCondition.admission, .refuse] ∧ (s.lamp i).pulseDue ≠ none) ∨
        ((s.lamp i).width = .pulse ∧ (s.lamp i).pulseDue ≠ none) ∨
        ((s.lamp i).width = .latched ∧ (s.lamp i).latch = true))))) ∧
  (∀ before after : State, ∃ lamps : PerLane Lamp, rescanLamps before after = { after with lamps := lamps } ∧
    ∀ i : LaneIx, lamps.get i = if after.level i = true ∧ (before.level i = false ∨
        ((before.lane i).state = .egress ∧ (after.lane i).state ≠ .egress)) then
      (match (after.lamp i).width with
        | .follow => after.lamp i
        | .pulse => { after.lamp i with pulseDue := some (after.runTime + (after.lamp i).pulseWidth) }
        | .latched => { after.lamp i with latch := true })
      else after.lamp i) ∧
  ∀ (s : State) (i : LaneIx) (c : LampCondition), c ∈ [LampCondition.admission, .refuse] →
    raiseEvent c i s = if (s.lane i).state = .off ∨ (s.lamp i).condition ≠ c then s else
      { s with lamps := s.lamps.set i (match (s.lamp i).width with
        | .follow => { s.lamp i with pulseDue := some (s.runTime + 250) }
        | .pulse => { s.lamp i with pulseDue := some (s.runTime + (s.lamp i).pulseWidth) }
        | .latched => { s.lamp i with latch := true }) }
end

