-- ==== Sys2Proof/Laws/Frames1.lean ====
section
/-! SUPPORT. What each operation leaves alone, one lemma for each field of State. -/

namespace Sys2Proof.Machine

open Sys2Proof

/-! ### rescanLamps -/

@[simp] theorem rescanLamps_runTime (before after : State) : (rescanLamps before after).runTime = after.runTime := rfl
@[simp] theorem rescanLamps_link (before after : State) : (rescanLamps before after).link = after.link := rfl
@[simp] theorem rescanLamps_supervisor (before after : State) : (rescanLamps before after).supervisor = after.supervisor :=
  rfl
@[simp] theorem rescanLamps_clock (before after : State) : (rescanLamps before after).clock = after.clock := rfl
@[simp] theorem rescanLamps_tariff (before after : State) : (rescanLamps before after).tariff = after.tariff := rfl
@[simp] theorem rescanLamps_berths (before after : State) : (rescanLamps before after).berths = after.berths := rfl
@[simp] theorem rescanLamps_lanes (before after : State) : (rescanLamps before after).lanes = after.lanes := rfl
@[simp] theorem rescanLamps_recent (before after : State) : (rescanLamps before after).recent = after.recent := rfl
@[simp] theorem rescanLamps_deny (before after : State) : (rescanLamps before after).deny = after.deny := rfl
@[simp] theorem rescanLamps_journal (before after : State) : (rescanLamps before after).journal = after.journal := rfl
@[simp] theorem rescanLamps_draws (before after : State) : (rescanLamps before after).draws = after.draws := rfl
@[simp] theorem rescanLamps_pending (before after : State) : (rescanLamps before after).pending = after.pending := rfl

/-! ### raiseEvent -/

@[simp] theorem raiseEvent_runTime (c : LampCondition) (i : LaneIx) (s : State) : (raiseEvent c i s).runTime = s.runTime := by
  unfold raiseEvent
  split <;> simp
@[simp] theorem raiseEvent_link (c : LampCondition) (i : LaneIx) (s : State) : (raiseEvent c i s).link = s.link := by
  unfold raiseEvent
  split <;> simp
@[simp] theorem raiseEvent_supervisor (c : LampCondition) (i : LaneIx) (s : State) : (raiseEvent c i s).supervisor = s.supervisor := by
  unfold raiseEvent
  split <;> simp
@[simp] theorem raiseEvent_clock (c : LampCondition) (i : LaneIx) (s : State) : (raiseEvent c i s).clock = s.clock := by
  unfold raiseEvent
  split <;> simp
@[simp] theorem raiseEvent_tariff (c : LampCondition) (i : LaneIx) (s : State) : (raiseEvent c i s).tariff = s.tariff := by
  unfold raiseEvent
  split <;> simp
@[simp] theorem raiseEvent_berths (c : LampCondition) (i : LaneIx) (s : State) : (raiseEvent c i s).berths = s.berths := by
  unfold raiseEvent
  split <;> simp
@[simp] theorem raiseEvent_lanes (c : LampCondition) (i : LaneIx) (s : State) : (raiseEvent c i s).lanes = s.lanes := by
  unfold raiseEvent
  split <;> simp
@[simp] theorem raiseEvent_recent (c : LampCondition) (i : LaneIx) (s : State) : (raiseEvent c i s).recent = s.recent := by
  unfold raiseEvent
  split <;> simp
@[simp] theorem raiseEvent_deny (c : LampCondition) (i : LaneIx) (s : State) : (raiseEvent c i s).deny = s.deny := by
  unfold raiseEvent
  split <;> simp
@[simp] theorem raiseEvent_journal (c : LampCondition) (i : LaneIx) (s : State) : (raiseEvent c i s).journal = s.journal := by
  unfold raiseEvent
  split <;> simp
@[simp] theorem raiseEvent_draws (c : LampCondition) (i : LaneIx) (s : State) : (raiseEvent c i s).draws = s.draws := by
  unfold raiseEvent
  split <;> simp
@[simp] theorem raiseEvent_pending (c : LampCondition) (i : LaneIx) (s : State) : (raiseEvent c i s).pending = s.pending := by
  unfold raiseEvent
  split <;> simp

/-! ### setLane -/

@[simp] theorem setLane_runTime (i : LaneIx) (f : Lane → Lane) (s : State) : (setLane i f s).runTime = s.runTime :=
  rfl
@[simp] theorem setLane_link (i : LaneIx) (f : Lane → Lane) (s : State) : (setLane i f s).link = s.link := rfl
@[simp] theorem setLane_supervisor (i : LaneIx) (f : Lane → Lane) (s : State) : (setLane i f s).supervisor = s.supervisor :=
  rfl
@[simp] theorem setLane_clock (i : LaneIx) (f : Lane → Lane) (s : State) : (setLane i f s).clock = s.clock := rfl
@[simp] theorem setLane_tariff (i : LaneIx) (f : Lane → Lane) (s : State) : (setLane i f s).tariff = s.tariff := rfl
@[simp] theorem setLane_berths (i : LaneIx) (f : Lane → Lane) (s : State) : (setLane i f s).berths = s.berths := rfl
@[simp] theorem setLane_lamps (i : LaneIx) (f : Lane → Lane) (s : State) : (setLane i f s).lamps = s.lamps := rfl
@[simp] theorem setLane_recent (i : LaneIx) (f : Lane → Lane) (s : State) : (setLane i f s).recent = s.recent := rfl
@[simp] theorem setLane_deny (i : LaneIx) (f : Lane → Lane) (s : State) : (setLane i f s).deny = s.deny := rfl
@[simp] theorem setLane_journal (i : LaneIx) (f : Lane → Lane) (s : State) : (setLane i f s).journal = s.journal :=
  rfl
@[simp] theorem setLane_draws (i : LaneIx) (f : Lane → Lane) (s : State) : (setLane i f s).draws = s.draws := rfl
@[simp] theorem setLane_pending (i : LaneIx) (f : Lane → Lane) (s : State) : (setLane i f s).pending = s.pending :=
  rfl

/-! ### changeLane -/

@[simp] theorem changeLane_runTime (i : LaneIx) (f : Lane → Lane) (s : State) : (changeLane i f s).runTime = s.runTime :=
  rfl
@[simp] theorem changeLane_link (i : LaneIx) (f : Lane → Lane) (s : State) : (changeLane i f s).link = s.link := rfl
@[simp] theorem changeLane_supervisor (i : LaneIx) (f : Lane → Lane) (s : State) : (changeLane i f s).supervisor = s.supervisor :=
  rfl
@[simp] theorem changeLane_clock (i : LaneIx) (f : Lane → Lane) (s : State) : (changeLane i f s).clock = s.clock :=
  rfl
@[simp] theorem changeLane_tariff (i : LaneIx) (f : Lane → Lane) (s : State) : (changeLane i f s).tariff = s.tariff :=
  rfl
@[simp] theorem changeLane_berths (i : LaneIx) (f : Lane → Lane) (s : State) : (changeLane i f s).berths = s.berths :=
  rfl
@[simp] theorem changeLane_recent (i : LaneIx) (f : Lane → Lane) (s : State) : (changeLane i f s).recent = s.recent :=
  rfl
@[simp] theorem changeLane_deny (i : LaneIx) (f : Lane → Lane) (s : State) : (changeLane i f s).deny = s.deny := rfl
@[simp] theorem changeLane_journal (i : LaneIx) (f : Lane → Lane) (s : State) : (changeLane i f s).journal = s.journal :=
  rfl
@[simp] theorem changeLane_draws (i : LaneIx) (f : Lane → Lane) (s : State) : (changeLane i f s).draws = s.draws :=
  rfl
@[simp] theorem changeLane_pending (i : LaneIx) (f : Lane → Lane) (s : State) : (changeLane i f s).pending = s.pending :=
  rfl

/-! ### changeBerth -/

@[simp] theorem changeBerth_runTime (b : BerthIx) (f : Berth → Berth) (s : State) : (changeBerth b f s).runTime = s.runTime :=
  rfl
@[simp] theorem changeBerth_link (b : BerthIx) (f : Berth → Berth) (s : State) : (changeBerth b f s).link = s.link :=
  rfl
@[simp] theorem changeBerth_supervisor (b : BerthIx) (f : Berth → Berth) (s : State) : (changeBerth b f s).supervisor = s.supervisor :=
  rfl
@[simp] theorem changeBerth_clock (b : BerthIx) (f : Berth → Berth) (s : State) : (changeBerth b f s).clock = s.clock :=
  rfl
@[simp] theorem changeBerth_tariff (b : BerthIx) (f : Berth → Berth) (s : State) : (changeBerth b f s).tariff = s.tariff :=
  rfl
@[simp] theorem changeBerth_lanes (b : BerthIx) (f : Berth → Berth) (s : State) : (changeBerth b f s).lanes = s.lanes :=
  rfl
@[simp] theorem changeBerth_recent (b : BerthIx) (f : Berth → Berth) (s : State) : (changeBerth b f s).recent = s.recent :=
  rfl
@[simp] theorem changeBerth_deny (b : BerthIx) (f : Berth → Berth) (s : State) : (changeBerth b f s).deny = s.deny :=
  rfl
@[simp] theorem changeBerth_journal (b : BerthIx) (f : Berth → Berth) (s : State) : (changeBerth b f s).journal = s.journal :=
  rfl
@[simp] theorem changeBerth_draws (b : BerthIx) (f : Berth → Berth) (s : State) : (changeBerth b f s).draws = s.draws :=
  rfl
@[simp] theorem changeBerth_pending (b : BerthIx) (f : Berth → Berth) (s : State) : (changeBerth b f s).pending = s.pending :=
  rfl

/-! ### changeTrip -/

@[simp] theorem changeTrip_runTime (b : BerthIx) (f : Trip → Trip) (s : State) : (changeTrip b f s).runTime = s.runTime :=
  rfl
@[simp] theorem changeTrip_link (b : BerthIx) (f : Trip → Trip) (s : State) : (changeTrip b f s).link = s.link := rfl
@[simp] theorem changeTrip_supervisor (b : BerthIx) (f : Trip → Trip) (s : State) : (changeTrip b f s).supervisor = s.supervisor :=
  rfl
@[simp] theorem changeTrip_clock (b : BerthIx) (f : Trip → Trip) (s : State) : (changeTrip b f s).clock = s.clock :=
  rfl
@[simp] theorem changeTrip_tariff (b : BerthIx) (f : Trip → Trip) (s : State) : (changeTrip b f s).tariff = s.tariff :=
  rfl
@[simp] theorem changeTrip_lanes (b : BerthIx) (f : Trip → Trip) (s : State) : (changeTrip b f s).lanes = s.lanes :=
  rfl
@[simp] theorem changeTrip_recent (b : BerthIx) (f : Trip → Trip) (s : State) : (changeTrip b f s).recent = s.recent :=
  rfl
@[simp] theorem changeTrip_deny (b : BerthIx) (f : Trip → Trip) (s : State) : (changeTrip b f s).deny = s.deny := rfl
@[simp] theorem changeTrip_journal (b : BerthIx) (f : Trip → Trip) (s : State) : (changeTrip b f s).journal = s.journal :=
  rfl
@[simp] theorem changeTrip_draws (b : BerthIx) (f : Trip → Trip) (s : State) : (changeTrip b f s).draws = s.draws :=
  rfl
@[simp] theorem changeTrip_pending (b : BerthIx) (f : Trip → Trip) (s : State) : (changeTrip b f s).pending = s.pending :=
  rfl

/-! ### post -/

@[simp] theorem post_runTime (n : Notice) (s : State) : (post n s).runTime = s.runTime := by
  unfold post
  dsimp only
  split <;> rfl
@[simp] theorem post_supervisor (n : Notice) (s : State) : (post n s).supervisor = s.supervisor := by
  unfold post
  dsimp only
  split <;> rfl
@[simp] theorem post_clock (n : Notice) (s : State) : (post n s).clock = s.clock := by
  unfold post
  dsimp only
  split <;> rfl
@[simp] theorem post_tariff (n : Notice) (s : State) : (post n s).tariff = s.tariff := by
  unfold post
  dsimp only
  split <;> rfl
@[simp] theorem post_berths (n : Notice) (s : State) : (post n s).berths = s.berths := by
  unfold post
  dsimp only
  split <;> rfl
@[simp] theorem post_lanes (n : Notice) (s : State) : (post n s).lanes = s.lanes := by
  unfold post
  dsimp only
  split <;> rfl
@[simp] theorem post_lamps (n : Notice) (s : State) : (post n s).lamps = s.lamps := by
  unfold post
  dsimp only
  split <;> rfl
@[simp] theorem post_recent (n : Notice) (s : State) : (post n s).recent = s.recent := by
  unfold post
  dsimp only
  split <;> rfl
@[simp] theorem post_deny (n : Notice) (s : State) : (post n s).deny = s.deny := by
  unfold post
  dsimp only
  split <;> rfl
@[simp] theorem post_journal (n : Notice) (s : State) : (post n s).journal = s.journal := by
  unfold post
  dsimp only
  split <;> rfl
@[simp] theorem post_draws (n : Notice) (s : State) : (post n s).draws = s.draws := by
  unfold post
  dsimp only
  split <;> rfl
@[simp] theorem post_pending (n : Notice) (s : State) : (post n s).pending = s.pending := by
  unfold post
  dsimp only
  split <;> rfl

/-! ### postOpt -/

@[simp] theorem postOpt_runTime (n : Option Notice) (s : State) : (postOpt n s).runTime = s.runTime := by
  unfold postOpt
  split <;> simp
@[simp] theorem postOpt_supervisor (n : Option Notice) (s : State) : (postOpt n s).supervisor = s.supervisor := by
  unfold postOpt
  split <;> simp
@[simp] theorem postOpt_clock (n : Option Notice) (s : State) : (postOpt n s).clock = s.clock := by
  unfold postOpt
  split <;> simp
@[simp] theorem postOpt_tariff (n : Option Notice) (s : State) : (postOpt n s).tariff = s.tariff := by
  unfold postOpt
  split <;> simp
@[simp] theorem postOpt_berths (n : Option Notice) (s : State) : (postOpt n s).berths = s.berths := by
  unfold postOpt
  split <;> simp
@[simp] theorem postOpt_lanes (n : Option Notice) (s : State) : (postOpt n s).lanes = s.lanes := by
  unfold postOpt
  split <;> simp
@[simp] theorem postOpt_lamps (n : Option Notice) (s : State) : (postOpt n s).lamps = s.lamps := by
  unfold postOpt
  split <;> simp
@[simp] theorem postOpt_recent (n : Option Notice) (s : State) : (postOpt n s).recent = s.recent := by
  unfold postOpt
  split <;> simp
@[simp] theorem postOpt_deny (n : Option Notice) (s : State) : (postOpt n s).deny = s.deny := by
  unfold postOpt
  split <;> simp
@[simp] theorem postOpt_journal (n : Option Notice) (s : State) : (postOpt n s).journal = s.journal := by
  unfold postOpt
  split <;> simp
@[simp] theorem postOpt_draws (n : Option Notice) (s : State) : (postOpt n s).draws = s.draws := by
  unfold postOpt
  split <;> simp
@[simp] theorem postOpt_pending (n : Option Notice) (s : State) : (postOpt n s).pending = s.pending := by
  unfold postOpt
  split <;> simp

/-! ### endEntry -/

@[simp] theorem endEntry_runTime (h : Hold) (st : EntryState) (s : State) : (endEntry h st s).runTime = s.runTime :=
  rfl
@[simp] theorem endEntry_link (h : Hold) (st : EntryState) (s : State) : (endEntry h st s).link = s.link := rfl
@[simp] theorem endEntry_supervisor (h : Hold) (st : EntryState) (s : State) : (endEntry h st s).supervisor = s.supervisor :=
  rfl
@[simp] theorem endEntry_clock (h : Hold) (st : EntryState) (s : State) : (endEntry h st s).clock = s.clock := rfl
@[simp] theorem endEntry_tariff (h : Hold) (st : EntryState) (s : State) : (endEntry h st s).tariff = s.tariff := rfl
@[simp] theorem endEntry_berths (h : Hold) (st : EntryState) (s : State) : (endEntry h st s).berths = s.berths := rfl
@[simp] theorem endEntry_lanes (h : Hold) (st : EntryState) (s : State) : (endEntry h st s).lanes = s.lanes := rfl
@[simp] theorem endEntry_lamps (h : Hold) (st : EntryState) (s : State) : (endEntry h st s).lamps = s.lamps := rfl
@[simp] theorem endEntry_deny (h : Hold) (st : EntryState) (s : State) : (endEntry h st s).deny = s.deny := rfl
@[simp] theorem endEntry_journal (h : Hold) (st : EntryState) (s : State) : (endEntry h st s).journal = s.journal :=
  rfl
@[simp] theorem endEntry_draws (h : Hold) (st : EntryState) (s : State) : (endEntry h st s).draws = s.draws := rfl
@[simp] theorem endEntry_pending (h : Hold) (st : EntryState) (s : State) : (endEntry h st s).pending = s.pending :=
  rfl

/-! ### recomputeFill -/

@[simp] theorem recomputeFill_runTime (b : BerthIx) (s : State) : (recomputeFill b s).runTime = s.runTime := by
  unfold recomputeFill
  dsimp only
  repeat' split
  all_goals simp
@[simp] theorem recomputeFill_supervisor (b : BerthIx) (s : State) : (recomputeFill b s).supervisor = s.supervisor := by
  unfold recomputeFill
  dsimp only
  repeat' split
  all_goals simp
@[simp] theorem recomputeFill_clock (b : BerthIx) (s : State) : (recomputeFill b s).clock = s.clock := by
  unfold recomputeFill
  dsimp only
  repeat' split
  all_goals simp
@[simp] theorem recomputeFill_tariff (b : BerthIx) (s : State) : (recomputeFill b s).tariff = s.tariff := by
  unfold recomputeFill
  dsimp only
  repeat' split
  all_goals simp
@[simp] theorem recomputeFill_lanes (b : BerthIx) (s : State) : (recomputeFill b s).lanes = s.lanes := by
  unfold recomputeFill
  dsimp only
  repeat' split
  all_goals simp
@[simp] theorem recomputeFill_recent (b : BerthIx) (s : State) : (recomputeFill b s).recent = s.recent := by
  unfold recomputeFill
  dsimp only
  repeat' split
  all_goals simp
@[simp] theorem recomputeFill_deny (b : BerthIx) (s : State) : (recomputeFill b s).deny = s.deny := by
  unfold recomputeFill
  dsimp only
  repeat' split
  all_goals simp
@[simp] theorem recomputeFill_journal (b : BerthIx) (s : State) : (recomputeFill b s).journal = s.journal := by
  unfold recomputeFill
  dsimp only
  repeat' split
  all_goals simp
@[simp] theorem recomputeFill_draws (b : BerthIx) (s : State) : (recomputeFill b s).draws = s.draws := by
  unfold recomputeFill
  dsimp only
  repeat' split
  all_goals simp
@[simp] theorem recomputeFill_pending (b : BerthIx) (s : State) : (recomputeFill b s).pending = s.pending := by
  unfold recomputeFill
  dsimp only
  repeat' split
  all_goals simp

/-! ### postBerthState -/

@[simp] theorem postBerthState_runTime (b : BerthIx) (st : BerthState) (ref : Nat) (cause : Option CloseCause) (s : State) : (postBerthState b st ref cause s).runTime = s.runTime :=
  by simp [postBerthState]
@[simp] theorem postBerthState_supervisor (b : BerthIx) (st : BerthState) (ref : Nat) (cause : Option CloseCause) (s : State) : (postBerthState b st ref cause s).supervisor = s.supervisor :=
  by simp [postBerthState]
@[simp] theorem postBerthState_clock (b : BerthIx) (st : BerthState) (ref : Nat) (cause : Option CloseCause) (s : State) : (postBerthState b st ref cause s).clock = s.clock :=
  by simp [postBerthState]
@[simp] theorem postBerthState_tariff (b : BerthIx) (st : BerthState) (ref : Nat) (cause : Option CloseCause) (s : State) : (postBerthState b st ref cause s).tariff = s.tariff :=
  by simp [postBerthState]
@[simp] theorem postBerthState_berths (b : BerthIx) (st : BerthState) (ref : Nat) (cause : Option CloseCause) (s : State) : (postBerthState b st ref cause s).berths = s.berths :=
  by simp [postBerthState]
@[simp] theorem postBerthState_lanes (b : BerthIx) (st : BerthState) (ref : Nat) (cause : Option CloseCause) (s : State) : (postBerthState b st ref cause s).lanes = s.lanes :=
  by simp [postBerthState]
@[simp] theorem postBerthState_lamps (b : BerthIx) (st : BerthState) (ref : Nat) (cause : Option CloseCause) (s : State) : (postBerthState b st ref cause s).lamps = s.lamps :=
  by simp [postBerthState]
@[simp] theorem postBerthState_recent (b : BerthIx) (st : BerthState) (ref : Nat) (cause : Option CloseCause) (s : State) : (postBerthState b st ref cause s).recent = s.recent :=
  by simp [postBerthState]
@[simp] theorem postBerthState_deny (b : BerthIx) (st : BerthState) (ref : Nat) (cause : Option CloseCause) (s : State) : (postBerthState b st ref cause s).deny = s.deny :=
  by simp [postBerthState]
@[simp] theorem postBerthState_journal (b : BerthIx) (st : BerthState) (ref : Nat) (cause : Option CloseCause) (s : State) : (postBerthState b st ref cause s).journal = s.journal :=
  by simp [postBerthState]
@[simp] theorem postBerthState_draws (b : BerthIx) (st : BerthState) (ref : Nat) (cause : Option CloseCause) (s : State) : (postBerthState b st ref cause s).draws = s.draws :=
  by simp [postBerthState]
@[simp] theorem postBerthState_pending (b : BerthIx) (st : BerthState) (ref : Nat) (cause : Option CloseCause) (s : State) : (postBerthState b st ref cause s).pending = s.pending :=
  by simp [postBerthState]

/-! ### storeRecord -/

@[simp] theorem storeRecord_runTime (b : BerthIx) (r : TripRecord) (s : State) : (storeRecord b r s).runTime = s.runTime :=
  by simp [storeRecord]
@[simp] theorem storeRecord_supervisor (b : BerthIx) (r : TripRecord) (s : State) : (storeRecord b r s).supervisor = s.supervisor :=
  by simp [storeRecord]
@[simp] theorem storeRecord_clock (b : BerthIx) (r : TripRecord) (s : State) : (storeRecord b r s).clock = s.clock :=
  by simp [storeRecord]
@[simp] theorem storeRecord_tariff (b : BerthIx) (r : TripRecord) (s : State) : (storeRecord b r s).tariff = s.tariff :=
  by simp [storeRecord]
@[simp] theorem storeRecord_lanes (b : BerthIx) (r : TripRecord) (s : State) : (storeRecord b r s).lanes = s.lanes :=
  by simp [storeRecord]
@[simp] theorem storeRecord_recent (b : BerthIx) (r : TripRecord) (s : State) : (storeRecord b r s).recent = s.recent :=
  by simp [storeRecord]
@[simp] theorem storeRecord_deny (b : BerthIx) (r : TripRecord) (s : State) : (storeRecord b r s).deny = s.deny :=
  by simp [storeRecord]
@[simp] theorem storeRecord_draws (b : BerthIx) (r : TripRecord) (s : State) : (storeRecord b r s).draws = s.draws :=
  by simp [storeRecord]
@[simp] theorem storeRecord_pending (b : BerthIx) (r : TripRecord) (s : State) : (storeRecord b r s).pending = s.pending :=
  by simp [storeRecord]

/-! ### offerRecord -/

@[simp] theorem offerRecord_runTime (b : BerthIx) (r : TripRecord) (s : State) : (offerRecord b r s).runTime = s.runTime := by
  unfold offerRecord
  split <;> simp
@[simp] theorem offerRecord_supervisor (b : BerthIx) (r : TripRecord) (s : State) : (offerRecord b r s).supervisor = s.supervisor := by
  unfold offerRecord
  split <;> simp
@[simp] theorem offerRecord_clock (b : BerthIx) (r : TripRecord) (s : State) : (offerRecord b r s).clock = s.clock := by
  unfold offerRecord
  split <;> simp
@[simp] theorem offerRecord_tariff (b : BerthIx) (r : TripRecord) (s : State) : (offerRecord b r s).tariff = s.tariff := by
  unfold offerRecord
  split <;> simp
@[simp] theorem offerRecord_lanes (b : BerthIx) (r : TripRecord) (s : State) : (offerRecord b r s).lanes = s.lanes := by
  unfold offerRecord
  split <;> simp
@[simp] theorem offerRecord_recent (b : BerthIx) (r : TripRecord) (s : State) : (offerRecord b r s).recent = s.recent := by
  unfold offerRecord
  split <;> simp
@[simp] theorem offerRecord_deny (b : BerthIx) (r : TripRecord) (s : State) : (offerRecord b r s).deny = s.deny := by
  unfold offerRecord
  split <;> simp
@[simp] theorem offerRecord_draws (b : BerthIx) (r : TripRecord) (s : State) : (offerRecord b r s).draws = s.draws := by
  unfold offerRecord
  split <;> simp
@[simp] theorem offerRecord_pending (b : BerthIx) (r : TripRecord) (s : State) : (offerRecord b r s).pending = s.pending := by
  unfold offerRecord
  split <;> simp

/-! ### depart -/

@[simp] theorem depart_runTime (b : BerthIx) (t : Trip) (s : State) : (depart b t s).runTime = s.runTime :=
  by simp [depart]
@[simp] theorem depart_supervisor (b : BerthIx) (t : Trip) (s : State) : (depart b t s).supervisor = s.supervisor :=
  by simp [depart]
@[simp] theorem depart_clock (b : BerthIx) (t : Trip) (s : State) : (depart b t s).clock = s.clock := by simp [depart]
@[simp] theorem depart_tariff (b : BerthIx) (t : Trip) (s : State) : (depart b t s).tariff = s.tariff :=
  by simp [depart]
@[simp] theorem depart_lanes (b : BerthIx) (t : Trip) (s : State) : (depart b t s).lanes = s.lanes := by simp [depart]
@[simp] theorem depart_recent (b : BerthIx) (t : Trip) (s : State) : (depart b t s).recent = s.recent :=
  by simp [depart]
@[simp] theorem depart_deny (b : BerthIx) (t : Trip) (s : State) : (depart b t s).deny = s.deny := by simp [depart]
@[simp] theorem depart_draws (b : BerthIx) (t : Trip) (s : State) : (depart b t s).draws = s.draws := by simp [depart]
@[simp] theorem depart_pending (b : BerthIx) (t : Trip) (s : State) : (depart b t s).pending = s.pending :=
  by simp [depart]

/-! ### settle -/

@[simp] theorem settle_runTime (b : BerthIx) (s : State) : (settle b s).runTime = s.runTime := by
  unfold settle
  repeat' split
  all_goals simp
@[simp] theorem settle_supervisor (b : BerthIx) (s : State) : (settle b s).supervisor = s.supervisor := by
  unfold settle
  repeat' split
  all_goals simp
@[simp] theorem settle_clock (b : BerthIx) (s : State) : (settle b s).clock = s.clock := by
  unfold settle
  repeat' split
  all_goals simp
@[simp] theorem settle_tariff (b : BerthIx) (s : State) : (settle b s).tariff = s.tariff := by
  unfold settle
  repeat' split
  all_goals simp
@[simp] theorem settle_lanes (b : BerthIx) (s : State) : (settle b s).lanes = s.lanes := by
  unfold settle
  repeat' split
  all_goals simp
@[simp] theorem settle_recent (b : BerthIx) (s : State) : (settle b s).recent = s.recent := by
  unfold settle
  repeat' split
  all_goals simp
@[simp] theorem settle_deny (b : BerthIx) (s : State) : (settle b s).deny = s.deny := by
  unfold settle
  repeat' split
  all_goals simp
@[simp] theorem settle_draws (b : BerthIx) (s : State) : (settle b s).draws = s.draws := by
  unfold settle
  repeat' split
  all_goals simp
@[simp] theorem settle_pending (b : BerthIx) (s : State) : (settle b s).pending = s.pending := by
  unfold settle
  repeat' split
  all_goals simp

/-! ### closeBerth -/

@[simp] theorem closeBerth_runTime (b : BerthIx) (cause : CloseCause) (s : State) : (closeBerth b cause s).runTime = s.runTime :=
  by simp [closeBerth]
@[simp] theorem closeBerth_supervisor (b : BerthIx) (cause : CloseCause) (s : State) : (closeBerth b cause s).supervisor = s.supervisor :=
  by simp [closeBerth]
@[simp] theorem closeBerth_clock (b : BerthIx) (cause : CloseCause) (s : State) : (closeBerth b cause s).clock = s.clock :=
  by simp [closeBerth]
@[simp] theorem closeBerth_tariff (b : BerthIx) (cause : CloseCause) (s : State) : (closeBerth b cause s).tariff = s.tariff :=
  by simp [closeBerth]
@[simp] theorem closeBerth_lanes (b : BerthIx) (cause : CloseCause) (s : State) : (closeBerth b cause s).lanes = s.lanes :=
  by simp [closeBerth]
@[simp] theorem closeBerth_recent (b : BerthIx) (cause : CloseCause) (s : State) : (closeBerth b cause s).recent = s.recent :=
  by simp [closeBerth]
@[simp] theorem closeBerth_deny (b : BerthIx) (cause : CloseCause) (s : State) : (closeBerth b cause s).deny = s.deny :=
  by simp [closeBerth]
@[simp] theorem closeBerth_draws (b : BerthIx) (cause : CloseCause) (s : State) : (closeBerth b cause s).draws = s.draws :=
  by simp [closeBerth]
@[simp] theorem closeBerth_pending (b : BerthIx) (cause : CloseCause) (s : State) : (closeBerth b cause s).pending = s.pending :=
  by simp [closeBerth]

/-! ### closeWhenFull -/

@[simp] theorem closeWhenFull_runTime (b : BerthIx) (s : State) : (closeWhenFull b s).runTime = s.runTime := by
  unfold closeWhenFull
  repeat' split
  all_goals simp
@[simp] theorem closeWhenFull_supervisor (b : BerthIx) (s : State) : (closeWhenFull b s).supervisor = s.supervisor := by
  unfold closeWhenFull
  repeat' split
  all_goals simp
@[simp] theorem closeWhenFull_clock (b : BerthIx) (s : State) : (closeWhenFull b s).clock = s.clock := by
  unfold closeWhenFull
  repeat' split
  all_goals simp
@[simp] theorem closeWhenFull_tariff (b : BerthIx) (s : State) : (closeWhenFull b s).tariff = s.tariff := by
  unfold closeWhenFull
  repeat' split
  all_goals simp
@[simp] theorem closeWhenFull_lanes (b : BerthIx) (s : State) : (closeWhenFull b s).lanes = s.lanes := by
  unfold closeWhenFull
  repeat' split
  all_goals simp
@[simp] theorem closeWhenFull_recent (b : BerthIx) (s : State) : (closeWhenFull b s).recent = s.recent := by
  unfold closeWhenFull
  repeat' split
  all_goals simp
@[simp] theorem closeWhenFull_deny (b : BerthIx) (s : State) : (closeWhenFull b s).deny = s.deny := by
  unfold closeWhenFull
  repeat' split
  all_goals simp
@[simp] theorem closeWhenFull_draws (b : BerthIx) (s : State) : (closeWhenFull b s).draws = s.draws := by
  unfold closeWhenFull
  repeat' split
  all_goals simp
@[simp] theorem closeWhenFull_pending (b : BerthIx) (s : State) : (closeWhenFull b s).pending = s.pending := by
  unfold closeWhenFull
  repeat' split
  all_goals simp

/-! ### closeAtDeparture -/

@[simp] theorem closeAtDeparture_runTime (b : BerthIx) (s : State) : (closeAtDeparture b s).runTime = s.runTime := by
  unfold closeAtDeparture
  split <;> simp
@[simp] theorem closeAtDeparture_supervisor (b : BerthIx) (s : State) : (closeAtDeparture b s).supervisor = s.supervisor := by
  unfold closeAtDeparture
  split <;> simp
@[simp] theorem closeAtDeparture_clock (b : BerthIx) (s : State) : (closeAtDeparture b s).clock = s.clock := by
  unfold closeAtDeparture
  split <;> simp
@[simp] theorem closeAtDeparture_tariff (b : BerthIx) (s : State) : (closeAtDeparture b s).tariff = s.tariff := by
  unfold closeAtDeparture
  split <;> simp
@[simp] theorem closeAtDeparture_lanes (b : BerthIx) (s : State) : (closeAtDeparture b s).lanes = s.lanes := by
  unfold closeAtDeparture
  split <;> simp
@[simp] theorem closeAtDeparture_recent (b : BerthIx) (s : State) : (closeAtDeparture b s).recent = s.recent := by
  unfold closeAtDeparture
  split <;> simp
@[simp] theorem closeAtDeparture_deny (b : BerthIx) (s : State) : (closeAtDeparture b s).deny = s.deny := by
  unfold closeAtDeparture
  split <;> simp
@[simp] theorem closeAtDeparture_draws (b : BerthIx) (s : State) : (closeAtDeparture b s).draws = s.draws := by
  unfold closeAtDeparture
  split <;> simp
@[simp] theorem closeAtDeparture_pending (b : BerthIx) (s : State) : (closeAtDeparture b s).pending = s.pending := by
  unfold closeAtDeparture
  split <;> simp

/-! ### tripEvent -/

@[simp] theorem tripEvent_runTime (b : BerthIx) (fwd : Bool) (f : Trip → Trip) (s : State) : (tripEvent b fwd f s).runTime = s.runTime := by
  unfold tripEvent
  dsimp only
  repeat' split
  all_goals simp
@[simp] theorem tripEvent_supervisor (b : BerthIx) (fwd : Bool) (f : Trip → Trip) (s : State) : (tripEvent b fwd f s).supervisor = s.supervisor := by
  unfold tripEvent
  dsimp only
  repeat' split
  all_goals simp
@[simp] theorem tripEvent_clock (b : BerthIx) (fwd : Bool) (f : Trip → Trip) (s : State) : (tripEvent b fwd f s).clock = s.clock := by
  unfold tripEvent
  dsimp only
  repeat' split
  all_goals simp
@[simp] theorem tripEvent_tariff (b : BerthIx) (fwd : Bool) (f : Trip → Trip) (s : State) : (tripEvent b fwd f s).tariff = s.tariff := by
  unfold tripEvent
  dsimp only
  repeat' split
  all_goals simp
@[simp] theorem tripEvent_lanes (b : BerthIx) (fwd : Bool) (f : Trip → Trip) (s : State) : (tripEvent b fwd f s).lanes = s.lanes := by
  unfold tripEvent
  dsimp only
  repeat' split
  all_goals simp
@[simp] theorem tripEvent_recent (b : BerthIx) (fwd : Bool) (f : Trip → Trip) (s : State) : (tripEvent b fwd f s).recent = s.recent := by
  unfold tripEvent
  dsimp only
  repeat' split
  all_goals simp
@[simp] theorem tripEvent_deny (b : BerthIx) (fwd : Bool) (f : Trip → Trip) (s : State) : (tripEvent b fwd f s).deny = s.deny := by
  unfold tripEvent
  dsimp only
  repeat' split
  all_goals simp
@[simp] theorem tripEvent_draws (b : BerthIx) (fwd : Bool) (f : Trip → Trip) (s : State) : (tripEvent b fwd f s).draws = s.draws := by
  unfold tripEvent
  dsimp only
  repeat' split
  all_goals simp
@[simp] theorem tripEvent_pending (b : BerthIx) (fwd : Bool) (f : Trip → Trip) (s : State) : (tripEvent b fwd f s).pending = s.pending := by
  unfold tripEvent
  dsimp only
  repeat' split
  all_goals simp

/-! ### berthConsumption -/

@[simp] theorem berthConsumption_runTime (b : BerthIx) (s : State) : (berthConsumption b s).runTime = s.runTime :=
  by simp [berthConsumption]
@[simp] theorem berthConsumption_supervisor (b : BerthIx) (s : State) : (berthConsumption b s).supervisor = s.supervisor :=
  by simp [berthConsumption]
@[simp] theorem berthConsumption_clock (b : BerthIx) (s : State) : (berthConsumption b s).clock = s.clock :=
  by simp [berthConsumption]
@[simp] theorem berthConsumption_tariff (b : BerthIx) (s : State) : (berthConsumption b s).tariff = s.tariff :=
  by simp [berthConsumption]
@[simp] theorem berthConsumption_lanes (b : BerthIx) (s : State) : (berthConsumption b s).lanes = s.lanes :=
  by simp [berthConsumption]
@[simp] theorem berthConsumption_recent (b : BerthIx) (s : State) : (berthConsumption b s).recent = s.recent :=
  by simp [berthConsumption]
@[simp] theorem berthConsumption_deny (b : BerthIx) (s : State) : (berthConsumption b s).deny = s.deny :=
  by simp [berthConsumption]
@[simp] theorem berthConsumption_draws (b : BerthIx) (s : State) : (berthConsumption b s).draws = s.draws :=
  by simp [berthConsumption]
@[simp] theorem berthConsumption_pending (b : BerthIx) (s : State) : (berthConsumption b s).pending = s.pending :=
  by simp [berthConsumption]

/-! ### berthPassage -/

@[simp] theorem berthPassage_runTime (m : Movement) (eg : Bool) (b : BerthIx) (s : State) : (berthPassage m eg b s).runTime = s.runTime :=
  by simp [berthPassage]
@[simp] theorem berthPassage_supervisor (m : Movement) (eg : Bool) (b : BerthIx) (s : State) : (berthPassage m eg b s).supervisor = s.supervisor :=
  by simp [berthPassage]
@[simp] theorem berthPassage_clock (m : Movement) (eg : Bool) (b : BerthIx) (s : State) : (berthPassage m eg b s).clock = s.clock :=
  by simp [berthPassage]
@[simp] theorem berthPassage_tariff (m : Movement) (eg : Bool) (b : BerthIx) (s : State) : (berthPassage m eg b s).tariff = s.tariff :=
  by simp [berthPassage]
@[simp] theorem berthPassage_lanes (m : Movement) (eg : Bool) (b : BerthIx) (s : State) : (berthPassage m eg b s).lanes = s.lanes :=
  by simp [berthPassage]
@[simp] theorem berthPassage_recent (m : Movement) (eg : Bool) (b : BerthIx) (s : State) : (berthPassage m eg b s).recent = s.recent :=
  by simp [berthPassage]
@[simp] theorem berthPassage_deny (m : Movement) (eg : Bool) (b : BerthIx) (s : State) : (berthPassage m eg b s).deny = s.deny :=
  by simp [berthPassage]
@[simp] theorem berthPassage_draws (m : Movement) (eg : Bool) (b : BerthIx) (s : State) : (berthPassage m eg b s).draws = s.draws :=
  by simp [berthPassage]
@[simp] theorem berthPassage_pending (m : Movement) (eg : Bool) (b : BerthIx) (s : State) : (berthPassage m eg b s).pending = s.pending :=
  by simp [berthPassage]

/-! ### berthVoid -/

@[simp] theorem berthVoid_runTime (b : BerthIx) (s : State) : (berthVoid b s).runTime = s.runTime :=
  by simp [berthVoid]
@[simp] theorem berthVoid_supervisor (b : BerthIx) (s : State) : (berthVoid b s).supervisor = s.supervisor :=
  by simp [berthVoid]
@[simp] theorem berthVoid_clock (b : BerthIx) (s : State) : (berthVoid b s).clock = s.clock := by simp [berthVoid]
@[simp] theorem berthVoid_tariff (b : BerthIx) (s : State) : (berthVoid b s).tariff = s.tariff := by simp [berthVoid]
@[simp] theorem berthVoid_lanes (b : BerthIx) (s : State) : (berthVoid b s).lanes = s.lanes := by simp [berthVoid]
@[simp] theorem berthVoid_recent (b : BerthIx) (s : State) : (berthVoid b s).recent = s.recent := by simp [berthVoid]
@[simp] theorem berthVoid_deny (b : BerthIx) (s : State) : (berthVoid b s).deny = s.deny := by simp [berthVoid]
@[simp] theorem berthVoid_draws (b : BerthIx) (s : State) : (berthVoid b s).draws = s.draws := by simp [berthVoid]
@[simp] theorem berthVoid_pending (b : BerthIx) (s : State) : (berthVoid b s).pending = s.pending :=
  by simp [berthVoid]

/-! ### countRefusal -/

@[simp] theorem countRefusal_runTime (b : BerthIx) (s : State) : (countRefusal b s).runTime = s.runTime := by
  unfold countRefusal
  dsimp only
  repeat' split
  all_goals simp
@[simp] theorem countRefusal_link (b : BerthIx) (s : State) : (countRefusal b s).link = s.link := by
  unfold countRefusal
  dsimp only
  repeat' split
  all_goals simp
@[simp] theorem countRefusal_supervisor (b : BerthIx) (s : State) : (countRefusal b s).supervisor = s.supervisor := by
  unfold countRefusal
  dsimp only
  repeat' split
  all_goals simp
@[simp] theorem countRefusal_clock (b : BerthIx) (s : State) : (countRefusal b s).clock = s.clock := by
  unfold countRefusal
  dsimp only
  repeat' split
  all_goals simp
@[simp] theorem countRefusal_tariff (b : BerthIx) (s : State) : (countRefusal b s).tariff = s.tariff := by
  unfold countRefusal
  dsimp only
  repeat' split
  all_goals simp
@[simp] theorem countRefusal_lanes (b : BerthIx) (s : State) : (countRefusal b s).lanes = s.lanes := by
  unfold countRefusal
  dsimp only
  repeat' split
  all_goals simp
@[simp] theorem countRefusal_recent (b : BerthIx) (s : State) : (countRefusal b s).recent = s.recent := by
  unfold countRefusal
  dsimp only
  repeat' split
  all_goals simp
@[simp] theorem countRefusal_deny (b : BerthIx) (s : State) : (countRefusal b s).deny = s.deny := by
  unfold countRefusal
  dsimp only
  repeat' split
  all_goals simp
@[simp] theorem countRefusal_journal (b : BerthIx) (s : State) : (countRefusal b s).journal = s.journal := by
  unfold countRefusal
  dsimp only
  repeat' split
  all_goals simp
@[simp] theorem countRefusal_draws (b : BerthIx) (s : State) : (countRefusal b s).draws = s.draws := by
  unfold countRefusal
  dsimp only
  repeat' split
  all_goals simp
@[simp] theorem countRefusal_pending (b : BerthIx) (s : State) : (countRefusal b s).pending = s.pending := by
  unfold countRefusal
  dsimp only
  repeat' split
  all_goals simp

/-! ### serveWaiting -/

@[simp] theorem serveWaiting_runTime (s : State) : (serveWaiting s).runTime = s.runTime := by
  unfold serveWaiting
  dsimp only
  repeat' split
  all_goals simp
@[simp] theorem serveWaiting_supervisor (s : State) : (serveWaiting s).supervisor = s.supervisor := by
  unfold serveWaiting
  dsimp only
  repeat' split
  all_goals simp
@[simp] theorem serveWaiting_clock (s : State) : (serveWaiting s).clock = s.clock := by
  unfold serveWaiting
  dsimp only
  repeat' split
  all_goals simp
@[simp] theorem serveWaiting_tariff (s : State) : (serveWaiting s).tariff = s.tariff := by
  unfold serveWaiting
  dsimp only
  repeat' split
  all_goals simp
@[simp] theorem serveWaiting_lanes (s : State) : (serveWaiting s).lanes = s.lanes := by
  unfold serveWaiting
  dsimp only
  repeat' split
  all_goals simp
@[simp] theorem serveWaiting_recent (s : State) : (serveWaiting s).recent = s.recent := by
  unfold serveWaiting
  dsimp only
  repeat' split
  all_goals simp
@[simp] theorem serveWaiting_deny (s : State) : (serveWaiting s).deny = s.deny := by
  unfold serveWaiting
  dsimp only
  repeat' split
  all_goals simp
@[simp] theorem serveWaiting_draws (s : State) : (serveWaiting s).draws = s.draws := by
  unfold serveWaiting
  dsimp only
  repeat' split
  all_goals simp
@[simp] theorem serveWaiting_pending (s : State) : (serveWaiting s).pending = s.pending := by
  unfold serveWaiting
  dsimp only
  repeat' split
  all_goals simp

end Sys2Proof.Machine
end

