-- ==== Sys2Proof/Laws/Frames2.lean ====
section
/-! SUPPORT. What each operation leaves alone, one lemma for each field of State. -/

namespace Sys2Proof.Machine

open Sys2Proof

/-! ### settleBerthOf -/

@[simp] theorem settleBerthOf_runTime (i : LaneIx) (s : State) : (settleBerthOf i s).runTime = s.runTime := by
  unfold settleBerthOf
  split <;> simp
@[simp] theorem settleBerthOf_supervisor (i : LaneIx) (s : State) : (settleBerthOf i s).supervisor = s.supervisor := by
  unfold settleBerthOf
  split <;> simp
@[simp] theorem settleBerthOf_clock (i : LaneIx) (s : State) : (settleBerthOf i s).clock = s.clock := by
  unfold settleBerthOf
  split <;> simp
@[simp] theorem settleBerthOf_tariff (i : LaneIx) (s : State) : (settleBerthOf i s).tariff = s.tariff := by
  unfold settleBerthOf
  split <;> simp
@[simp] theorem settleBerthOf_lanes (i : LaneIx) (s : State) : (settleBerthOf i s).lanes = s.lanes := by
  unfold settleBerthOf
  split <;> simp
@[simp] theorem settleBerthOf_recent (i : LaneIx) (s : State) : (settleBerthOf i s).recent = s.recent := by
  unfold settleBerthOf
  split <;> simp
@[simp] theorem settleBerthOf_deny (i : LaneIx) (s : State) : (settleBerthOf i s).deny = s.deny := by
  unfold settleBerthOf
  split <;> simp
@[simp] theorem settleBerthOf_draws (i : LaneIx) (s : State) : (settleBerthOf i s).draws = s.draws := by
  unfold settleBerthOf
  split <;> simp
@[simp] theorem settleBerthOf_pending (i : LaneIx) (s : State) : (settleBerthOf i s).pending = s.pending := by
  unfold settleBerthOf
  split <;> simp

/-! ### faultLane -/

@[simp] theorem faultLane_runTime (i : LaneIx) (c : LaneFaultCause) (s : State) : (faultLane i c s).runTime = s.runTime :=
  by simp [faultLane]
@[simp] theorem faultLane_supervisor (i : LaneIx) (c : LaneFaultCause) (s : State) : (faultLane i c s).supervisor = s.supervisor :=
  by simp [faultLane]
@[simp] theorem faultLane_clock (i : LaneIx) (c : LaneFaultCause) (s : State) : (faultLane i c s).clock = s.clock :=
  by simp [faultLane]
@[simp] theorem faultLane_tariff (i : LaneIx) (c : LaneFaultCause) (s : State) : (faultLane i c s).tariff = s.tariff :=
  by simp [faultLane]
@[simp] theorem faultLane_recent (i : LaneIx) (c : LaneFaultCause) (s : State) : (faultLane i c s).recent = s.recent :=
  by simp [faultLane]
@[simp] theorem faultLane_deny (i : LaneIx) (c : LaneFaultCause) (s : State) : (faultLane i c s).deny = s.deny :=
  by simp [faultLane]
@[simp] theorem faultLane_draws (i : LaneIx) (c : LaneFaultCause) (s : State) : (faultLane i c s).draws = s.draws :=
  by simp [faultLane]
@[simp] theorem faultLane_pending (i : LaneIx) (c : LaneFaultCause) (s : State) : (faultLane i c s).pending = s.pending :=
  by simp [faultLane]

/-! ### dropHold -/

@[simp] theorem dropHold_runTime (i : LaneIx) (c : VoidCause) (h : Hold) (next : Lane → Lane) (s : State) : (dropHold i c h next s).runTime = s.runTime :=
  by simp [dropHold]
@[simp] theorem dropHold_supervisor (i : LaneIx) (c : VoidCause) (h : Hold) (next : Lane → Lane) (s : State) : (dropHold i c h next s).supervisor = s.supervisor :=
  by simp [dropHold]
@[simp] theorem dropHold_clock (i : LaneIx) (c : VoidCause) (h : Hold) (next : Lane → Lane) (s : State) : (dropHold i c h next s).clock = s.clock :=
  by simp [dropHold]
@[simp] theorem dropHold_tariff (i : LaneIx) (c : VoidCause) (h : Hold) (next : Lane → Lane) (s : State) : (dropHold i c h next s).tariff = s.tariff :=
  by simp [dropHold]
@[simp] theorem dropHold_berths (i : LaneIx) (c : VoidCause) (h : Hold) (next : Lane → Lane) (s : State) : (dropHold i c h next s).berths = s.berths :=
  by simp [dropHold]
@[simp] theorem dropHold_deny (i : LaneIx) (c : VoidCause) (h : Hold) (next : Lane → Lane) (s : State) : (dropHold i c h next s).deny = s.deny :=
  by simp [dropHold]
@[simp] theorem dropHold_journal (i : LaneIx) (c : VoidCause) (h : Hold) (next : Lane → Lane) (s : State) : (dropHold i c h next s).journal = s.journal :=
  by simp [dropHold]
@[simp] theorem dropHold_draws (i : LaneIx) (c : VoidCause) (h : Hold) (next : Lane → Lane) (s : State) : (dropHold i c h next s).draws = s.draws :=
  by simp [dropHold]
@[simp] theorem dropHold_pending (i : LaneIx) (c : VoidCause) (h : Hold) (next : Lane → Lane) (s : State) : (dropHold i c h next s).pending = s.pending :=
  by simp [dropHold]

/-! ### voidHold -/

@[simp] theorem voidHold_runTime (i : LaneIx) (c : VoidCause) (h : Hold) (next : Lane → Lane) (s : State) : (voidHold i c h next s).runTime = s.runTime := by
  unfold voidHold reportTo
  split <;> simp
@[simp] theorem voidHold_supervisor (i : LaneIx) (c : VoidCause) (h : Hold) (next : Lane → Lane) (s : State) : (voidHold i c h next s).supervisor = s.supervisor := by
  unfold voidHold reportTo
  split <;> simp
@[simp] theorem voidHold_clock (i : LaneIx) (c : VoidCause) (h : Hold) (next : Lane → Lane) (s : State) : (voidHold i c h next s).clock = s.clock := by
  unfold voidHold reportTo
  split <;> simp
@[simp] theorem voidHold_tariff (i : LaneIx) (c : VoidCause) (h : Hold) (next : Lane → Lane) (s : State) : (voidHold i c h next s).tariff = s.tariff := by
  unfold voidHold reportTo
  split <;> simp
@[simp] theorem voidHold_deny (i : LaneIx) (c : VoidCause) (h : Hold) (next : Lane → Lane) (s : State) : (voidHold i c h next s).deny = s.deny := by
  unfold voidHold reportTo
  split <;> simp
@[simp] theorem voidHold_draws (i : LaneIx) (c : VoidCause) (h : Hold) (next : Lane → Lane) (s : State) : (voidHold i c h next s).draws = s.draws := by
  unfold voidHold reportTo
  split <;> simp
@[simp] theorem voidHold_pending (i : LaneIx) (c : VoidCause) (h : Hold) (next : Lane → Lane) (s : State) : (voidHold i c h next s).pending = s.pending := by
  unfold voidHold reportTo
  split <;> simp

/-! ### consumeHold -/

@[simp] theorem consumeHold_runTime (i : LaneIx) (h : Hold) (s : State) : (consumeHold i h s).runTime = s.runTime := by
  unfold consumeHold reportTo
  split <;> simp
@[simp] theorem consumeHold_supervisor (i : LaneIx) (h : Hold) (s : State) : (consumeHold i h s).supervisor = s.supervisor := by
  unfold consumeHold reportTo
  split <;> simp
@[simp] theorem consumeHold_clock (i : LaneIx) (h : Hold) (s : State) : (consumeHold i h s).clock = s.clock := by
  unfold consumeHold reportTo
  split <;> simp
@[simp] theorem consumeHold_tariff (i : LaneIx) (h : Hold) (s : State) : (consumeHold i h s).tariff = s.tariff := by
  unfold consumeHold reportTo
  split <;> simp
@[simp] theorem consumeHold_deny (i : LaneIx) (h : Hold) (s : State) : (consumeHold i h s).deny = s.deny := by
  unfold consumeHold reportTo
  split <;> simp
@[simp] theorem consumeHold_draws (i : LaneIx) (h : Hold) (s : State) : (consumeHold i h s).draws = s.draws := by
  unfold consumeHold reportTo
  split <;> simp
@[simp] theorem consumeHold_pending (i : LaneIx) (h : Hold) (s : State) : (consumeHold i h s).pending = s.pending := by
  unfold consumeHold reportTo
  split <;> simp

/-! ### takeHold -/

@[simp] theorem takeHold_runTime (i : LaneIx) (h : Hold) (s : State) : (takeHold i h s).runTime = s.runTime := by
  unfold takeHold
  dsimp only
  repeat' split
  all_goals simp
@[simp] theorem takeHold_link (i : LaneIx) (h : Hold) (s : State) : (takeHold i h s).link = s.link := by
  unfold takeHold
  dsimp only
  repeat' split
  all_goals simp
@[simp] theorem takeHold_supervisor (i : LaneIx) (h : Hold) (s : State) : (takeHold i h s).supervisor = s.supervisor := by
  unfold takeHold
  dsimp only
  repeat' split
  all_goals simp
@[simp] theorem takeHold_clock (i : LaneIx) (h : Hold) (s : State) : (takeHold i h s).clock = s.clock := by
  unfold takeHold
  dsimp only
  repeat' split
  all_goals simp
@[simp] theorem takeHold_tariff (i : LaneIx) (h : Hold) (s : State) : (takeHold i h s).tariff = s.tariff := by
  unfold takeHold
  dsimp only
  repeat' split
  all_goals simp
@[simp] theorem takeHold_berths (i : LaneIx) (h : Hold) (s : State) : (takeHold i h s).berths = s.berths := by
  unfold takeHold
  dsimp only
  repeat' split
  all_goals simp
@[simp] theorem takeHold_recent (i : LaneIx) (h : Hold) (s : State) : (takeHold i h s).recent = s.recent := by
  unfold takeHold
  dsimp only
  repeat' split
  all_goals simp
@[simp] theorem takeHold_deny (i : LaneIx) (h : Hold) (s : State) : (takeHold i h s).deny = s.deny := by
  unfold takeHold
  dsimp only
  repeat' split
  all_goals simp
@[simp] theorem takeHold_journal (i : LaneIx) (h : Hold) (s : State) : (takeHold i h s).journal = s.journal := by
  unfold takeHold
  dsimp only
  repeat' split
  all_goals simp
@[simp] theorem takeHold_draws (i : LaneIx) (h : Hold) (s : State) : (takeHold i h s).draws = s.draws := by
  unfold takeHold
  dsimp only
  repeat' split
  all_goals simp
@[simp] theorem takeHold_pending (i : LaneIx) (h : Hold) (s : State) : (takeHold i h s).pending = s.pending := by
  unfold takeHold
  dsimp only
  repeat' split
  all_goals simp

/-! ### completeClosing -/

@[simp] theorem completeClosing_runTime (i : LaneIx) (s : State) : (completeClosing i s).runTime = s.runTime := by
  unfold completeClosing
  dsimp only
  repeat' split
  all_goals simp
@[simp] theorem completeClosing_supervisor (i : LaneIx) (s : State) : (completeClosing i s).supervisor = s.supervisor := by
  unfold completeClosing
  dsimp only
  repeat' split
  all_goals simp
@[simp] theorem completeClosing_clock (i : LaneIx) (s : State) : (completeClosing i s).clock = s.clock := by
  unfold completeClosing
  dsimp only
  repeat' split
  all_goals simp
@[simp] theorem completeClosing_tariff (i : LaneIx) (s : State) : (completeClosing i s).tariff = s.tariff := by
  unfold completeClosing
  dsimp only
  repeat' split
  all_goals simp
@[simp] theorem completeClosing_recent (i : LaneIx) (s : State) : (completeClosing i s).recent = s.recent := by
  unfold completeClosing
  dsimp only
  repeat' split
  all_goals simp
@[simp] theorem completeClosing_deny (i : LaneIx) (s : State) : (completeClosing i s).deny = s.deny := by
  unfold completeClosing
  dsimp only
  repeat' split
  all_goals simp
@[simp] theorem completeClosing_draws (i : LaneIx) (s : State) : (completeClosing i s).draws = s.draws := by
  unfold completeClosing
  dsimp only
  repeat' split
  all_goals simp
@[simp] theorem completeClosing_pending (i : LaneIx) (s : State) : (completeClosing i s).pending = s.pending := by
  unfold completeClosing
  dsimp only
  repeat' split
  all_goals simp

/-! ### startClosing -/

@[simp] theorem startClosing_runTime (i : LaneIx) (f : Lane → Lane) (s : State) : (startClosing i f s).runTime = s.runTime := by
  unfold startClosing
  dsimp only
  repeat' split
  all_goals simp
@[simp] theorem startClosing_supervisor (i : LaneIx) (f : Lane → Lane) (s : State) : (startClosing i f s).supervisor = s.supervisor := by
  unfold startClosing
  dsimp only
  repeat' split
  all_goals simp
@[simp] theorem startClosing_clock (i : LaneIx) (f : Lane → Lane) (s : State) : (startClosing i f s).clock = s.clock := by
  unfold startClosing
  dsimp only
  repeat' split
  all_goals simp
@[simp] theorem startClosing_tariff (i : LaneIx) (f : Lane → Lane) (s : State) : (startClosing i f s).tariff = s.tariff := by
  unfold startClosing
  dsimp only
  repeat' split
  all_goals simp
@[simp] theorem startClosing_recent (i : LaneIx) (f : Lane → Lane) (s : State) : (startClosing i f s).recent = s.recent := by
  unfold startClosing
  dsimp only
  repeat' split
  all_goals simp
@[simp] theorem startClosing_deny (i : LaneIx) (f : Lane → Lane) (s : State) : (startClosing i f s).deny = s.deny := by
  unfold startClosing
  dsimp only
  repeat' split
  all_goals simp
@[simp] theorem startClosing_draws (i : LaneIx) (f : Lane → Lane) (s : State) : (startClosing i f s).draws = s.draws := by
  unfold startClosing
  dsimp only
  repeat' split
  all_goals simp
@[simp] theorem startClosing_pending (i : LaneIx) (f : Lane → Lane) (s : State) : (startClosing i f s).pending = s.pending := by
  unfold startClosing
  dsimp only
  repeat' split
  all_goals simp

/-! ### followClear -/

@[simp] theorem followClear_runTime (i : LaneIx) (s : State) : (followClear i s).runTime = s.runTime := by
  unfold followClear
  dsimp only
  repeat' split
  all_goals simp
@[simp] theorem followClear_link (i : LaneIx) (s : State) : (followClear i s).link = s.link := by
  unfold followClear
  dsimp only
  repeat' split
  all_goals simp
@[simp] theorem followClear_supervisor (i : LaneIx) (s : State) : (followClear i s).supervisor = s.supervisor := by
  unfold followClear
  dsimp only
  repeat' split
  all_goals simp
@[simp] theorem followClear_clock (i : LaneIx) (s : State) : (followClear i s).clock = s.clock := by
  unfold followClear
  dsimp only
  repeat' split
  all_goals simp
@[simp] theorem followClear_tariff (i : LaneIx) (s : State) : (followClear i s).tariff = s.tariff := by
  unfold followClear
  dsimp only
  repeat' split
  all_goals simp
@[simp] theorem followClear_berths (i : LaneIx) (s : State) : (followClear i s).berths = s.berths := by
  unfold followClear
  dsimp only
  repeat' split
  all_goals simp
@[simp] theorem followClear_lamps (i : LaneIx) (s : State) : (followClear i s).lamps = s.lamps := by
  unfold followClear
  dsimp only
  repeat' split
  all_goals simp
@[simp] theorem followClear_recent (i : LaneIx) (s : State) : (followClear i s).recent = s.recent := by
  unfold followClear
  dsimp only
  repeat' split
  all_goals simp
@[simp] theorem followClear_deny (i : LaneIx) (s : State) : (followClear i s).deny = s.deny := by
  unfold followClear
  dsimp only
  repeat' split
  all_goals simp
@[simp] theorem followClear_journal (i : LaneIx) (s : State) : (followClear i s).journal = s.journal := by
  unfold followClear
  dsimp only
  repeat' split
  all_goals simp
@[simp] theorem followClear_draws (i : LaneIx) (s : State) : (followClear i s).draws = s.draws := by
  unfold followClear
  dsimp only
  repeat' split
  all_goals simp
@[simp] theorem followClear_pending (i : LaneIx) (s : State) : (followClear i s).pending = s.pending := by
  unfold followClear
  dsimp only
  repeat' split
  all_goals simp

/-! ### reportPassage -/

@[simp] theorem reportPassage_runTime (i : LaneIx) (m : Movement) (eg : Bool) (s : State) : (reportPassage i m eg s).runTime = s.runTime := by
  unfold reportPassage reportTo
  repeat' split
  all_goals simp
@[simp] theorem reportPassage_supervisor (i : LaneIx) (m : Movement) (eg : Bool) (s : State) : (reportPassage i m eg s).supervisor = s.supervisor := by
  unfold reportPassage reportTo
  repeat' split
  all_goals simp
@[simp] theorem reportPassage_clock (i : LaneIx) (m : Movement) (eg : Bool) (s : State) : (reportPassage i m eg s).clock = s.clock := by
  unfold reportPassage reportTo
  repeat' split
  all_goals simp
@[simp] theorem reportPassage_tariff (i : LaneIx) (m : Movement) (eg : Bool) (s : State) : (reportPassage i m eg s).tariff = s.tariff := by
  unfold reportPassage reportTo
  repeat' split
  all_goals simp
@[simp] theorem reportPassage_lanes (i : LaneIx) (m : Movement) (eg : Bool) (s : State) : (reportPassage i m eg s).lanes = s.lanes := by
  unfold reportPassage reportTo
  repeat' split
  all_goals simp
@[simp] theorem reportPassage_recent (i : LaneIx) (m : Movement) (eg : Bool) (s : State) : (reportPassage i m eg s).recent = s.recent := by
  unfold reportPassage reportTo
  repeat' split
  all_goals simp
@[simp] theorem reportPassage_deny (i : LaneIx) (m : Movement) (eg : Bool) (s : State) : (reportPassage i m eg s).deny = s.deny := by
  unfold reportPassage reportTo
  repeat' split
  all_goals simp
@[simp] theorem reportPassage_draws (i : LaneIx) (m : Movement) (eg : Bool) (s : State) : (reportPassage i m eg s).draws = s.draws := by
  unfold reportPassage reportTo
  repeat' split
  all_goals simp
@[simp] theorem reportPassage_pending (i : LaneIx) (m : Movement) (eg : Bool) (s : State) : (reportPassage i m eg s).pending = s.pending := by
  unfold reportPassage reportTo
  repeat' split
  all_goals simp

/-! ### takeMovement -/

@[simp] theorem takeMovement_runTime (i : LaneIx) (m : Movement) (entry : EntrySide) (s : State) : (takeMovement i m entry s).runTime = s.runTime := by
  unfold takeMovement reportTo
  dsimp only
  repeat' split
  all_goals simp
@[simp] theorem takeMovement_supervisor (i : LaneIx) (m : Movement) (entry : EntrySide) (s : State) : (takeMovement i m entry s).supervisor = s.supervisor := by
  unfold takeMovement reportTo
  dsimp only
  repeat' split
  all_goals simp
@[simp] theorem takeMovement_clock (i : LaneIx) (m : Movement) (entry : EntrySide) (s : State) : (takeMovement i m entry s).clock = s.clock := by
  unfold takeMovement reportTo
  dsimp only
  repeat' split
  all_goals simp
@[simp] theorem takeMovement_tariff (i : LaneIx) (m : Movement) (entry : EntrySide) (s : State) : (takeMovement i m entry s).tariff = s.tariff := by
  unfold takeMovement reportTo
  dsimp only
  repeat' split
  all_goals simp
@[simp] theorem takeMovement_deny (i : LaneIx) (m : Movement) (entry : EntrySide) (s : State) : (takeMovement i m entry s).deny = s.deny := by
  unfold takeMovement reportTo
  dsimp only
  repeat' split
  all_goals simp
@[simp] theorem takeMovement_draws (i : LaneIx) (m : Movement) (entry : EntrySide) (s : State) : (takeMovement i m entry s).draws = s.draws := by
  unfold takeMovement reportTo
  dsimp only
  repeat' split
  all_goals simp
@[simp] theorem takeMovement_pending (i : LaneIx) (m : Movement) (entry : EntrySide) (s : State) : (takeMovement i m entry s).pending = s.pending := by
  unfold takeMovement reportTo
  dsimp only
  repeat' split
  all_goals simp

/-! ### takeBeams -/

@[simp] theorem takeBeams_runTime (i : LaneIx) (s : State) : (takeBeams i s).runTime = s.runTime := by
  unfold takeBeams
  dsimp only
  repeat' split
  all_goals simp
@[simp] theorem takeBeams_supervisor (i : LaneIx) (s : State) : (takeBeams i s).supervisor = s.supervisor := by
  unfold takeBeams
  dsimp only
  repeat' split
  all_goals simp
@[simp] theorem takeBeams_clock (i : LaneIx) (s : State) : (takeBeams i s).clock = s.clock := by
  unfold takeBeams
  dsimp only
  repeat' split
  all_goals simp
@[simp] theorem takeBeams_tariff (i : LaneIx) (s : State) : (takeBeams i s).tariff = s.tariff := by
  unfold takeBeams
  dsimp only
  repeat' split
  all_goals simp
@[simp] theorem takeBeams_deny (i : LaneIx) (s : State) : (takeBeams i s).deny = s.deny := by
  unfold takeBeams
  dsimp only
  repeat' split
  all_goals simp
@[simp] theorem takeBeams_draws (i : LaneIx) (s : State) : (takeBeams i s).draws = s.draws := by
  unfold takeBeams
  dsimp only
  repeat' split
  all_goals simp
@[simp] theorem takeBeams_pending (i : LaneIx) (s : State) : (takeBeams i s).pending = s.pending := by
  unfold takeBeams
  dsimp only
  repeat' split
  all_goals simp

/-! ### takeAccepted -/

@[simp] theorem takeAccepted_runTime (i : LaneIx) (l : Lane) (s : State) : (takeAccepted i l s).runTime = s.runTime := by
  unfold takeAccepted
  simp
@[simp] theorem takeAccepted_supervisor (i : LaneIx) (l : Lane) (s : State) : (takeAccepted i l s).supervisor = s.supervisor := by
  unfold takeAccepted
  simp
@[simp] theorem takeAccepted_clock (i : LaneIx) (l : Lane) (s : State) : (takeAccepted i l s).clock = s.clock := by
  unfold takeAccepted
  simp
@[simp] theorem takeAccepted_tariff (i : LaneIx) (l : Lane) (s : State) : (takeAccepted i l s).tariff = s.tariff := by
  unfold takeAccepted
  simp
@[simp] theorem takeAccepted_deny (i : LaneIx) (l : Lane) (s : State) : (takeAccepted i l s).deny = s.deny := by
  unfold takeAccepted
  simp
@[simp] theorem takeAccepted_draws (i : LaneIx) (l : Lane) (s : State) : (takeAccepted i l s).draws = s.draws := by
  unfold takeAccepted
  simp
@[simp] theorem takeAccepted_pending (i : LaneIx) (l : Lane) (s : State) : (takeAccepted i l s).pending = s.pending := by
  unfold takeAccepted
  simp

/-! ### beamRaw -/

@[simp] theorem beamRaw_runTime (i : LaneIx) (a b : Bool) (s : State) : (beamRaw i a b s).runTime = s.runTime := by
  unfold beamRaw
  dsimp only
  repeat' split
  all_goals simp
@[simp] theorem beamRaw_supervisor (i : LaneIx) (a b : Bool) (s : State) : (beamRaw i a b s).supervisor = s.supervisor := by
  unfold beamRaw
  dsimp only
  repeat' split
  all_goals simp
@[simp] theorem beamRaw_clock (i : LaneIx) (a b : Bool) (s : State) : (beamRaw i a b s).clock = s.clock := by
  unfold beamRaw
  dsimp only
  repeat' split
  all_goals simp
@[simp] theorem beamRaw_tariff (i : LaneIx) (a b : Bool) (s : State) : (beamRaw i a b s).tariff = s.tariff := by
  unfold beamRaw
  dsimp only
  repeat' split
  all_goals simp
@[simp] theorem beamRaw_deny (i : LaneIx) (a b : Bool) (s : State) : (beamRaw i a b s).deny = s.deny := by
  unfold beamRaw
  dsimp only
  repeat' split
  all_goals simp
@[simp] theorem beamRaw_draws (i : LaneIx) (a b : Bool) (s : State) : (beamRaw i a b s).draws = s.draws := by
  unfold beamRaw
  dsimp only
  repeat' split
  all_goals simp
@[simp] theorem beamRaw_pending (i : LaneIx) (a b : Bool) (s : State) : (beamRaw i a b s).pending = s.pending := by
  unfold beamRaw
  dsimp only
  repeat' split
  all_goals simp

/-! ### beamAccepted -/

@[simp] theorem beamAccepted_runTime (i : LaneIx) (s : State) : (beamAccepted i s).runTime = s.runTime := by
  unfold beamAccepted
  split <;> simp
@[simp] theorem beamAccepted_supervisor (i : LaneIx) (s : State) : (beamAccepted i s).supervisor = s.supervisor := by
  unfold beamAccepted
  split <;> simp
@[simp] theorem beamAccepted_clock (i : LaneIx) (s : State) : (beamAccepted i s).clock = s.clock := by
  unfold beamAccepted
  split <;> simp
@[simp] theorem beamAccepted_tariff (i : LaneIx) (s : State) : (beamAccepted i s).tariff = s.tariff := by
  unfold beamAccepted
  split <;> simp
@[simp] theorem beamAccepted_deny (i : LaneIx) (s : State) : (beamAccepted i s).deny = s.deny := by
  unfold beamAccepted
  split <;> simp
@[simp] theorem beamAccepted_draws (i : LaneIx) (s : State) : (beamAccepted i s).draws = s.draws := by
  unfold beamAccepted
  split <;> simp
@[simp] theorem beamAccepted_pending (i : LaneIx) (s : State) : (beamAccepted i s).pending = s.pending := by
  unfold beamAccepted
  split <;> simp

/-! ### senseChange -/

@[simp] theorem senseChange_runTime (i : LaneIx) (o : Bool) (s : State) : (senseChange i o s).runTime = s.runTime := by
  unfold senseChange
  dsimp only
  repeat' split
  all_goals simp
@[simp] theorem senseChange_supervisor (i : LaneIx) (o : Bool) (s : State) : (senseChange i o s).supervisor = s.supervisor := by
  unfold senseChange
  dsimp only
  repeat' split
  all_goals simp
@[simp] theorem senseChange_clock (i : LaneIx) (o : Bool) (s : State) : (senseChange i o s).clock = s.clock := by
  unfold senseChange
  dsimp only
  repeat' split
  all_goals simp
@[simp] theorem senseChange_tariff (i : LaneIx) (o : Bool) (s : State) : (senseChange i o s).tariff = s.tariff := by
  unfold senseChange
  dsimp only
  repeat' split
  all_goals simp
@[simp] theorem senseChange_recent (i : LaneIx) (o : Bool) (s : State) : (senseChange i o s).recent = s.recent := by
  unfold senseChange
  dsimp only
  repeat' split
  all_goals simp
@[simp] theorem senseChange_deny (i : LaneIx) (o : Bool) (s : State) : (senseChange i o s).deny = s.deny := by
  unfold senseChange
  dsimp only
  repeat' split
  all_goals simp
@[simp] theorem senseChange_draws (i : LaneIx) (o : Bool) (s : State) : (senseChange i o s).draws = s.draws := by
  unfold senseChange
  dsimp only
  repeat' split
  all_goals simp
@[simp] theorem senseChange_pending (i : LaneIx) (o : Bool) (s : State) : (senseChange i o s).pending = s.pending := by
  unfold senseChange
  dsimp only
  repeat' split
  all_goals simp

/-! ### barrierExpiry -/

@[simp] theorem barrierExpiry_runTime (i : LaneIx) (s : State) : (barrierExpiry i s).runTime = s.runTime := by
  unfold barrierExpiry reportTo
  repeat' split
  all_goals simp
@[simp] theorem barrierExpiry_supervisor (i : LaneIx) (s : State) : (barrierExpiry i s).supervisor = s.supervisor := by
  unfold barrierExpiry reportTo
  repeat' split
  all_goals simp
@[simp] theorem barrierExpiry_clock (i : LaneIx) (s : State) : (barrierExpiry i s).clock = s.clock := by
  unfold barrierExpiry reportTo
  repeat' split
  all_goals simp
@[simp] theorem barrierExpiry_tariff (i : LaneIx) (s : State) : (barrierExpiry i s).tariff = s.tariff := by
  unfold barrierExpiry reportTo
  repeat' split
  all_goals simp
@[simp] theorem barrierExpiry_deny (i : LaneIx) (s : State) : (barrierExpiry i s).deny = s.deny := by
  unfold barrierExpiry reportTo
  repeat' split
  all_goals simp
@[simp] theorem barrierExpiry_draws (i : LaneIx) (s : State) : (barrierExpiry i s).draws = s.draws := by
  unfold barrierExpiry reportTo
  repeat' split
  all_goals simp
@[simp] theorem barrierExpiry_pending (i : LaneIx) (s : State) : (barrierExpiry i s).pending = s.pending := by
  unfold barrierExpiry reportTo
  repeat' split
  all_goals simp

/-! ### passageExpiry -/

@[simp] theorem passageExpiry_runTime (i : LaneIx) (s : State) : (passageExpiry i s).runTime = s.runTime := by
  unfold passageExpiry
  repeat' split
  all_goals simp
@[simp] theorem passageExpiry_supervisor (i : LaneIx) (s : State) : (passageExpiry i s).supervisor = s.supervisor := by
  unfold passageExpiry
  repeat' split
  all_goals simp
@[simp] theorem passageExpiry_clock (i : LaneIx) (s : State) : (passageExpiry i s).clock = s.clock := by
  unfold passageExpiry
  repeat' split
  all_goals simp
@[simp] theorem passageExpiry_tariff (i : LaneIx) (s : State) : (passageExpiry i s).tariff = s.tariff := by
  unfold passageExpiry
  repeat' split
  all_goals simp
@[simp] theorem passageExpiry_deny (i : LaneIx) (s : State) : (passageExpiry i s).deny = s.deny := by
  unfold passageExpiry
  repeat' split
  all_goals simp
@[simp] theorem passageExpiry_draws (i : LaneIx) (s : State) : (passageExpiry i s).draws = s.draws := by
  unfold passageExpiry
  repeat' split
  all_goals simp
@[simp] theorem passageExpiry_pending (i : LaneIx) (s : State) : (passageExpiry i s).pending = s.pending := by
  unfold passageExpiry
  repeat' split
  all_goals simp

/-! ### clearExpiry -/

@[simp] theorem clearExpiry_runTime (i : LaneIx) (s : State) : (clearExpiry i s).runTime = s.runTime := by
  unfold clearExpiry
  repeat' split
  all_goals simp
@[simp] theorem clearExpiry_supervisor (i : LaneIx) (s : State) : (clearExpiry i s).supervisor = s.supervisor := by
  unfold clearExpiry
  repeat' split
  all_goals simp
@[simp] theorem clearExpiry_clock (i : LaneIx) (s : State) : (clearExpiry i s).clock = s.clock := by
  unfold clearExpiry
  repeat' split
  all_goals simp
@[simp] theorem clearExpiry_tariff (i : LaneIx) (s : State) : (clearExpiry i s).tariff = s.tariff := by
  unfold clearExpiry
  repeat' split
  all_goals simp
@[simp] theorem clearExpiry_recent (i : LaneIx) (s : State) : (clearExpiry i s).recent = s.recent := by
  unfold clearExpiry
  repeat' split
  all_goals simp
@[simp] theorem clearExpiry_deny (i : LaneIx) (s : State) : (clearExpiry i s).deny = s.deny := by
  unfold clearExpiry
  repeat' split
  all_goals simp
@[simp] theorem clearExpiry_draws (i : LaneIx) (s : State) : (clearExpiry i s).draws = s.draws := by
  unfold clearExpiry
  repeat' split
  all_goals simp
@[simp] theorem clearExpiry_pending (i : LaneIx) (s : State) : (clearExpiry i s).pending = s.pending := by
  unfold clearExpiry
  repeat' split
  all_goals simp

/-! ### pulseEnd -/

@[simp] theorem pulseEnd_runTime (i : LaneIx) (s : State) : (pulseEnd i s).runTime = s.runTime := by
  unfold pulseEnd
  split <;> simp
@[simp] theorem pulseEnd_link (i : LaneIx) (s : State) : (pulseEnd i s).link = s.link := by
  unfold pulseEnd
  split <;> simp
@[simp] theorem pulseEnd_supervisor (i : LaneIx) (s : State) : (pulseEnd i s).supervisor = s.supervisor := by
  unfold pulseEnd
  split <;> simp
@[simp] theorem pulseEnd_clock (i : LaneIx) (s : State) : (pulseEnd i s).clock = s.clock := by
  unfold pulseEnd
  split <;> simp
@[simp] theorem pulseEnd_tariff (i : LaneIx) (s : State) : (pulseEnd i s).tariff = s.tariff := by
  unfold pulseEnd
  split <;> simp
@[simp] theorem pulseEnd_berths (i : LaneIx) (s : State) : (pulseEnd i s).berths = s.berths := by
  unfold pulseEnd
  split <;> simp
@[simp] theorem pulseEnd_lanes (i : LaneIx) (s : State) : (pulseEnd i s).lanes = s.lanes := by
  unfold pulseEnd
  split <;> simp
@[simp] theorem pulseEnd_recent (i : LaneIx) (s : State) : (pulseEnd i s).recent = s.recent := by
  unfold pulseEnd
  split <;> simp
@[simp] theorem pulseEnd_deny (i : LaneIx) (s : State) : (pulseEnd i s).deny = s.deny := by
  unfold pulseEnd
  split <;> simp
@[simp] theorem pulseEnd_journal (i : LaneIx) (s : State) : (pulseEnd i s).journal = s.journal := by
  unfold pulseEnd
  split <;> simp
@[simp] theorem pulseEnd_draws (i : LaneIx) (s : State) : (pulseEnd i s).draws = s.draws := by
  unfold pulseEnd
  split <;> simp
@[simp] theorem pulseEnd_pending (i : LaneIx) (s : State) : (pulseEnd i s).pending = s.pending := by
  unfold pulseEnd
  split <;> simp

/-! ### laneAtStart -/

@[simp] theorem laneAtStart_runTime (s : State) (i : LaneIx) : (laneAtStart s i).runTime = s.runTime := by
  unfold laneAtStart
  repeat' split
  all_goals simp
@[simp] theorem laneAtStart_supervisor (s : State) (i : LaneIx) : (laneAtStart s i).supervisor = s.supervisor := by
  unfold laneAtStart
  repeat' split
  all_goals simp
@[simp] theorem laneAtStart_clock (s : State) (i : LaneIx) : (laneAtStart s i).clock = s.clock := by
  unfold laneAtStart
  repeat' split
  all_goals simp
@[simp] theorem laneAtStart_tariff (s : State) (i : LaneIx) : (laneAtStart s i).tariff = s.tariff := by
  unfold laneAtStart
  repeat' split
  all_goals simp
@[simp] theorem laneAtStart_recent (s : State) (i : LaneIx) : (laneAtStart s i).recent = s.recent := by
  unfold laneAtStart
  repeat' split
  all_goals simp
@[simp] theorem laneAtStart_deny (s : State) (i : LaneIx) : (laneAtStart s i).deny = s.deny := by
  unfold laneAtStart
  repeat' split
  all_goals simp
@[simp] theorem laneAtStart_draws (s : State) (i : LaneIx) : (laneAtStart s i).draws = s.draws := by
  unfold laneAtStart
  repeat' split
  all_goals simp
@[simp] theorem laneAtStart_pending (s : State) (i : LaneIx) : (laneAtStart s i).pending = s.pending := by
  unfold laneAtStart
  repeat' split
  all_goals simp

/-! ### laneAtStop -/

@[simp] theorem laneAtStop_runTime (s : State) (i : LaneIx) : (laneAtStop s i).runTime = s.runTime := by
  unfold laneAtStop
  split <;> simp
@[simp] theorem laneAtStop_link (s : State) (i : LaneIx) : (laneAtStop s i).link = s.link := by
  unfold laneAtStop
  split <;> simp
@[simp] theorem laneAtStop_supervisor (s : State) (i : LaneIx) : (laneAtStop s i).supervisor = s.supervisor := by
  unfold laneAtStop
  split <;> simp
@[simp] theorem laneAtStop_clock (s : State) (i : LaneIx) : (laneAtStop s i).clock = s.clock := by
  unfold laneAtStop
  split <;> simp
@[simp] theorem laneAtStop_tariff (s : State) (i : LaneIx) : (laneAtStop s i).tariff = s.tariff := by
  unfold laneAtStop
  split <;> simp
@[simp] theorem laneAtStop_berths (s : State) (i : LaneIx) : (laneAtStop s i).berths = s.berths := by
  unfold laneAtStop
  split <;> simp
@[simp] theorem laneAtStop_recent (s : State) (i : LaneIx) : (laneAtStop s i).recent = s.recent := by
  unfold laneAtStop
  split <;> simp
@[simp] theorem laneAtStop_deny (s : State) (i : LaneIx) : (laneAtStop s i).deny = s.deny := by
  unfold laneAtStop
  split <;> simp
@[simp] theorem laneAtStop_journal (s : State) (i : LaneIx) : (laneAtStop s i).journal = s.journal := by
  unfold laneAtStop
  split <;> simp
@[simp] theorem laneAtStop_draws (s : State) (i : LaneIx) : (laneAtStop s i).draws = s.draws := by
  unfold laneAtStop
  split <;> simp
@[simp] theorem laneAtStop_pending (s : State) (i : LaneIx) : (laneAtStop s i).pending = s.pending := by
  unfold laneAtStop
  split <;> simp

/-! ### laneToEgress -/

@[simp] theorem laneToEgress_runTime (s : State) (i : LaneIx) : (laneToEgress s i).runTime = s.runTime := by
  unfold laneToEgress
  repeat' split
  all_goals simp
@[simp] theorem laneToEgress_supervisor (s : State) (i : LaneIx) : (laneToEgress s i).supervisor = s.supervisor := by
  unfold laneToEgress
  repeat' split
  all_goals simp
@[simp] theorem laneToEgress_clock (s : State) (i : LaneIx) : (laneToEgress s i).clock = s.clock := by
  unfold laneToEgress
  repeat' split
  all_goals simp
@[simp] theorem laneToEgress_tariff (s : State) (i : LaneIx) : (laneToEgress s i).tariff = s.tariff := by
  unfold laneToEgress
  repeat' split
  all_goals simp
@[simp] theorem laneToEgress_deny (s : State) (i : LaneIx) : (laneToEgress s i).deny = s.deny := by
  unfold laneToEgress
  repeat' split
  all_goals simp
@[simp] theorem laneToEgress_draws (s : State) (i : LaneIx) : (laneToEgress s i).draws = s.draws := by
  unfold laneToEgress
  repeat' split
  all_goals simp
@[simp] theorem laneToEgress_pending (s : State) (i : LaneIx) : (laneToEgress s i).pending = s.pending := by
  unfold laneToEgress
  repeat' split
  all_goals simp

/-! ### laneFromEgress -/

@[simp] theorem laneFromEgress_runTime (s : State) (i : LaneIx) : (laneFromEgress s i).runTime = s.runTime := by
  unfold laneFromEgress
  split <;> simp
@[simp] theorem laneFromEgress_supervisor (s : State) (i : LaneIx) : (laneFromEgress s i).supervisor = s.supervisor := by
  unfold laneFromEgress
  split <;> simp
@[simp] theorem laneFromEgress_clock (s : State) (i : LaneIx) : (laneFromEgress s i).clock = s.clock := by
  unfold laneFromEgress
  split <;> simp
@[simp] theorem laneFromEgress_tariff (s : State) (i : LaneIx) : (laneFromEgress s i).tariff = s.tariff := by
  unfold laneFromEgress
  split <;> simp
@[simp] theorem laneFromEgress_recent (s : State) (i : LaneIx) : (laneFromEgress s i).recent = s.recent := by
  unfold laneFromEgress
  split <;> simp
@[simp] theorem laneFromEgress_deny (s : State) (i : LaneIx) : (laneFromEgress s i).deny = s.deny := by
  unfold laneFromEgress
  split <;> simp
@[simp] theorem laneFromEgress_draws (s : State) (i : LaneIx) : (laneFromEgress s i).draws = s.draws := by
  unfold laneFromEgress
  split <;> simp
@[simp] theorem laneFromEgress_pending (s : State) (i : LaneIx) : (laneFromEgress s i).pending = s.pending := by
  unfold laneFromEgress
  split <;> simp

/-! ### completeSwitch -/

@[simp] theorem completeSwitch_runTime (set : TariffSet) (s : State) : (completeSwitch set s).runTime = s.runTime :=
  by simp [completeSwitch]
@[simp] theorem completeSwitch_supervisor (set : TariffSet) (s : State) : (completeSwitch set s).supervisor = s.supervisor :=
  by simp [completeSwitch]
@[simp] theorem completeSwitch_clock (set : TariffSet) (s : State) : (completeSwitch set s).clock = s.clock :=
  by simp [completeSwitch]
@[simp] theorem completeSwitch_berths (set : TariffSet) (s : State) : (completeSwitch set s).berths = s.berths :=
  by simp [completeSwitch]
@[simp] theorem completeSwitch_lanes (set : TariffSet) (s : State) : (completeSwitch set s).lanes = s.lanes :=
  by simp [completeSwitch]
@[simp] theorem completeSwitch_lamps (set : TariffSet) (s : State) : (completeSwitch set s).lamps = s.lamps :=
  by simp [completeSwitch]
@[simp] theorem completeSwitch_recent (set : TariffSet) (s : State) : (completeSwitch set s).recent = s.recent :=
  by simp [completeSwitch]
@[simp] theorem completeSwitch_deny (set : TariffSet) (s : State) : (completeSwitch set s).deny = s.deny :=
  by simp [completeSwitch]
@[simp] theorem completeSwitch_journal (set : TariffSet) (s : State) : (completeSwitch set s).journal = s.journal :=
  by simp [completeSwitch]
@[simp] theorem completeSwitch_draws (set : TariffSet) (s : State) : (completeSwitch set s).draws = s.draws :=
  by simp [completeSwitch]
@[simp] theorem completeSwitch_pending (set : TariffSet) (s : State) : (completeSwitch set s).pending = s.pending :=
  by simp [completeSwitch]

/-! ### cancelSwitch -/

@[simp] theorem cancelSwitch_runTime (c : CancelCause) (s : State) : (cancelSwitch c s).runTime = s.runTime := by
  unfold cancelSwitch
  split <;> simp
@[simp] theorem cancelSwitch_supervisor (c : CancelCause) (s : State) : (cancelSwitch c s).supervisor = s.supervisor := by
  unfold cancelSwitch
  split <;> simp
@[simp] theorem cancelSwitch_clock (c : CancelCause) (s : State) : (cancelSwitch c s).clock = s.clock := by
  unfold cancelSwitch
  split <;> simp
@[simp] theorem cancelSwitch_berths (c : CancelCause) (s : State) : (cancelSwitch c s).berths = s.berths := by
  unfold cancelSwitch
  split <;> simp
@[simp] theorem cancelSwitch_lanes (c : CancelCause) (s : State) : (cancelSwitch c s).lanes = s.lanes := by
  unfold cancelSwitch
  split <;> simp
@[simp] theorem cancelSwitch_lamps (c : CancelCause) (s : State) : (cancelSwitch c s).lamps = s.lamps := by
  unfold cancelSwitch
  split <;> simp
@[simp] theorem cancelSwitch_recent (c : CancelCause) (s : State) : (cancelSwitch c s).recent = s.recent := by
  unfold cancelSwitch
  split <;> simp
@[simp] theorem cancelSwitch_deny (c : CancelCause) (s : State) : (cancelSwitch c s).deny = s.deny := by
  unfold cancelSwitch
  split <;> simp
@[simp] theorem cancelSwitch_journal (c : CancelCause) (s : State) : (cancelSwitch c s).journal = s.journal := by
  unfold cancelSwitch
  split <;> simp
@[simp] theorem cancelSwitch_draws (c : CancelCause) (s : State) : (cancelSwitch c s).draws = s.draws := by
  unfold cancelSwitch
  split <;> simp
@[simp] theorem cancelSwitch_pending (c : CancelCause) (s : State) : (cancelSwitch c s).pending = s.pending := by
  unfold cancelSwitch
  split <;> simp

/-! ### effectiveTrigger -/

@[simp] theorem effectiveTrigger_runTime (s : State) : (effectiveTrigger s).runTime = s.runTime := by
  unfold effectiveTrigger
  repeat' split
  all_goals simp
@[simp] theorem effectiveTrigger_supervisor (s : State) : (effectiveTrigger s).supervisor = s.supervisor := by
  unfold effectiveTrigger
  repeat' split
  all_goals simp
@[simp] theorem effectiveTrigger_clock (s : State) : (effectiveTrigger s).clock = s.clock := by
  unfold effectiveTrigger
  repeat' split
  all_goals simp
@[simp] theorem effectiveTrigger_berths (s : State) : (effectiveTrigger s).berths = s.berths := by
  unfold effectiveTrigger
  repeat' split
  all_goals simp
@[simp] theorem effectiveTrigger_lanes (s : State) : (effectiveTrigger s).lanes = s.lanes := by
  unfold effectiveTrigger
  repeat' split
  all_goals simp
@[simp] theorem effectiveTrigger_lamps (s : State) : (effectiveTrigger s).lamps = s.lamps := by
  unfold effectiveTrigger
  repeat' split
  all_goals simp
@[simp] theorem effectiveTrigger_recent (s : State) : (effectiveTrigger s).recent = s.recent := by
  unfold effectiveTrigger
  repeat' split
  all_goals simp
@[simp] theorem effectiveTrigger_deny (s : State) : (effectiveTrigger s).deny = s.deny := by
  unfold effectiveTrigger
  repeat' split
  all_goals simp
@[simp] theorem effectiveTrigger_journal (s : State) : (effectiveTrigger s).journal = s.journal := by
  unfold effectiveTrigger
  repeat' split
  all_goals simp
@[simp] theorem effectiveTrigger_draws (s : State) : (effectiveTrigger s).draws = s.draws := by
  unfold effectiveTrigger
  repeat' split
  all_goals simp
@[simp] theorem effectiveTrigger_pending (s : State) : (effectiveTrigger s).pending = s.pending := by
  unfold effectiveTrigger
  repeat' split
  all_goals simp

/-! ### armSwitch -/

@[simp] theorem armSwitch_runTime (set : TariffSet) (e : Option ServiceTime) (s : State) : (armSwitch set e s).runTime = s.runTime := by
  unfold armSwitch
  split <;> simp
@[simp] theorem armSwitch_supervisor (set : TariffSet) (e : Option ServiceTime) (s : State) : (armSwitch set e s).supervisor = s.supervisor := by
  unfold armSwitch
  split <;> simp
@[simp] theorem armSwitch_clock (set : TariffSet) (e : Option ServiceTime) (s : State) : (armSwitch set e s).clock = s.clock := by
  unfold armSwitch
  split <;> simp
@[simp] theorem armSwitch_berths (set : TariffSet) (e : Option ServiceTime) (s : State) : (armSwitch set e s).berths = s.berths := by
  unfold armSwitch
  split <;> simp
@[simp] theorem armSwitch_lanes (set : TariffSet) (e : Option ServiceTime) (s : State) : (armSwitch set e s).lanes = s.lanes := by
  unfold armSwitch
  split <;> simp
@[simp] theorem armSwitch_lamps (set : TariffSet) (e : Option ServiceTime) (s : State) : (armSwitch set e s).lamps = s.lamps := by
  unfold armSwitch
  split <;> simp
@[simp] theorem armSwitch_recent (set : TariffSet) (e : Option ServiceTime) (s : State) : (armSwitch set e s).recent = s.recent := by
  unfold armSwitch
  split <;> simp
@[simp] theorem armSwitch_deny (set : TariffSet) (e : Option ServiceTime) (s : State) : (armSwitch set e s).deny = s.deny := by
  unfold armSwitch
  split <;> simp
@[simp] theorem armSwitch_journal (set : TariffSet) (e : Option ServiceTime) (s : State) : (armSwitch set e s).journal = s.journal := by
  unfold armSwitch
  split <;> simp
@[simp] theorem armSwitch_draws (set : TariffSet) (e : Option ServiceTime) (s : State) : (armSwitch set e s).draws = s.draws := by
  unfold armSwitch
  split <;> simp
@[simp] theorem armSwitch_pending (set : TariffSet) (e : Option ServiceTime) (s : State) : (armSwitch set e s).pending = s.pending := by
  unfold armSwitch
  split <;> simp

/-! ### runTask -/

@[simp] theorem runTask_runTime (s : State) (t : TriggerTask) : (runTask s t).runTime = s.runTime := by
  unfold runTask
  split <;> simp
@[simp] theorem runTask_supervisor (s : State) (t : TriggerTask) : (runTask s t).supervisor = s.supervisor := by
  unfold runTask
  split <;> simp
@[simp] theorem runTask_clock (s : State) (t : TriggerTask) : (runTask s t).clock = s.clock := by
  unfold runTask
  split <;> simp
@[simp] theorem runTask_lanes (s : State) (t : TriggerTask) : (runTask s t).lanes = s.lanes := by
  unfold runTask
  split <;> simp
@[simp] theorem runTask_recent (s : State) (t : TriggerTask) : (runTask s t).recent = s.recent := by
  unfold runTask
  split <;> simp
@[simp] theorem runTask_deny (s : State) (t : TriggerTask) : (runTask s t).deny = s.deny := by
  unfold runTask
  split <;> simp
@[simp] theorem runTask_draws (s : State) (t : TriggerTask) : (runTask s t).draws = s.draws := by
  unfold runTask
  split <;> simp
@[simp] theorem runTask_pending (s : State) (t : TriggerTask) : (runTask s t).pending = s.pending := by
  unfold runTask
  split <;> simp

/-! ### setTime -/

@[simp] theorem setTime_runTime (t : ServiceTime) (s : State) : (setTime t s).runTime = s.runTime := rfl
@[simp] theorem setTime_link (t : ServiceTime) (s : State) : (setTime t s).link = s.link := rfl
@[simp] theorem setTime_supervisor (t : ServiceTime) (s : State) : (setTime t s).supervisor = s.supervisor := rfl
@[simp] theorem setTime_tariff (t : ServiceTime) (s : State) : (setTime t s).tariff = s.tariff := rfl
@[simp] theorem setTime_berths (t : ServiceTime) (s : State) : (setTime t s).berths = s.berths := rfl
@[simp] theorem setTime_lanes (t : ServiceTime) (s : State) : (setTime t s).lanes = s.lanes := rfl
@[simp] theorem setTime_lamps (t : ServiceTime) (s : State) : (setTime t s).lamps = s.lamps := rfl
@[simp] theorem setTime_recent (t : ServiceTime) (s : State) : (setTime t s).recent = s.recent := rfl
@[simp] theorem setTime_deny (t : ServiceTime) (s : State) : (setTime t s).deny = s.deny := rfl
@[simp] theorem setTime_journal (t : ServiceTime) (s : State) : (setTime t s).journal = s.journal := rfl
@[simp] theorem setTime_draws (t : ServiceTime) (s : State) : (setTime t s).draws = s.draws := rfl
@[simp] theorem setTime_pending (t : ServiceTime) (s : State) : (setTime t s).pending = s.pending := rfl

/-! ### setTimeState -/

@[simp] theorem setTimeState_runTime (st : TimeState) (c : TimeCause) (s : State) : (setTimeState st c s).runTime = s.runTime := by
  unfold setTimeState
  split <;> simp
@[simp] theorem setTimeState_supervisor (st : TimeState) (c : TimeCause) (s : State) : (setTimeState st c s).supervisor = s.supervisor := by
  unfold setTimeState
  split <;> simp
@[simp] theorem setTimeState_tariff (st : TimeState) (c : TimeCause) (s : State) : (setTimeState st c s).tariff = s.tariff := by
  unfold setTimeState
  split <;> simp
@[simp] theorem setTimeState_berths (st : TimeState) (c : TimeCause) (s : State) : (setTimeState st c s).berths = s.berths := by
  unfold setTimeState
  split <;> simp
@[simp] theorem setTimeState_lanes (st : TimeState) (c : TimeCause) (s : State) : (setTimeState st c s).lanes = s.lanes := by
  unfold setTimeState
  split <;> simp
@[simp] theorem setTimeState_lamps (st : TimeState) (c : TimeCause) (s : State) : (setTimeState st c s).lamps = s.lamps := by
  unfold setTimeState
  split <;> simp
@[simp] theorem setTimeState_recent (st : TimeState) (c : TimeCause) (s : State) : (setTimeState st c s).recent = s.recent := by
  unfold setTimeState
  split <;> simp
@[simp] theorem setTimeState_deny (st : TimeState) (c : TimeCause) (s : State) : (setTimeState st c s).deny = s.deny := by
  unfold setTimeState
  split <;> simp
@[simp] theorem setTimeState_journal (st : TimeState) (c : TimeCause) (s : State) : (setTimeState st c s).journal = s.journal := by
  unfold setTimeState
  split <;> simp
@[simp] theorem setTimeState_draws (st : TimeState) (c : TimeCause) (s : State) : (setTimeState st c s).draws = s.draws := by
  unfold setTimeState
  split <;> simp
@[simp] theorem setTimeState_pending (st : TimeState) (c : TimeCause) (s : State) : (setTimeState st c s).pending = s.pending := by
  unfold setTimeState
  split <;> simp

/-! ### applyRefusal -/

@[simp] theorem applyRefusal_runTime (n : Nat) (s : State) : (applyRefusal n s).runTime = s.runTime := by
  unfold applyRefusal reportTo
  repeat' split
  all_goals simp
@[simp] theorem applyRefusal_link (n : Nat) (s : State) : (applyRefusal n s).link = s.link := by
  unfold applyRefusal reportTo
  repeat' split
  all_goals simp
@[simp] theorem applyRefusal_supervisor (n : Nat) (s : State) : (applyRefusal n s).supervisor = s.supervisor := by
  unfold applyRefusal reportTo
  repeat' split
  all_goals simp
@[simp] theorem applyRefusal_clock (n : Nat) (s : State) : (applyRefusal n s).clock = s.clock := by
  unfold applyRefusal reportTo
  repeat' split
  all_goals simp
@[simp] theorem applyRefusal_tariff (n : Nat) (s : State) : (applyRefusal n s).tariff = s.tariff := by
  unfold applyRefusal reportTo
  repeat' split
  all_goals simp
@[simp] theorem applyRefusal_lanes (n : Nat) (s : State) : (applyRefusal n s).lanes = s.lanes := by
  unfold applyRefusal reportTo
  repeat' split
  all_goals simp
@[simp] theorem applyRefusal_recent (n : Nat) (s : State) : (applyRefusal n s).recent = s.recent := by
  unfold applyRefusal reportTo
  repeat' split
  all_goals simp
@[simp] theorem applyRefusal_deny (n : Nat) (s : State) : (applyRefusal n s).deny = s.deny := by
  unfold applyRefusal reportTo
  repeat' split
  all_goals simp
@[simp] theorem applyRefusal_journal (n : Nat) (s : State) : (applyRefusal n s).journal = s.journal := by
  unfold applyRefusal reportTo
  repeat' split
  all_goals simp
@[simp] theorem applyRefusal_draws (n : Nat) (s : State) : (applyRefusal n s).draws = s.draws := by
  unfold applyRefusal reportTo
  repeat' split
  all_goals simp
@[simp] theorem applyRefusal_pending (n : Nat) (s : State) : (applyRefusal n s).pending = s.pending := by
  unfold applyRefusal reportTo
  repeat' split
  all_goals simp

/-! ### applyGrant -/

@[simp] theorem applyGrant_runTime (i : LaneIx) (b : BerthIx) (ref card : Nat) (k : AdmissionKind) (charge : Nat) (e : Option Notice) (s : State) : (applyGrant i b ref card k charge e s).runTime = s.runTime :=
  by simp [applyGrant]
@[simp] theorem applyGrant_supervisor (i : LaneIx) (b : BerthIx) (ref card : Nat) (k : AdmissionKind) (charge : Nat) (e : Option Notice) (s : State) : (applyGrant i b ref card k charge e s).supervisor = s.supervisor :=
  by simp [applyGrant]
@[simp] theorem applyGrant_clock (i : LaneIx) (b : BerthIx) (ref card : Nat) (k : AdmissionKind) (charge : Nat) (e : Option Notice) (s : State) : (applyGrant i b ref card k charge e s).clock = s.clock :=
  by simp [applyGrant]
@[simp] theorem applyGrant_tariff (i : LaneIx) (b : BerthIx) (ref card : Nat) (k : AdmissionKind) (charge : Nat) (e : Option Notice) (s : State) : (applyGrant i b ref card k charge e s).tariff = s.tariff :=
  by simp [applyGrant]
@[simp] theorem applyGrant_deny (i : LaneIx) (b : BerthIx) (ref card : Nat) (k : AdmissionKind) (charge : Nat) (e : Option Notice) (s : State) : (applyGrant i b ref card k charge e s).deny = s.deny :=
  by simp [applyGrant]
@[simp] theorem applyGrant_journal (i : LaneIx) (b : BerthIx) (ref card : Nat) (k : AdmissionKind) (charge : Nat) (e : Option Notice) (s : State) : (applyGrant i b ref card k charge e s).journal = s.journal :=
  by simp [applyGrant]
@[simp] theorem applyGrant_draws (i : LaneIx) (b : BerthIx) (ref card : Nat) (k : AdmissionKind) (charge : Nat) (e : Option Notice) (s : State) : (applyGrant i b ref card k charge e s).draws = s.draws :=
  by simp [applyGrant]
@[simp] theorem applyGrant_pending (i : LaneIx) (b : BerthIx) (ref card : Nat) (k : AdmissionKind) (charge : Nat) (e : Option Notice) (s : State) : (applyGrant i b ref card k charge e s).pending = s.pending :=
  by simp [applyGrant]

/-! ### openBerth -/

@[simp] theorem openBerth_runTime (b : BerthIx) (r : OpenRequest) (s : State) : (openBerth b r s).runTime = s.runTime :=
  by simp [openBerth]
@[simp] theorem openBerth_supervisor (b : BerthIx) (r : OpenRequest) (s : State) : (openBerth b r s).supervisor = s.supervisor :=
  by simp [openBerth]
@[simp] theorem openBerth_clock (b : BerthIx) (r : OpenRequest) (s : State) : (openBerth b r s).clock = s.clock :=
  by simp [openBerth]
@[simp] theorem openBerth_tariff (b : BerthIx) (r : OpenRequest) (s : State) : (openBerth b r s).tariff = s.tariff :=
  by simp [openBerth]
@[simp] theorem openBerth_lanes (b : BerthIx) (r : OpenRequest) (s : State) : (openBerth b r s).lanes = s.lanes :=
  by simp [openBerth]
@[simp] theorem openBerth_recent (b : BerthIx) (r : OpenRequest) (s : State) : (openBerth b r s).recent = s.recent :=
  by simp [openBerth]
@[simp] theorem openBerth_deny (b : BerthIx) (r : OpenRequest) (s : State) : (openBerth b r s).deny = s.deny :=
  by simp [openBerth]
@[simp] theorem openBerth_draws (b : BerthIx) (r : OpenRequest) (s : State) : (openBerth b r s).draws = s.draws :=
  by simp [openBerth]
@[simp] theorem openBerth_pending (b : BerthIx) (r : OpenRequest) (s : State) : (openBerth b r s).pending = s.pending :=
  by simp [openBerth]

/-! ### settleOpt -/

@[simp] theorem settleOpt_runTime (b : Option BerthIx) (s : State) : (settleOpt b s).runTime = s.runTime := by
  unfold settleOpt
  split <;> simp
@[simp] theorem settleOpt_supervisor (b : Option BerthIx) (s : State) : (settleOpt b s).supervisor = s.supervisor := by
  unfold settleOpt
  split <;> simp
@[simp] theorem settleOpt_clock (b : Option BerthIx) (s : State) : (settleOpt b s).clock = s.clock := by
  unfold settleOpt
  split <;> simp
@[simp] theorem settleOpt_tariff (b : Option BerthIx) (s : State) : (settleOpt b s).tariff = s.tariff := by
  unfold settleOpt
  split <;> simp
@[simp] theorem settleOpt_lanes (b : Option BerthIx) (s : State) : (settleOpt b s).lanes = s.lanes := by
  unfold settleOpt
  split <;> simp
@[simp] theorem settleOpt_recent (b : Option BerthIx) (s : State) : (settleOpt b s).recent = s.recent := by
  unfold settleOpt
  split <;> simp
@[simp] theorem settleOpt_deny (b : Option BerthIx) (s : State) : (settleOpt b s).deny = s.deny := by
  unfold settleOpt
  split <;> simp
@[simp] theorem settleOpt_draws (b : Option BerthIx) (s : State) : (settleOpt b s).draws = s.draws := by
  unfold settleOpt
  split <;> simp
@[simp] theorem settleOpt_pending (b : Option BerthIx) (s : State) : (settleOpt b s).pending = s.pending := by
  unfold settleOpt
  split <;> simp

/-! ### assignLane -/

@[simp] theorem assignLane_runTime (i : LaneIx) (b : Option BerthIx) (s : State) : (assignLane i b s).runTime = s.runTime := by
  unfold assignLane
  dsimp only
  repeat' split
  all_goals simp
@[simp] theorem assignLane_supervisor (i : LaneIx) (b : Option BerthIx) (s : State) : (assignLane i b s).supervisor = s.supervisor := by
  unfold assignLane
  dsimp only
  repeat' split
  all_goals simp
@[simp] theorem assignLane_clock (i : LaneIx) (b : Option BerthIx) (s : State) : (assignLane i b s).clock = s.clock := by
  unfold assignLane
  dsimp only
  repeat' split
  all_goals simp
@[simp] theorem assignLane_tariff (i : LaneIx) (b : Option BerthIx) (s : State) : (assignLane i b s).tariff = s.tariff := by
  unfold assignLane
  dsimp only
  repeat' split
  all_goals simp
@[simp] theorem assignLane_recent (i : LaneIx) (b : Option BerthIx) (s : State) : (assignLane i b s).recent = s.recent := by
  unfold assignLane
  dsimp only
  repeat' split
  all_goals simp
@[simp] theorem assignLane_deny (i : LaneIx) (b : Option BerthIx) (s : State) : (assignLane i b s).deny = s.deny := by
  unfold assignLane
  dsimp only
  repeat' split
  all_goals simp
@[simp] theorem assignLane_draws (i : LaneIx) (b : Option BerthIx) (s : State) : (assignLane i b s).draws = s.draws := by
  unfold assignLane
  dsimp only
  repeat' split
  all_goals simp
@[simp] theorem assignLane_pending (i : LaneIx) (b : Option BerthIx) (s : State) : (assignLane i b s).pending = s.pending := by
  unfold assignLane
  dsimp only
  repeat' split
  all_goals simp

/-! ### selectLamp -/

@[simp] theorem selectLamp_runTime (i : LaneIx) (sel : LampSelection) (c : Bool) (s : State) : (selectLamp i sel c s).runTime = s.runTime := by
  unfold selectLamp
  dsimp only
  repeat' split
  all_goals simp
@[simp] theorem selectLamp_link (i : LaneIx) (sel : LampSelection) (c : Bool) (s : State) : (selectLamp i sel c s).link = s.link := by
  unfold selectLamp
  dsimp only
  repeat' split
  all_goals simp
@[simp] theorem selectLamp_supervisor (i : LaneIx) (sel : LampSelection) (c : Bool) (s : State) : (selectLamp i sel c s).supervisor = s.supervisor := by
  unfold selectLamp
  dsimp only
  repeat' split
  all_goals simp
@[simp] theorem selectLamp_clock (i : LaneIx) (sel : LampSelection) (c : Bool) (s : State) : (selectLamp i sel c s).clock = s.clock := by
  unfold selectLamp
  dsimp only
  repeat' split
  all_goals simp
@[simp] theorem selectLamp_tariff (i : LaneIx) (sel : LampSelection) (c : Bool) (s : State) : (selectLamp i sel c s).tariff = s.tariff := by
  unfold selectLamp
  dsimp only
  repeat' split
  all_goals simp
@[simp] theorem selectLamp_berths (i : LaneIx) (sel : LampSelection) (c : Bool) (s : State) : (selectLamp i sel c s).berths = s.berths := by
  unfold selectLamp
  dsimp only
  repeat' split
  all_goals simp
@[simp] theorem selectLamp_lanes (i : LaneIx) (sel : LampSelection) (c : Bool) (s : State) : (selectLamp i sel c s).lanes = s.lanes := by
  unfold selectLamp
  dsimp only
  repeat' split
  all_goals simp
@[simp] theorem selectLamp_recent (i : LaneIx) (sel : LampSelection) (c : Bool) (s : State) : (selectLamp i sel c s).recent = s.recent := by
  unfold selectLamp
  dsimp only
  repeat' split
  all_goals simp
@[simp] theorem selectLamp_deny (i : LaneIx) (sel : LampSelection) (c : Bool) (s : State) : (selectLamp i sel c s).deny = s.deny := by
  unfold selectLamp
  dsimp only
  repeat' split
  all_goals simp
@[simp] theorem selectLamp_journal (i : LaneIx) (sel : LampSelection) (c : Bool) (s : State) : (selectLamp i sel c s).journal = s.journal := by
  unfold selectLamp
  dsimp only
  repeat' split
  all_goals simp
@[simp] theorem selectLamp_draws (i : LaneIx) (sel : LampSelection) (c : Bool) (s : State) : (selectLamp i sel c s).draws = s.draws := by
  unfold selectLamp
  dsimp only
  repeat' split
  all_goals simp
@[simp] theorem selectLamp_pending (i : LaneIx) (sel : LampSelection) (c : Bool) (s : State) : (selectLamp i sel c s).pending = s.pending := by
  unfold selectLamp
  dsimp only
  repeat' split
  all_goals simp

/-! ### setPontoon -/

@[simp] theorem setPontoon_runTime (st : PontoonState) (ret : Option PontoonState) (c : PontoonCause) (s : State) : (setPontoon st ret c s).runTime = s.runTime :=
  by simp [setPontoon]
@[simp] theorem setPontoon_clock (st : PontoonState) (ret : Option PontoonState) (c : PontoonCause) (s : State) : (setPontoon st ret c s).clock = s.clock :=
  by simp [setPontoon]
@[simp] theorem setPontoon_tariff (st : PontoonState) (ret : Option PontoonState) (c : PontoonCause) (s : State) : (setPontoon st ret c s).tariff = s.tariff :=
  by simp [setPontoon]
@[simp] theorem setPontoon_berths (st : PontoonState) (ret : Option PontoonState) (c : PontoonCause) (s : State) : (setPontoon st ret c s).berths = s.berths :=
  by simp [setPontoon]
@[simp] theorem setPontoon_lanes (st : PontoonState) (ret : Option PontoonState) (c : PontoonCause) (s : State) : (setPontoon st ret c s).lanes = s.lanes :=
  by simp [setPontoon]
@[simp] theorem setPontoon_lamps (st : PontoonState) (ret : Option PontoonState) (c : PontoonCause) (s : State) : (setPontoon st ret c s).lamps = s.lamps :=
  by simp [setPontoon]
@[simp] theorem setPontoon_recent (st : PontoonState) (ret : Option PontoonState) (c : PontoonCause) (s : State) : (setPontoon st ret c s).recent = s.recent :=
  by simp [setPontoon]
@[simp] theorem setPontoon_deny (st : PontoonState) (ret : Option PontoonState) (c : PontoonCause) (s : State) : (setPontoon st ret c s).deny = s.deny :=
  by simp [setPontoon]
@[simp] theorem setPontoon_journal (st : PontoonState) (ret : Option PontoonState) (c : PontoonCause) (s : State) : (setPontoon st ret c s).journal = s.journal :=
  by simp [setPontoon]
@[simp] theorem setPontoon_draws (st : PontoonState) (ret : Option PontoonState) (c : PontoonCause) (s : State) : (setPontoon st ret c s).draws = s.draws :=
  by simp [setPontoon]
@[simp] theorem setPontoon_pending (st : PontoonState) (ret : Option PontoonState) (c : PontoonCause) (s : State) : (setPontoon st ret c s).pending = s.pending :=
  by simp [setPontoon]

/-! ### setupLane -/

@[simp] theorem setupLane_runTime (n : Nat) (r : SetupRequest) (s : State) (i : LaneIx) : (setupLane n r s i).runTime = s.runTime := by
  unfold setupLane
  repeat' split
  all_goals simp
@[simp] theorem setupLane_link (n : Nat) (r : SetupRequest) (s : State) (i : LaneIx) : (setupLane n r s i).link = s.link := by
  unfold setupLane
  repeat' split
  all_goals simp
@[simp] theorem setupLane_supervisor (n : Nat) (r : SetupRequest) (s : State) (i : LaneIx) : (setupLane n r s i).supervisor = s.supervisor := by
  unfold setupLane
  repeat' split
  all_goals simp
@[simp] theorem setupLane_clock (n : Nat) (r : SetupRequest) (s : State) (i : LaneIx) : (setupLane n r s i).clock = s.clock := by
  unfold setupLane
  repeat' split
  all_goals simp
@[simp] theorem setupLane_tariff (n : Nat) (r : SetupRequest) (s : State) (i : LaneIx) : (setupLane n r s i).tariff = s.tariff := by
  unfold setupLane
  repeat' split
  all_goals simp
@[simp] theorem setupLane_berths (n : Nat) (r : SetupRequest) (s : State) (i : LaneIx) : (setupLane n r s i).berths = s.berths := by
  unfold setupLane
  repeat' split
  all_goals simp
@[simp] theorem setupLane_recent (n : Nat) (r : SetupRequest) (s : State) (i : LaneIx) : (setupLane n r s i).recent = s.recent := by
  unfold setupLane
  repeat' split
  all_goals simp
@[simp] theorem setupLane_deny (n : Nat) (r : SetupRequest) (s : State) (i : LaneIx) : (setupLane n r s i).deny = s.deny := by
  unfold setupLane
  repeat' split
  all_goals simp
@[simp] theorem setupLane_journal (n : Nat) (r : SetupRequest) (s : State) (i : LaneIx) : (setupLane n r s i).journal = s.journal := by
  unfold setupLane
  repeat' split
  all_goals simp
@[simp] theorem setupLane_draws (n : Nat) (r : SetupRequest) (s : State) (i : LaneIx) : (setupLane n r s i).draws = s.draws := by
  unfold setupLane
  repeat' split
  all_goals simp
@[simp] theorem setupLane_pending (n : Nat) (r : SetupRequest) (s : State) (i : LaneIx) : (setupLane n r s i).pending = s.pending := by
  unfold setupLane
  repeat' split
  all_goals simp

/-! ### laneAtRestart -/

@[simp] theorem laneAtRestart_runTime (s : State) (i : LaneIx) : (laneAtRestart s i).runTime = s.runTime := rfl
@[simp] theorem laneAtRestart_link (s : State) (i : LaneIx) : (laneAtRestart s i).link = s.link := rfl
@[simp] theorem laneAtRestart_supervisor (s : State) (i : LaneIx) : (laneAtRestart s i).supervisor = s.supervisor :=
  rfl
@[simp] theorem laneAtRestart_clock (s : State) (i : LaneIx) : (laneAtRestart s i).clock = s.clock := rfl
@[simp] theorem laneAtRestart_tariff (s : State) (i : LaneIx) : (laneAtRestart s i).tariff = s.tariff := rfl
@[simp] theorem laneAtRestart_berths (s : State) (i : LaneIx) : (laneAtRestart s i).berths = s.berths := rfl
@[simp] theorem laneAtRestart_recent (s : State) (i : LaneIx) : (laneAtRestart s i).recent = s.recent := rfl
@[simp] theorem laneAtRestart_deny (s : State) (i : LaneIx) : (laneAtRestart s i).deny = s.deny := rfl
@[simp] theorem laneAtRestart_journal (s : State) (i : LaneIx) : (laneAtRestart s i).journal = s.journal := rfl
@[simp] theorem laneAtRestart_draws (s : State) (i : LaneIx) : (laneAtRestart s i).draws = s.draws := rfl
@[simp] theorem laneAtRestart_pending (s : State) (i : LaneIx) : (laneAtRestart s i).pending = s.pending := rfl

end Sys2Proof.Machine
end

