-- ==== Sys2Proof/Laws/Frames3.lean ====
section
/-! SUPPORT. What the triggers, egress and the owners of the requests leave alone, one lemma for each field of State. -/

namespace Sys2Proof.Machine

open Sys2Proof

/-- A fold keeps what each of its steps keeps. -/
theorem foldl_keep {α β : Type} (p : State → β) (f : State → α → State) (h : ∀ s x, p (f s x) = p s) (l : List α)
    (s : State) : p (l.foldl f s) = p s := by
  induction l generalizing s with
  | nil => rfl
  | cons x xs ih => simp [ih, h]

/-! ### Folds over the lanes and the trigger tasks -/

@[simp] theorem foldl_laneToEgress_runTime (l : List LaneIx) (s : State) :
    (l.foldl laneToEgress s).runTime = s.runTime :=
  foldl_keep State.runTime _ (fun _ _ => by simp) l s
@[simp] theorem foldl_laneToEgress_supervisor (l : List LaneIx) (s : State) :
    (l.foldl laneToEgress s).supervisor = s.supervisor :=
  foldl_keep State.supervisor _ (fun _ _ => by simp) l s
@[simp] theorem foldl_laneToEgress_clock (l : List LaneIx) (s : State) :
    (l.foldl laneToEgress s).clock = s.clock :=
  foldl_keep State.clock _ (fun _ _ => by simp) l s
@[simp] theorem foldl_laneToEgress_tariff (l : List LaneIx) (s : State) :
    (l.foldl laneToEgress s).tariff = s.tariff :=
  foldl_keep State.tariff _ (fun _ _ => by simp) l s
@[simp] theorem foldl_laneToEgress_deny (l : List LaneIx) (s : State) :
    (l.foldl laneToEgress s).deny = s.deny :=
  foldl_keep State.deny _ (fun _ _ => by simp) l s
@[simp] theorem foldl_laneToEgress_draws (l : List LaneIx) (s : State) :
    (l.foldl laneToEgress s).draws = s.draws :=
  foldl_keep State.draws _ (fun _ _ => by simp) l s
@[simp] theorem foldl_laneToEgress_pending (l : List LaneIx) (s : State) :
    (l.foldl laneToEgress s).pending = s.pending :=
  foldl_keep State.pending _ (fun _ _ => by simp) l s
@[simp] theorem foldl_laneFromEgress_runTime (l : List LaneIx) (s : State) :
    (l.foldl laneFromEgress s).runTime = s.runTime :=
  foldl_keep State.runTime _ (fun _ _ => by simp) l s
@[simp] theorem foldl_laneFromEgress_supervisor (l : List LaneIx) (s : State) :
    (l.foldl laneFromEgress s).supervisor = s.supervisor :=
  foldl_keep State.supervisor _ (fun _ _ => by simp) l s
@[simp] theorem foldl_laneFromEgress_clock (l : List LaneIx) (s : State) :
    (l.foldl laneFromEgress s).clock = s.clock :=
  foldl_keep State.clock _ (fun _ _ => by simp) l s
@[simp] theorem foldl_laneFromEgress_tariff (l : List LaneIx) (s : State) :
    (l.foldl laneFromEgress s).tariff = s.tariff :=
  foldl_keep State.tariff _ (fun _ _ => by simp) l s
@[simp] theorem foldl_laneFromEgress_recent (l : List LaneIx) (s : State) :
    (l.foldl laneFromEgress s).recent = s.recent :=
  foldl_keep State.recent _ (fun _ _ => by simp) l s
@[simp] theorem foldl_laneFromEgress_deny (l : List LaneIx) (s : State) :
    (l.foldl laneFromEgress s).deny = s.deny :=
  foldl_keep State.deny _ (fun _ _ => by simp) l s
@[simp] theorem foldl_laneFromEgress_draws (l : List LaneIx) (s : State) :
    (l.foldl laneFromEgress s).draws = s.draws :=
  foldl_keep State.draws _ (fun _ _ => by simp) l s
@[simp] theorem foldl_laneFromEgress_pending (l : List LaneIx) (s : State) :
    (l.foldl laneFromEgress s).pending = s.pending :=
  foldl_keep State.pending _ (fun _ _ => by simp) l s
@[simp] theorem foldl_laneAtStart_runTime (l : List LaneIx) (s : State) :
    (l.foldl laneAtStart s).runTime = s.runTime :=
  foldl_keep State.runTime _ (fun _ _ => by simp) l s
@[simp] theorem foldl_laneAtStart_supervisor (l : List LaneIx) (s : State) :
    (l.foldl laneAtStart s).supervisor = s.supervisor :=
  foldl_keep State.supervisor _ (fun _ _ => by simp) l s
@[simp] theorem foldl_laneAtStart_clock (l : List LaneIx) (s : State) :
    (l.foldl laneAtStart s).clock = s.clock :=
  foldl_keep State.clock _ (fun _ _ => by simp) l s
@[simp] theorem foldl_laneAtStart_tariff (l : List LaneIx) (s : State) :
    (l.foldl laneAtStart s).tariff = s.tariff :=
  foldl_keep State.tariff _ (fun _ _ => by simp) l s
@[simp] theorem foldl_laneAtStart_recent (l : List LaneIx) (s : State) :
    (l.foldl laneAtStart s).recent = s.recent :=
  foldl_keep State.recent _ (fun _ _ => by simp) l s
@[simp] theorem foldl_laneAtStart_deny (l : List LaneIx) (s : State) :
    (l.foldl laneAtStart s).deny = s.deny :=
  foldl_keep State.deny _ (fun _ _ => by simp) l s
@[simp] theorem foldl_laneAtStart_draws (l : List LaneIx) (s : State) :
    (l.foldl laneAtStart s).draws = s.draws :=
  foldl_keep State.draws _ (fun _ _ => by simp) l s
@[simp] theorem foldl_laneAtStart_pending (l : List LaneIx) (s : State) :
    (l.foldl laneAtStart s).pending = s.pending :=
  foldl_keep State.pending _ (fun _ _ => by simp) l s
@[simp] theorem foldl_laneAtStop_runTime (l : List LaneIx) (s : State) :
    (l.foldl laneAtStop s).runTime = s.runTime :=
  foldl_keep State.runTime _ (fun _ _ => by simp) l s
@[simp] theorem foldl_laneAtStop_link (l : List LaneIx) (s : State) :
    (l.foldl laneAtStop s).link = s.link :=
  foldl_keep State.link _ (fun _ _ => by simp) l s
@[simp] theorem foldl_laneAtStop_supervisor (l : List LaneIx) (s : State) :
    (l.foldl laneAtStop s).supervisor = s.supervisor :=
  foldl_keep State.supervisor _ (fun _ _ => by simp) l s
@[simp] theorem foldl_laneAtStop_clock (l : List LaneIx) (s : State) :
    (l.foldl laneAtStop s).clock = s.clock :=
  foldl_keep State.clock _ (fun _ _ => by simp) l s
@[simp] theorem foldl_laneAtStop_tariff (l : List LaneIx) (s : State) :
    (l.foldl laneAtStop s).tariff = s.tariff :=
  foldl_keep State.tariff _ (fun _ _ => by simp) l s
@[simp] theorem foldl_laneAtStop_berths (l : List LaneIx) (s : State) :
    (l.foldl laneAtStop s).berths = s.berths :=
  foldl_keep State.berths _ (fun _ _ => by simp) l s
@[simp] theorem foldl_laneAtStop_recent (l : List LaneIx) (s : State) :
    (l.foldl laneAtStop s).recent = s.recent :=
  foldl_keep State.recent _ (fun _ _ => by simp) l s
@[simp] theorem foldl_laneAtStop_deny (l : List LaneIx) (s : State) :
    (l.foldl laneAtStop s).deny = s.deny :=
  foldl_keep State.deny _ (fun _ _ => by simp) l s
@[simp] theorem foldl_laneAtStop_journal (l : List LaneIx) (s : State) :
    (l.foldl laneAtStop s).journal = s.journal :=
  foldl_keep State.journal _ (fun _ _ => by simp) l s
@[simp] theorem foldl_laneAtStop_draws (l : List LaneIx) (s : State) :
    (l.foldl laneAtStop s).draws = s.draws :=
  foldl_keep State.draws _ (fun _ _ => by simp) l s
@[simp] theorem foldl_laneAtStop_pending (l : List LaneIx) (s : State) :
    (l.foldl laneAtStop s).pending = s.pending :=
  foldl_keep State.pending _ (fun _ _ => by simp) l s
@[simp] theorem foldl_setupLane_runTime (n : Nat) (r : SetupRequest) (l : List LaneIx) (s : State) :
    (l.foldl (setupLane n r) s).runTime = s.runTime :=
  foldl_keep State.runTime _ (fun _ _ => by simp) l s
@[simp] theorem foldl_setupLane_link (n : Nat) (r : SetupRequest) (l : List LaneIx) (s : State) :
    (l.foldl (setupLane n r) s).link = s.link :=
  foldl_keep State.link _ (fun _ _ => by simp) l s
@[simp] theorem foldl_setupLane_supervisor (n : Nat) (r : SetupRequest) (l : List LaneIx) (s : State) :
    (l.foldl (setupLane n r) s).supervisor = s.supervisor :=
  foldl_keep State.supervisor _ (fun _ _ => by simp) l s
@[simp] theorem foldl_setupLane_clock (n : Nat) (r : SetupRequest) (l : List LaneIx) (s : State) :
    (l.foldl (setupLane n r) s).clock = s.clock :=
  foldl_keep State.clock _ (fun _ _ => by simp) l s
@[simp] theorem foldl_setupLane_tariff (n : Nat) (r : SetupRequest) (l : List LaneIx) (s : State) :
    (l.foldl (setupLane n r) s).tariff = s.tariff :=
  foldl_keep State.tariff _ (fun _ _ => by simp) l s
@[simp] theorem foldl_setupLane_berths (n : Nat) (r : SetupRequest) (l : List LaneIx) (s : State) :
    (l.foldl (setupLane n r) s).berths = s.berths :=
  foldl_keep State.berths _ (fun _ _ => by simp) l s
@[simp] theorem foldl_setupLane_recent (n : Nat) (r : SetupRequest) (l : List LaneIx) (s : State) :
    (l.foldl (setupLane n r) s).recent = s.recent :=
  foldl_keep State.recent _ (fun _ _ => by simp) l s
@[simp] theorem foldl_setupLane_deny (n : Nat) (r : SetupRequest) (l : List LaneIx) (s : State) :
    (l.foldl (setupLane n r) s).deny = s.deny :=
  foldl_keep State.deny _ (fun _ _ => by simp) l s
@[simp] theorem foldl_setupLane_journal (n : Nat) (r : SetupRequest) (l : List LaneIx) (s : State) :
    (l.foldl (setupLane n r) s).journal = s.journal :=
  foldl_keep State.journal _ (fun _ _ => by simp) l s
@[simp] theorem foldl_setupLane_draws (n : Nat) (r : SetupRequest) (l : List LaneIx) (s : State) :
    (l.foldl (setupLane n r) s).draws = s.draws :=
  foldl_keep State.draws _ (fun _ _ => by simp) l s
@[simp] theorem foldl_setupLane_pending (n : Nat) (r : SetupRequest) (l : List LaneIx) (s : State) :
    (l.foldl (setupLane n r) s).pending = s.pending :=
  foldl_keep State.pending _ (fun _ _ => by simp) l s
@[simp] theorem foldl_laneAtRestart_runTime (l : List LaneIx) (s : State) :
    (l.foldl laneAtRestart s).runTime = s.runTime :=
  foldl_keep State.runTime _ (fun _ _ => by simp) l s
@[simp] theorem foldl_laneAtRestart_link (l : List LaneIx) (s : State) :
    (l.foldl laneAtRestart s).link = s.link :=
  foldl_keep State.link _ (fun _ _ => by simp) l s
@[simp] theorem foldl_laneAtRestart_supervisor (l : List LaneIx) (s : State) :
    (l.foldl laneAtRestart s).supervisor = s.supervisor :=
  foldl_keep State.supervisor _ (fun _ _ => by simp) l s
@[simp] theorem foldl_laneAtRestart_clock (l : List LaneIx) (s : State) :
    (l.foldl laneAtRestart s).clock = s.clock :=
  foldl_keep State.clock _ (fun _ _ => by simp) l s
@[simp] theorem foldl_laneAtRestart_tariff (l : List LaneIx) (s : State) :
    (l.foldl laneAtRestart s).tariff = s.tariff :=
  foldl_keep State.tariff _ (fun _ _ => by simp) l s
@[simp] theorem foldl_laneAtRestart_berths (l : List LaneIx) (s : State) :
    (l.foldl laneAtRestart s).berths = s.berths :=
  foldl_keep State.berths _ (fun _ _ => by simp) l s
@[simp] theorem foldl_laneAtRestart_recent (l : List LaneIx) (s : State) :
    (l.foldl laneAtRestart s).recent = s.recent :=
  foldl_keep State.recent _ (fun _ _ => by simp) l s
@[simp] theorem foldl_laneAtRestart_deny (l : List LaneIx) (s : State) :
    (l.foldl laneAtRestart s).deny = s.deny :=
  foldl_keep State.deny _ (fun _ _ => by simp) l s
@[simp] theorem foldl_laneAtRestart_journal (l : List LaneIx) (s : State) :
    (l.foldl laneAtRestart s).journal = s.journal :=
  foldl_keep State.journal _ (fun _ _ => by simp) l s
@[simp] theorem foldl_laneAtRestart_draws (l : List LaneIx) (s : State) :
    (l.foldl laneAtRestart s).draws = s.draws :=
  foldl_keep State.draws _ (fun _ _ => by simp) l s
@[simp] theorem foldl_laneAtRestart_pending (l : List LaneIx) (s : State) :
    (l.foldl laneAtRestart s).pending = s.pending :=
  foldl_keep State.pending _ (fun _ _ => by simp) l s
@[simp] theorem foldl_runTask_runTime (l : List TriggerTask) (s : State) :
    (l.foldl runTask s).runTime = s.runTime :=
  foldl_keep State.runTime _ (fun _ _ => by simp) l s
@[simp] theorem foldl_runTask_supervisor (l : List TriggerTask) (s : State) :
    (l.foldl runTask s).supervisor = s.supervisor :=
  foldl_keep State.supervisor _ (fun _ _ => by simp) l s
@[simp] theorem foldl_runTask_clock (l : List TriggerTask) (s : State) :
    (l.foldl runTask s).clock = s.clock :=
  foldl_keep State.clock _ (fun _ _ => by simp) l s
@[simp] theorem foldl_runTask_lanes (l : List TriggerTask) (s : State) :
    (l.foldl runTask s).lanes = s.lanes :=
  foldl_keep State.lanes _ (fun _ _ => by simp) l s
@[simp] theorem foldl_runTask_recent (l : List TriggerTask) (s : State) :
    (l.foldl runTask s).recent = s.recent :=
  foldl_keep State.recent _ (fun _ _ => by simp) l s
@[simp] theorem foldl_runTask_deny (l : List TriggerTask) (s : State) :
    (l.foldl runTask s).deny = s.deny :=
  foldl_keep State.deny _ (fun _ _ => by simp) l s
@[simp] theorem foldl_runTask_draws (l : List TriggerTask) (s : State) :
    (l.foldl runTask s).draws = s.draws :=
  foldl_keep State.draws _ (fun _ _ => by simp) l s
@[simp] theorem foldl_runTask_pending (l : List TriggerTask) (s : State) :
    (l.foldl runTask s).pending = s.pending :=
  foldl_keep State.pending _ (fun _ _ => by simp) l s

/-! ### freeOrder -/

@[simp] theorem freeOrder_runTime {α : Type} (xs : List α) (s : State) : (freeOrder xs s).2.runTime = s.runTime := by
  unfold freeOrder
  split <;> simp
@[simp] theorem freeOrder_link {α : Type} (xs : List α) (s : State) : (freeOrder xs s).2.link = s.link := by
  unfold freeOrder
  split <;> simp
@[simp] theorem freeOrder_supervisor {α : Type} (xs : List α) (s : State) : (freeOrder xs s).2.supervisor = s.supervisor := by
  unfold freeOrder
  split <;> simp
@[simp] theorem freeOrder_clock {α : Type} (xs : List α) (s : State) : (freeOrder xs s).2.clock = s.clock := by
  unfold freeOrder
  split <;> simp
@[simp] theorem freeOrder_tariff {α : Type} (xs : List α) (s : State) : (freeOrder xs s).2.tariff = s.tariff := by
  unfold freeOrder
  split <;> simp
@[simp] theorem freeOrder_berths {α : Type} (xs : List α) (s : State) : (freeOrder xs s).2.berths = s.berths := by
  unfold freeOrder
  split <;> simp
@[simp] theorem freeOrder_lanes {α : Type} (xs : List α) (s : State) : (freeOrder xs s).2.lanes = s.lanes := by
  unfold freeOrder
  split <;> simp
@[simp] theorem freeOrder_lamps {α : Type} (xs : List α) (s : State) : (freeOrder xs s).2.lamps = s.lamps := by
  unfold freeOrder
  split <;> simp
@[simp] theorem freeOrder_recent {α : Type} (xs : List α) (s : State) : (freeOrder xs s).2.recent = s.recent := by
  unfold freeOrder
  split <;> simp
@[simp] theorem freeOrder_deny {α : Type} (xs : List α) (s : State) : (freeOrder xs s).2.deny = s.deny := by
  unfold freeOrder
  split <;> simp
@[simp] theorem freeOrder_journal {α : Type} (xs : List α) (s : State) : (freeOrder xs s).2.journal = s.journal := by
  unfold freeOrder
  split <;> simp
@[simp] theorem freeOrder_pending {α : Type} (xs : List α) (s : State) : (freeOrder xs s).2.pending = s.pending := by
  unfold freeOrder
  split <;> simp

/-! ### giveTrigger -/

@[simp] theorem giveTrigger_runTime (s : State) : (giveTrigger s).runTime = s.runTime := by simp [giveTrigger]
@[simp] theorem giveTrigger_supervisor (s : State) : (giveTrigger s).supervisor = s.supervisor :=
  by simp [giveTrigger]
@[simp] theorem giveTrigger_clock (s : State) : (giveTrigger s).clock = s.clock := by simp [giveTrigger]
@[simp] theorem giveTrigger_lanes (s : State) : (giveTrigger s).lanes = s.lanes := by simp [giveTrigger]
@[simp] theorem giveTrigger_recent (s : State) : (giveTrigger s).recent = s.recent := by simp [giveTrigger]
@[simp] theorem giveTrigger_deny (s : State) : (giveTrigger s).deny = s.deny := by simp [giveTrigger]
@[simp] theorem giveTrigger_pending (s : State) : (giveTrigger s).pending = s.pending := by simp [giveTrigger]

/-! ### serviceAdvance -/

@[simp] theorem serviceAdvance_runTime (s : State) : (serviceAdvance s).runTime = s.runTime := by
  unfold serviceAdvance
  dsimp only
  repeat' split
  all_goals simp
@[simp] theorem serviceAdvance_supervisor (s : State) : (serviceAdvance s).supervisor = s.supervisor := by
  unfold serviceAdvance
  dsimp only
  repeat' split
  all_goals simp
@[simp] theorem serviceAdvance_lanes (s : State) : (serviceAdvance s).lanes = s.lanes := by
  unfold serviceAdvance
  dsimp only
  repeat' split
  all_goals simp
@[simp] theorem serviceAdvance_recent (s : State) : (serviceAdvance s).recent = s.recent := by
  unfold serviceAdvance
  dsimp only
  repeat' split
  all_goals simp
@[simp] theorem serviceAdvance_deny (s : State) : (serviceAdvance s).deny = s.deny := by
  unfold serviceAdvance
  dsimp only
  repeat' split
  all_goals simp
@[simp] theorem serviceAdvance_pending (s : State) : (serviceAdvance s).pending = s.pending := by
  unfold serviceAdvance
  dsimp only
  repeat' split
  all_goals simp

/-! ### windowExpiry -/

@[simp] theorem windowExpiry_runTime (s : State) : (windowExpiry s).runTime = s.runTime := by
  unfold windowExpiry
  split <;> simp
@[simp] theorem windowExpiry_supervisor (s : State) : (windowExpiry s).supervisor = s.supervisor := by
  unfold windowExpiry
  split <;> simp
@[simp] theorem windowExpiry_berths (s : State) : (windowExpiry s).berths = s.berths := by
  unfold windowExpiry
  split <;> simp
@[simp] theorem windowExpiry_lanes (s : State) : (windowExpiry s).lanes = s.lanes := by
  unfold windowExpiry
  split <;> simp
@[simp] theorem windowExpiry_lamps (s : State) : (windowExpiry s).lamps = s.lamps := by
  unfold windowExpiry
  split <;> simp
@[simp] theorem windowExpiry_recent (s : State) : (windowExpiry s).recent = s.recent := by
  unfold windowExpiry
  split <;> simp
@[simp] theorem windowExpiry_deny (s : State) : (windowExpiry s).deny = s.deny := by
  unfold windowExpiry
  split <;> simp
@[simp] theorem windowExpiry_journal (s : State) : (windowExpiry s).journal = s.journal := by
  unfold windowExpiry
  split <;> simp
@[simp] theorem windowExpiry_draws (s : State) : (windowExpiry s).draws = s.draws := by
  unfold windowExpiry
  split <;> simp
@[simp] theorem windowExpiry_pending (s : State) : (windowExpiry s).pending = s.pending := by
  unfold windowExpiry
  split <;> simp

/-! ### freeRunStart -/

@[simp] theorem freeRunStart_runTime (t : ServiceTime) (s : State) : (freeRunStart t s).runTime = s.runTime := by
  unfold freeRunStart
  repeat' split
  all_goals simp
@[simp] theorem freeRunStart_supervisor (t : ServiceTime) (s : State) : (freeRunStart t s).supervisor = s.supervisor := by
  unfold freeRunStart
  repeat' split
  all_goals simp
@[simp] theorem freeRunStart_lanes (t : ServiceTime) (s : State) : (freeRunStart t s).lanes = s.lanes := by
  unfold freeRunStart
  repeat' split
  all_goals simp
@[simp] theorem freeRunStart_recent (t : ServiceTime) (s : State) : (freeRunStart t s).recent = s.recent := by
  unfold freeRunStart
  repeat' split
  all_goals simp
@[simp] theorem freeRunStart_deny (t : ServiceTime) (s : State) : (freeRunStart t s).deny = s.deny := by
  unfold freeRunStart
  repeat' split
  all_goals simp
@[simp] theorem freeRunStart_pending (t : ServiceTime) (s : State) : (freeRunStart t s).pending = s.pending := by
  unfold freeRunStart
  repeat' split
  all_goals simp

/-! ### enterEgress -/

@[simp] theorem enterEgress_runTime (c : Option EgressCause) (s : State) : (enterEgress c s).runTime = s.runTime :=
  by simp [enterEgress]
@[simp] theorem enterEgress_clock (c : Option EgressCause) (s : State) : (enterEgress c s).clock = s.clock :=
  by simp [enterEgress]
@[simp] theorem enterEgress_tariff (c : Option EgressCause) (s : State) : (enterEgress c s).tariff = s.tariff :=
  by simp [enterEgress]
@[simp] theorem enterEgress_deny (c : Option EgressCause) (s : State) : (enterEgress c s).deny = s.deny :=
  by simp [enterEgress]
@[simp] theorem enterEgress_draws (c : Option EgressCause) (s : State) : (enterEgress c s).draws = s.draws :=
  by simp [enterEgress]
@[simp] theorem enterEgress_pending (c : Option EgressCause) (s : State) : (enterEgress c s).pending = s.pending :=
  by simp [enterEgress]

/-! ### leaveEgress -/

@[simp] theorem leaveEgress_runTime (c : EgressCause) (s : State) : (leaveEgress c s).runTime = s.runTime :=
  by simp [leaveEgress]
@[simp] theorem leaveEgress_clock (c : EgressCause) (s : State) : (leaveEgress c s).clock = s.clock :=
  by simp [leaveEgress]
@[simp] theorem leaveEgress_tariff (c : EgressCause) (s : State) : (leaveEgress c s).tariff = s.tariff :=
  by simp [leaveEgress]
@[simp] theorem leaveEgress_deny (c : EgressCause) (s : State) : (leaveEgress c s).deny = s.deny :=
  by simp [leaveEgress]
@[simp] theorem leaveEgress_draws (c : EgressCause) (s : State) : (leaveEgress c s).draws = s.draws :=
  by simp [leaveEgress]
@[simp] theorem leaveEgress_pending (c : EgressCause) (s : State) : (leaveEgress c s).pending = s.pending :=
  by simp [leaveEgress]

/-! ### demandEvent -/

@[simp] theorem demandEvent_runTime (d : Bool) (c : EgressCause) (s : State) : (demandEvent d c s).runTime = s.runTime := by
  unfold demandEvent
  repeat' split
  all_goals simp
@[simp] theorem demandEvent_clock (d : Bool) (c : EgressCause) (s : State) : (demandEvent d c s).clock = s.clock := by
  unfold demandEvent
  repeat' split
  all_goals simp
@[simp] theorem demandEvent_tariff (d : Bool) (c : EgressCause) (s : State) : (demandEvent d c s).tariff = s.tariff := by
  unfold demandEvent
  repeat' split
  all_goals simp
@[simp] theorem demandEvent_deny (d : Bool) (c : EgressCause) (s : State) : (demandEvent d c s).deny = s.deny := by
  unfold demandEvent
  repeat' split
  all_goals simp
@[simp] theorem demandEvent_draws (d : Bool) (c : EgressCause) (s : State) : (demandEvent d c s).draws = s.draws := by
  unfold demandEvent
  repeat' split
  all_goals simp
@[simp] theorem demandEvent_pending (d : Bool) (c : EgressCause) (s : State) : (demandEvent d c s).pending = s.pending := by
  unfold demandEvent
  repeat' split
  all_goals simp

/-! ### setLatch -/

@[simp] theorem setLatch_runTime (v : Bool) (s : State) : (setLatch v s).runTime = s.runTime := by simp [setLatch]
@[simp] theorem setLatch_clock (v : Bool) (s : State) : (setLatch v s).clock = s.clock := by simp [setLatch]
@[simp] theorem setLatch_tariff (v : Bool) (s : State) : (setLatch v s).tariff = s.tariff := by simp [setLatch]
@[simp] theorem setLatch_deny (v : Bool) (s : State) : (setLatch v s).deny = s.deny := by simp [setLatch]
@[simp] theorem setLatch_draws (v : Bool) (s : State) : (setLatch v s).draws = s.draws := by simp [setLatch]
@[simp] theorem setLatch_pending (v : Bool) (s : State) : (setLatch v s).pending = s.pending := by simp [setLatch]

/-! ### lineRaw -/

@[simp] theorem lineRaw_runTime (v : Bool) (s : State) : (lineRaw v s).runTime = s.runTime := by
  unfold lineRaw
  dsimp only
  repeat' split
  all_goals simp
@[simp] theorem lineRaw_link (v : Bool) (s : State) : (lineRaw v s).link = s.link := by
  unfold lineRaw
  dsimp only
  repeat' split
  all_goals simp
@[simp] theorem lineRaw_clock (v : Bool) (s : State) : (lineRaw v s).clock = s.clock := by
  unfold lineRaw
  dsimp only
  repeat' split
  all_goals simp
@[simp] theorem lineRaw_tariff (v : Bool) (s : State) : (lineRaw v s).tariff = s.tariff := by
  unfold lineRaw
  dsimp only
  repeat' split
  all_goals simp
@[simp] theorem lineRaw_berths (v : Bool) (s : State) : (lineRaw v s).berths = s.berths := by
  unfold lineRaw
  dsimp only
  repeat' split
  all_goals simp
@[simp] theorem lineRaw_lanes (v : Bool) (s : State) : (lineRaw v s).lanes = s.lanes := by
  unfold lineRaw
  dsimp only
  repeat' split
  all_goals simp
@[simp] theorem lineRaw_lamps (v : Bool) (s : State) : (lineRaw v s).lamps = s.lamps := by
  unfold lineRaw
  dsimp only
  repeat' split
  all_goals simp
@[simp] theorem lineRaw_recent (v : Bool) (s : State) : (lineRaw v s).recent = s.recent := by
  unfold lineRaw
  dsimp only
  repeat' split
  all_goals simp
@[simp] theorem lineRaw_deny (v : Bool) (s : State) : (lineRaw v s).deny = s.deny := by
  unfold lineRaw
  dsimp only
  repeat' split
  all_goals simp
@[simp] theorem lineRaw_journal (v : Bool) (s : State) : (lineRaw v s).journal = s.journal := by
  unfold lineRaw
  dsimp only
  repeat' split
  all_goals simp
@[simp] theorem lineRaw_draws (v : Bool) (s : State) : (lineRaw v s).draws = s.draws := by
  unfold lineRaw
  dsimp only
  repeat' split
  all_goals simp
@[simp] theorem lineRaw_pending (v : Bool) (s : State) : (lineRaw v s).pending = s.pending := by
  unfold lineRaw
  dsimp only
  repeat' split
  all_goals simp

/-! ### lineAccepted -/

@[simp] theorem lineAccepted_runTime (s : State) : (lineAccepted s).runTime = s.runTime := by
  unfold lineAccepted
  split <;> simp
@[simp] theorem lineAccepted_clock (s : State) : (lineAccepted s).clock = s.clock := by
  unfold lineAccepted
  split <;> simp
@[simp] theorem lineAccepted_tariff (s : State) : (lineAccepted s).tariff = s.tariff := by
  unfold lineAccepted
  split <;> simp
@[simp] theorem lineAccepted_deny (s : State) : (lineAccepted s).deny = s.deny := by
  unfold lineAccepted
  split <;> simp
@[simp] theorem lineAccepted_draws (s : State) : (lineAccepted s).draws = s.draws := by
  unfold lineAccepted
  split <;> simp
@[simp] theorem lineAccepted_pending (s : State) : (lineAccepted s).pending = s.pending := by
  unfold lineAccepted
  split <;> simp

/-! ### ownTimeMark -/

@[simp] theorem ownTimeMark_runTime (t : ServiceTime) (s : State) : (ownTimeMark t s).1.runTime = s.runTime := by
  unfold ownTimeMark
  split <;> simp
@[simp] theorem ownTimeMark_supervisor (t : ServiceTime) (s : State) : (ownTimeMark t s).1.supervisor = s.supervisor := by
  unfold ownTimeMark
  split <;> simp
@[simp] theorem ownTimeMark_lanes (t : ServiceTime) (s : State) : (ownTimeMark t s).1.lanes = s.lanes := by
  unfold ownTimeMark
  split <;> simp
@[simp] theorem ownTimeMark_recent (t : ServiceTime) (s : State) : (ownTimeMark t s).1.recent = s.recent := by
  unfold ownTimeMark
  split <;> simp
@[simp] theorem ownTimeMark_deny (t : ServiceTime) (s : State) : (ownTimeMark t s).1.deny = s.deny := by
  unfold ownTimeMark
  split <;> simp
@[simp] theorem ownTimeMark_pending (t : ServiceTime) (s : State) : (ownTimeMark t s).1.pending = s.pending := by
  unfold ownTimeMark
  split <;> simp

/-! ### ownTariffLoad -/

@[simp] theorem ownTariffLoad_runTime (n : Nat) (c : SegmentContents) (s : State) : (ownTariffLoad n c s).1.runTime = s.runTime := by
  unfold ownTariffLoad
  dsimp only
  repeat' split
  all_goals simp
@[simp] theorem ownTariffLoad_link (n : Nat) (c : SegmentContents) (s : State) : (ownTariffLoad n c s).1.link = s.link := by
  unfold ownTariffLoad
  dsimp only
  repeat' split
  all_goals simp
@[simp] theorem ownTariffLoad_supervisor (n : Nat) (c : SegmentContents) (s : State) : (ownTariffLoad n c s).1.supervisor = s.supervisor := by
  unfold ownTariffLoad
  dsimp only
  repeat' split
  all_goals simp
@[simp] theorem ownTariffLoad_clock (n : Nat) (c : SegmentContents) (s : State) : (ownTariffLoad n c s).1.clock = s.clock := by
  unfold ownTariffLoad
  dsimp only
  repeat' split
  all_goals simp
@[simp] theorem ownTariffLoad_berths (n : Nat) (c : SegmentContents) (s : State) : (ownTariffLoad n c s).1.berths = s.berths := by
  unfold ownTariffLoad
  dsimp only
  repeat' split
  all_goals simp
@[simp] theorem ownTariffLoad_lanes (n : Nat) (c : SegmentContents) (s : State) : (ownTariffLoad n c s).1.lanes = s.lanes := by
  unfold ownTariffLoad
  dsimp only
  repeat' split
  all_goals simp
@[simp] theorem ownTariffLoad_lamps (n : Nat) (c : SegmentContents) (s : State) : (ownTariffLoad n c s).1.lamps = s.lamps := by
  unfold ownTariffLoad
  dsimp only
  repeat' split
  all_goals simp
@[simp] theorem ownTariffLoad_recent (n : Nat) (c : SegmentContents) (s : State) : (ownTariffLoad n c s).1.recent = s.recent := by
  unfold ownTariffLoad
  dsimp only
  repeat' split
  all_goals simp
@[simp] theorem ownTariffLoad_deny (n : Nat) (c : SegmentContents) (s : State) : (ownTariffLoad n c s).1.deny = s.deny := by
  unfold ownTariffLoad
  dsimp only
  repeat' split
  all_goals simp
@[simp] theorem ownTariffLoad_journal (n : Nat) (c : SegmentContents) (s : State) : (ownTariffLoad n c s).1.journal = s.journal := by
  unfold ownTariffLoad
  dsimp only
  repeat' split
  all_goals simp
@[simp] theorem ownTariffLoad_draws (n : Nat) (c : SegmentContents) (s : State) : (ownTariffLoad n c s).1.draws = s.draws := by
  unfold ownTariffLoad
  dsimp only
  repeat' split
  all_goals simp
@[simp] theorem ownTariffLoad_pending (n : Nat) (c : SegmentContents) (s : State) : (ownTariffLoad n c s).1.pending = s.pending := by
  unfold ownTariffLoad
  dsimp only
  repeat' split
  all_goals simp

/-! ### ownTariffClear -/

@[simp] theorem ownTariffClear_runTime (s : State) : (ownTariffClear s).1.runTime = s.runTime := by
  unfold ownTariffClear
  dsimp only
  repeat' split
  all_goals simp
@[simp] theorem ownTariffClear_link (s : State) : (ownTariffClear s).1.link = s.link := by
  unfold ownTariffClear
  dsimp only
  repeat' split
  all_goals simp
@[simp] theorem ownTariffClear_supervisor (s : State) : (ownTariffClear s).1.supervisor = s.supervisor := by
  unfold ownTariffClear
  dsimp only
  repeat' split
  all_goals simp
@[simp] theorem ownTariffClear_clock (s : State) : (ownTariffClear s).1.clock = s.clock := by
  unfold ownTariffClear
  dsimp only
  repeat' split
  all_goals simp
@[simp] theorem ownTariffClear_berths (s : State) : (ownTariffClear s).1.berths = s.berths := by
  unfold ownTariffClear
  dsimp only
  repeat' split
  all_goals simp
@[simp] theorem ownTariffClear_lanes (s : State) : (ownTariffClear s).1.lanes = s.lanes := by
  unfold ownTariffClear
  dsimp only
  repeat' split
  all_goals simp
@[simp] theorem ownTariffClear_lamps (s : State) : (ownTariffClear s).1.lamps = s.lamps := by
  unfold ownTariffClear
  dsimp only
  repeat' split
  all_goals simp
@[simp] theorem ownTariffClear_recent (s : State) : (ownTariffClear s).1.recent = s.recent := by
  unfold ownTariffClear
  dsimp only
  repeat' split
  all_goals simp
@[simp] theorem ownTariffClear_deny (s : State) : (ownTariffClear s).1.deny = s.deny := by
  unfold ownTariffClear
  dsimp only
  repeat' split
  all_goals simp
@[simp] theorem ownTariffClear_journal (s : State) : (ownTariffClear s).1.journal = s.journal := by
  unfold ownTariffClear
  dsimp only
  repeat' split
  all_goals simp
@[simp] theorem ownTariffClear_draws (s : State) : (ownTariffClear s).1.draws = s.draws := by
  unfold ownTariffClear
  dsimp only
  repeat' split
  all_goals simp
@[simp] theorem ownTariffClear_pending (s : State) : (ownTariffClear s).1.pending = s.pending := by
  unfold ownTariffClear
  dsimp only
  repeat' split
  all_goals simp

/-! ### ownTariffCommit -/

@[simp] theorem ownTariffCommit_runTime (g : Nat) (e : Option ServiceTime) (s : State) : (ownTariffCommit g e s).1.runTime = s.runTime := by
  unfold ownTariffCommit commitReply
  repeat' split
  all_goals simp
@[simp] theorem ownTariffCommit_supervisor (g : Nat) (e : Option ServiceTime) (s : State) : (ownTariffCommit g e s).1.supervisor = s.supervisor := by
  unfold ownTariffCommit commitReply
  repeat' split
  all_goals simp
@[simp] theorem ownTariffCommit_clock (g : Nat) (e : Option ServiceTime) (s : State) : (ownTariffCommit g e s).1.clock = s.clock := by
  unfold ownTariffCommit commitReply
  repeat' split
  all_goals simp
@[simp] theorem ownTariffCommit_berths (g : Nat) (e : Option ServiceTime) (s : State) : (ownTariffCommit g e s).1.berths = s.berths := by
  unfold ownTariffCommit commitReply
  repeat' split
  all_goals simp
@[simp] theorem ownTariffCommit_lanes (g : Nat) (e : Option ServiceTime) (s : State) : (ownTariffCommit g e s).1.lanes = s.lanes := by
  unfold ownTariffCommit commitReply
  repeat' split
  all_goals simp
@[simp] theorem ownTariffCommit_lamps (g : Nat) (e : Option ServiceTime) (s : State) : (ownTariffCommit g e s).1.lamps = s.lamps := by
  unfold ownTariffCommit commitReply
  repeat' split
  all_goals simp
@[simp] theorem ownTariffCommit_recent (g : Nat) (e : Option ServiceTime) (s : State) : (ownTariffCommit g e s).1.recent = s.recent := by
  unfold ownTariffCommit commitReply
  repeat' split
  all_goals simp
@[simp] theorem ownTariffCommit_deny (g : Nat) (e : Option ServiceTime) (s : State) : (ownTariffCommit g e s).1.deny = s.deny := by
  unfold ownTariffCommit commitReply
  repeat' split
  all_goals simp
@[simp] theorem ownTariffCommit_journal (g : Nat) (e : Option ServiceTime) (s : State) : (ownTariffCommit g e s).1.journal = s.journal := by
  unfold ownTariffCommit commitReply
  repeat' split
  all_goals simp
@[simp] theorem ownTariffCommit_draws (g : Nat) (e : Option ServiceTime) (s : State) : (ownTariffCommit g e s).1.draws = s.draws := by
  unfold ownTariffCommit commitReply
  repeat' split
  all_goals simp
@[simp] theorem ownTariffCommit_pending (g : Nat) (e : Option ServiceTime) (s : State) : (ownTariffCommit g e s).1.pending = s.pending := by
  unfold ownTariffCommit commitReply
  repeat' split
  all_goals simp

/-! ### ownTariffCancel -/

@[simp] theorem ownTariffCancel_runTime (s : State) : (ownTariffCancel s).1.runTime = s.runTime := by
  unfold ownTariffCancel
  split <;> simp
@[simp] theorem ownTariffCancel_supervisor (s : State) : (ownTariffCancel s).1.supervisor = s.supervisor := by
  unfold ownTariffCancel
  split <;> simp
@[simp] theorem ownTariffCancel_clock (s : State) : (ownTariffCancel s).1.clock = s.clock := by
  unfold ownTariffCancel
  split <;> simp
@[simp] theorem ownTariffCancel_berths (s : State) : (ownTariffCancel s).1.berths = s.berths := by
  unfold ownTariffCancel
  split <;> simp
@[simp] theorem ownTariffCancel_lanes (s : State) : (ownTariffCancel s).1.lanes = s.lanes := by
  unfold ownTariffCancel
  split <;> simp
@[simp] theorem ownTariffCancel_lamps (s : State) : (ownTariffCancel s).1.lamps = s.lamps := by
  unfold ownTariffCancel
  split <;> simp
@[simp] theorem ownTariffCancel_recent (s : State) : (ownTariffCancel s).1.recent = s.recent := by
  unfold ownTariffCancel
  split <;> simp
@[simp] theorem ownTariffCancel_deny (s : State) : (ownTariffCancel s).1.deny = s.deny := by
  unfold ownTariffCancel
  split <;> simp
@[simp] theorem ownTariffCancel_journal (s : State) : (ownTariffCancel s).1.journal = s.journal := by
  unfold ownTariffCancel
  split <;> simp
@[simp] theorem ownTariffCancel_draws (s : State) : (ownTariffCancel s).1.draws = s.draws := by
  unfold ownTariffCancel
  split <;> simp
@[simp] theorem ownTariffCancel_pending (s : State) : (ownTariffCancel s).1.pending = s.pending := by
  unfold ownTariffCancel
  split <;> simp

/-! ### ownTariffQuery -/

@[simp] theorem ownTariffQuery_runTime (s : State) : (ownTariffQuery s).1.runTime = s.runTime := rfl
@[simp] theorem ownTariffQuery_link (s : State) : (ownTariffQuery s).1.link = s.link := rfl
@[simp] theorem ownTariffQuery_supervisor (s : State) : (ownTariffQuery s).1.supervisor = s.supervisor := rfl
@[simp] theorem ownTariffQuery_clock (s : State) : (ownTariffQuery s).1.clock = s.clock := rfl
@[simp] theorem ownTariffQuery_tariff (s : State) : (ownTariffQuery s).1.tariff = s.tariff := rfl
@[simp] theorem ownTariffQuery_berths (s : State) : (ownTariffQuery s).1.berths = s.berths := rfl
@[simp] theorem ownTariffQuery_lanes (s : State) : (ownTariffQuery s).1.lanes = s.lanes := rfl
@[simp] theorem ownTariffQuery_lamps (s : State) : (ownTariffQuery s).1.lamps = s.lamps := rfl
@[simp] theorem ownTariffQuery_recent (s : State) : (ownTariffQuery s).1.recent = s.recent := rfl
@[simp] theorem ownTariffQuery_deny (s : State) : (ownTariffQuery s).1.deny = s.deny := rfl
@[simp] theorem ownTariffQuery_journal (s : State) : (ownTariffQuery s).1.journal = s.journal := rfl
@[simp] theorem ownTariffQuery_draws (s : State) : (ownTariffQuery s).1.draws = s.draws := rfl
@[simp] theorem ownTariffQuery_pending (s : State) : (ownTariffQuery s).1.pending = s.pending := rfl

/-! ### ownDenyAdd -/

@[simp] theorem ownDenyAdd_runTime (n : Nat) (xs : List Nat) (s : State) : (ownDenyAdd n xs s).1.runTime = s.runTime := by
  unfold ownDenyAdd
  split <;> simp
@[simp] theorem ownDenyAdd_link (n : Nat) (xs : List Nat) (s : State) : (ownDenyAdd n xs s).1.link = s.link := by
  unfold ownDenyAdd
  split <;> simp
@[simp] theorem ownDenyAdd_supervisor (n : Nat) (xs : List Nat) (s : State) : (ownDenyAdd n xs s).1.supervisor = s.supervisor := by
  unfold ownDenyAdd
  split <;> simp
@[simp] theorem ownDenyAdd_clock (n : Nat) (xs : List Nat) (s : State) : (ownDenyAdd n xs s).1.clock = s.clock := by
  unfold ownDenyAdd
  split <;> simp
@[simp] theorem ownDenyAdd_tariff (n : Nat) (xs : List Nat) (s : State) : (ownDenyAdd n xs s).1.tariff = s.tariff := by
  unfold ownDenyAdd
  split <;> simp
@[simp] theorem ownDenyAdd_berths (n : Nat) (xs : List Nat) (s : State) : (ownDenyAdd n xs s).1.berths = s.berths := by
  unfold ownDenyAdd
  split <;> simp
@[simp] theorem ownDenyAdd_lanes (n : Nat) (xs : List Nat) (s : State) : (ownDenyAdd n xs s).1.lanes = s.lanes := by
  unfold ownDenyAdd
  split <;> simp
@[simp] theorem ownDenyAdd_lamps (n : Nat) (xs : List Nat) (s : State) : (ownDenyAdd n xs s).1.lamps = s.lamps := by
  unfold ownDenyAdd
  split <;> simp
@[simp] theorem ownDenyAdd_recent (n : Nat) (xs : List Nat) (s : State) : (ownDenyAdd n xs s).1.recent = s.recent := by
  unfold ownDenyAdd
  split <;> simp
@[simp] theorem ownDenyAdd_journal (n : Nat) (xs : List Nat) (s : State) : (ownDenyAdd n xs s).1.journal = s.journal := by
  unfold ownDenyAdd
  split <;> simp
@[simp] theorem ownDenyAdd_draws (n : Nat) (xs : List Nat) (s : State) : (ownDenyAdd n xs s).1.draws = s.draws := by
  unfold ownDenyAdd
  split <;> simp
@[simp] theorem ownDenyAdd_pending (n : Nat) (xs : List Nat) (s : State) : (ownDenyAdd n xs s).1.pending = s.pending := by
  unfold ownDenyAdd
  split <;> simp

/-! ### ownDenyRemove -/

@[simp] theorem ownDenyRemove_runTime (n : Nat) (xs : List Nat) (s : State) : (ownDenyRemove n xs s).1.runTime = s.runTime := by
  unfold ownDenyRemove
  split <;> simp
@[simp] theorem ownDenyRemove_link (n : Nat) (xs : List Nat) (s : State) : (ownDenyRemove n xs s).1.link = s.link := by
  unfold ownDenyRemove
  split <;> simp
@[simp] theorem ownDenyRemove_supervisor (n : Nat) (xs : List Nat) (s : State) : (ownDenyRemove n xs s).1.supervisor = s.supervisor := by
  unfold ownDenyRemove
  split <;> simp
@[simp] theorem ownDenyRemove_clock (n : Nat) (xs : List Nat) (s : State) : (ownDenyRemove n xs s).1.clock = s.clock := by
  unfold ownDenyRemove
  split <;> simp
@[simp] theorem ownDenyRemove_tariff (n : Nat) (xs : List Nat) (s : State) : (ownDenyRemove n xs s).1.tariff = s.tariff := by
  unfold ownDenyRemove
  split <;> simp
@[simp] theorem ownDenyRemove_berths (n : Nat) (xs : List Nat) (s : State) : (ownDenyRemove n xs s).1.berths = s.berths := by
  unfold ownDenyRemove
  split <;> simp
@[simp] theorem ownDenyRemove_lanes (n : Nat) (xs : List Nat) (s : State) : (ownDenyRemove n xs s).1.lanes = s.lanes := by
  unfold ownDenyRemove
  split <;> simp
@[simp] theorem ownDenyRemove_lamps (n : Nat) (xs : List Nat) (s : State) : (ownDenyRemove n xs s).1.lamps = s.lamps := by
  unfold ownDenyRemove
  split <;> simp
@[simp] theorem ownDenyRemove_recent (n : Nat) (xs : List Nat) (s : State) : (ownDenyRemove n xs s).1.recent = s.recent := by
  unfold ownDenyRemove
  split <;> simp
@[simp] theorem ownDenyRemove_journal (n : Nat) (xs : List Nat) (s : State) : (ownDenyRemove n xs s).1.journal = s.journal := by
  unfold ownDenyRemove
  split <;> simp
@[simp] theorem ownDenyRemove_draws (n : Nat) (xs : List Nat) (s : State) : (ownDenyRemove n xs s).1.draws = s.draws := by
  unfold ownDenyRemove
  split <;> simp
@[simp] theorem ownDenyRemove_pending (n : Nat) (xs : List Nat) (s : State) : (ownDenyRemove n xs s).1.pending = s.pending := by
  unfold ownDenyRemove
  split <;> simp

/-! ### ownDenyClear -/

@[simp] theorem ownDenyClear_runTime (s : State) : (ownDenyClear s).1.runTime = s.runTime := by
  unfold ownDenyClear
  split <;> simp
@[simp] theorem ownDenyClear_link (s : State) : (ownDenyClear s).1.link = s.link := by
  unfold ownDenyClear
  split <;> simp
@[simp] theorem ownDenyClear_supervisor (s : State) : (ownDenyClear s).1.supervisor = s.supervisor := by
  unfold ownDenyClear
  split <;> simp
@[simp] theorem ownDenyClear_clock (s : State) : (ownDenyClear s).1.clock = s.clock := by
  unfold ownDenyClear
  split <;> simp
@[simp] theorem ownDenyClear_tariff (s : State) : (ownDenyClear s).1.tariff = s.tariff := by
  unfold ownDenyClear
  split <;> simp
@[simp] theorem ownDenyClear_berths (s : State) : (ownDenyClear s).1.berths = s.berths := by
  unfold ownDenyClear
  split <;> simp
@[simp] theorem ownDenyClear_lanes (s : State) : (ownDenyClear s).1.lanes = s.lanes := by
  unfold ownDenyClear
  split <;> simp
@[simp] theorem ownDenyClear_lamps (s : State) : (ownDenyClear s).1.lamps = s.lamps := by
  unfold ownDenyClear
  split <;> simp
@[simp] theorem ownDenyClear_recent (s : State) : (ownDenyClear s).1.recent = s.recent := by
  unfold ownDenyClear
  split <;> simp
@[simp] theorem ownDenyClear_journal (s : State) : (ownDenyClear s).1.journal = s.journal := by
  unfold ownDenyClear
  split <;> simp
@[simp] theorem ownDenyClear_draws (s : State) : (ownDenyClear s).1.draws = s.draws := by
  unfold ownDenyClear
  split <;> simp
@[simp] theorem ownDenyClear_pending (s : State) : (ownDenyClear s).1.pending = s.pending := by
  unfold ownDenyClear
  split <;> simp

/-! ### ownDenyCheck -/

@[simp] theorem ownDenyCheck_runTime (c : Nat) (s : State) : (ownDenyCheck c s).1.runTime = s.runTime := by
  unfold ownDenyCheck
  split <;> simp
@[simp] theorem ownDenyCheck_link (c : Nat) (s : State) : (ownDenyCheck c s).1.link = s.link := by
  unfold ownDenyCheck
  split <;> simp
@[simp] theorem ownDenyCheck_supervisor (c : Nat) (s : State) : (ownDenyCheck c s).1.supervisor = s.supervisor := by
  unfold ownDenyCheck
  split <;> simp
@[simp] theorem ownDenyCheck_clock (c : Nat) (s : State) : (ownDenyCheck c s).1.clock = s.clock := by
  unfold ownDenyCheck
  split <;> simp
@[simp] theorem ownDenyCheck_tariff (c : Nat) (s : State) : (ownDenyCheck c s).1.tariff = s.tariff := by
  unfold ownDenyCheck
  split <;> simp
@[simp] theorem ownDenyCheck_berths (c : Nat) (s : State) : (ownDenyCheck c s).1.berths = s.berths := by
  unfold ownDenyCheck
  split <;> simp
@[simp] theorem ownDenyCheck_lanes (c : Nat) (s : State) : (ownDenyCheck c s).1.lanes = s.lanes := by
  unfold ownDenyCheck
  split <;> simp
@[simp] theorem ownDenyCheck_lamps (c : Nat) (s : State) : (ownDenyCheck c s).1.lamps = s.lamps := by
  unfold ownDenyCheck
  split <;> simp
@[simp] theorem ownDenyCheck_recent (c : Nat) (s : State) : (ownDenyCheck c s).1.recent = s.recent := by
  unfold ownDenyCheck
  split <;> simp
@[simp] theorem ownDenyCheck_deny (c : Nat) (s : State) : (ownDenyCheck c s).1.deny = s.deny := by
  unfold ownDenyCheck
  split <;> simp
@[simp] theorem ownDenyCheck_journal (c : Nat) (s : State) : (ownDenyCheck c s).1.journal = s.journal := by
  unfold ownDenyCheck
  split <;> simp
@[simp] theorem ownDenyCheck_draws (c : Nat) (s : State) : (ownDenyCheck c s).1.draws = s.draws := by
  unfold ownDenyCheck
  split <;> simp
@[simp] theorem ownDenyCheck_pending (c : Nat) (s : State) : (ownDenyCheck c s).1.pending = s.pending := by
  unfold ownDenyCheck
  split <;> simp

/-! ### ownPresent -/

@[simp] theorem ownPresent_runTime (n : Nat) (c : Credential) (s : State) : (ownPresent n c s).1.runTime = s.runTime := by
  unfold ownPresent
  split <;> simp
@[simp] theorem ownPresent_supervisor (n : Nat) (c : Credential) (s : State) : (ownPresent n c s).1.supervisor = s.supervisor := by
  unfold ownPresent
  split <;> simp
@[simp] theorem ownPresent_clock (n : Nat) (c : Credential) (s : State) : (ownPresent n c s).1.clock = s.clock := by
  unfold ownPresent
  split <;> simp
@[simp] theorem ownPresent_tariff (n : Nat) (c : Credential) (s : State) : (ownPresent n c s).1.tariff = s.tariff := by
  unfold ownPresent
  split <;> simp
@[simp] theorem ownPresent_deny (n : Nat) (c : Credential) (s : State) : (ownPresent n c s).1.deny = s.deny := by
  unfold ownPresent
  split <;> simp
@[simp] theorem ownPresent_journal (n : Nat) (c : Credential) (s : State) : (ownPresent n c s).1.journal = s.journal := by
  unfold ownPresent
  split <;> simp
@[simp] theorem ownPresent_draws (n : Nat) (c : Credential) (s : State) : (ownPresent n c s).1.draws = s.draws := by
  unfold ownPresent
  split <;> simp
@[simp] theorem ownPresent_pending (n : Nat) (c : Credential) (s : State) : (ownPresent n c s).1.pending = s.pending := by
  unfold ownPresent
  split <;> simp

/-! ### ownBerthOpen -/

@[simp] theorem ownBerthOpen_runTime (r : OpenRequest) (s : State) : (ownBerthOpen r s).1.runTime = s.runTime := by
  unfold ownBerthOpen atBerth
  dsimp only
  repeat' split
  all_goals simp
@[simp] theorem ownBerthOpen_supervisor (r : OpenRequest) (s : State) : (ownBerthOpen r s).1.supervisor = s.supervisor := by
  unfold ownBerthOpen atBerth
  dsimp only
  repeat' split
  all_goals simp
@[simp] theorem ownBerthOpen_clock (r : OpenRequest) (s : State) : (ownBerthOpen r s).1.clock = s.clock := by
  unfold ownBerthOpen atBerth
  dsimp only
  repeat' split
  all_goals simp
@[simp] theorem ownBerthOpen_tariff (r : OpenRequest) (s : State) : (ownBerthOpen r s).1.tariff = s.tariff := by
  unfold ownBerthOpen atBerth
  dsimp only
  repeat' split
  all_goals simp
@[simp] theorem ownBerthOpen_lanes (r : OpenRequest) (s : State) : (ownBerthOpen r s).1.lanes = s.lanes := by
  unfold ownBerthOpen atBerth
  dsimp only
  repeat' split
  all_goals simp
@[simp] theorem ownBerthOpen_recent (r : OpenRequest) (s : State) : (ownBerthOpen r s).1.recent = s.recent := by
  unfold ownBerthOpen atBerth
  dsimp only
  repeat' split
  all_goals simp
@[simp] theorem ownBerthOpen_deny (r : OpenRequest) (s : State) : (ownBerthOpen r s).1.deny = s.deny := by
  unfold ownBerthOpen atBerth
  dsimp only
  repeat' split
  all_goals simp
@[simp] theorem ownBerthOpen_draws (r : OpenRequest) (s : State) : (ownBerthOpen r s).1.draws = s.draws := by
  unfold ownBerthOpen atBerth
  dsimp only
  repeat' split
  all_goals simp
@[simp] theorem ownBerthOpen_pending (r : OpenRequest) (s : State) : (ownBerthOpen r s).1.pending = s.pending := by
  unfold ownBerthOpen atBerth
  dsimp only
  repeat' split
  all_goals simp

/-! ### ownBerthClose -/

@[simp] theorem ownBerthClose_runTime (b : Nat) (s : State) : (ownBerthClose b s).1.runTime = s.runTime := by
  unfold ownBerthClose atBerth
  dsimp only
  repeat' split
  all_goals simp
@[simp] theorem ownBerthClose_supervisor (b : Nat) (s : State) : (ownBerthClose b s).1.supervisor = s.supervisor := by
  unfold ownBerthClose atBerth
  dsimp only
  repeat' split
  all_goals simp
@[simp] theorem ownBerthClose_clock (b : Nat) (s : State) : (ownBerthClose b s).1.clock = s.clock := by
  unfold ownBerthClose atBerth
  dsimp only
  repeat' split
  all_goals simp
@[simp] theorem ownBerthClose_tariff (b : Nat) (s : State) : (ownBerthClose b s).1.tariff = s.tariff := by
  unfold ownBerthClose atBerth
  dsimp only
  repeat' split
  all_goals simp
@[simp] theorem ownBerthClose_lanes (b : Nat) (s : State) : (ownBerthClose b s).1.lanes = s.lanes := by
  unfold ownBerthClose atBerth
  dsimp only
  repeat' split
  all_goals simp
@[simp] theorem ownBerthClose_recent (b : Nat) (s : State) : (ownBerthClose b s).1.recent = s.recent := by
  unfold ownBerthClose atBerth
  dsimp only
  repeat' split
  all_goals simp
@[simp] theorem ownBerthClose_deny (b : Nat) (s : State) : (ownBerthClose b s).1.deny = s.deny := by
  unfold ownBerthClose atBerth
  dsimp only
  repeat' split
  all_goals simp
@[simp] theorem ownBerthClose_draws (b : Nat) (s : State) : (ownBerthClose b s).1.draws = s.draws := by
  unfold ownBerthClose atBerth
  dsimp only
  repeat' split
  all_goals simp
@[simp] theorem ownBerthClose_pending (b : Nat) (s : State) : (ownBerthClose b s).1.pending = s.pending := by
  unfold ownBerthClose atBerth
  dsimp only
  repeat' split
  all_goals simp

/-! ### ownBerthAmend -/

@[simp] theorem ownBerthAmend_runTime (r : AmendRequest) (s : State) : (ownBerthAmend r s).1.runTime = s.runTime := by
  unfold ownBerthAmend atBerth
  dsimp only
  repeat' split
  all_goals simp
@[simp] theorem ownBerthAmend_supervisor (r : AmendRequest) (s : State) : (ownBerthAmend r s).1.supervisor = s.supervisor := by
  unfold ownBerthAmend atBerth
  dsimp only
  repeat' split
  all_goals simp
@[simp] theorem ownBerthAmend_clock (r : AmendRequest) (s : State) : (ownBerthAmend r s).1.clock = s.clock := by
  unfold ownBerthAmend atBerth
  dsimp only
  repeat' split
  all_goals simp
@[simp] theorem ownBerthAmend_tariff (r : AmendRequest) (s : State) : (ownBerthAmend r s).1.tariff = s.tariff := by
  unfold ownBerthAmend atBerth
  dsimp only
  repeat' split
  all_goals simp
@[simp] theorem ownBerthAmend_lanes (r : AmendRequest) (s : State) : (ownBerthAmend r s).1.lanes = s.lanes := by
  unfold ownBerthAmend atBerth
  dsimp only
  repeat' split
  all_goals simp
@[simp] theorem ownBerthAmend_recent (r : AmendRequest) (s : State) : (ownBerthAmend r s).1.recent = s.recent := by
  unfold ownBerthAmend atBerth
  dsimp only
  repeat' split
  all_goals simp
@[simp] theorem ownBerthAmend_deny (r : AmendRequest) (s : State) : (ownBerthAmend r s).1.deny = s.deny := by
  unfold ownBerthAmend atBerth
  dsimp only
  repeat' split
  all_goals simp
@[simp] theorem ownBerthAmend_draws (r : AmendRequest) (s : State) : (ownBerthAmend r s).1.draws = s.draws := by
  unfold ownBerthAmend atBerth
  dsimp only
  repeat' split
  all_goals simp
@[simp] theorem ownBerthAmend_pending (r : AmendRequest) (s : State) : (ownBerthAmend r s).1.pending = s.pending := by
  unfold ownBerthAmend atBerth
  dsimp only
  repeat' split
  all_goals simp

/-! ### ownBerthQuery -/

@[simp] theorem ownBerthQuery_runTime (b : Nat) (s : State) : (ownBerthQuery b s).1.runTime = s.runTime := by
  unfold ownBerthQuery atBerth
  dsimp only
  repeat' split
  all_goals simp
@[simp] theorem ownBerthQuery_link (b : Nat) (s : State) : (ownBerthQuery b s).1.link = s.link := by
  unfold ownBerthQuery atBerth
  dsimp only
  repeat' split
  all_goals simp
@[simp] theorem ownBerthQuery_supervisor (b : Nat) (s : State) : (ownBerthQuery b s).1.supervisor = s.supervisor := by
  unfold ownBerthQuery atBerth
  dsimp only
  repeat' split
  all_goals simp
@[simp] theorem ownBerthQuery_clock (b : Nat) (s : State) : (ownBerthQuery b s).1.clock = s.clock := by
  unfold ownBerthQuery atBerth
  dsimp only
  repeat' split
  all_goals simp
@[simp] theorem ownBerthQuery_tariff (b : Nat) (s : State) : (ownBerthQuery b s).1.tariff = s.tariff := by
  unfold ownBerthQuery atBerth
  dsimp only
  repeat' split
  all_goals simp
@[simp] theorem ownBerthQuery_berths (b : Nat) (s : State) : (ownBerthQuery b s).1.berths = s.berths := by
  unfold ownBerthQuery atBerth
  dsimp only
  repeat' split
  all_goals simp
@[simp] theorem ownBerthQuery_lanes (b : Nat) (s : State) : (ownBerthQuery b s).1.lanes = s.lanes := by
  unfold ownBerthQuery atBerth
  dsimp only
  repeat' split
  all_goals simp
@[simp] theorem ownBerthQuery_lamps (b : Nat) (s : State) : (ownBerthQuery b s).1.lamps = s.lamps := by
  unfold ownBerthQuery atBerth
  dsimp only
  repeat' split
  all_goals simp
@[simp] theorem ownBerthQuery_recent (b : Nat) (s : State) : (ownBerthQuery b s).1.recent = s.recent := by
  unfold ownBerthQuery atBerth
  dsimp only
  repeat' split
  all_goals simp
@[simp] theorem ownBerthQuery_deny (b : Nat) (s : State) : (ownBerthQuery b s).1.deny = s.deny := by
  unfold ownBerthQuery atBerth
  dsimp only
  repeat' split
  all_goals simp
@[simp] theorem ownBerthQuery_journal (b : Nat) (s : State) : (ownBerthQuery b s).1.journal = s.journal := by
  unfold ownBerthQuery atBerth
  dsimp only
  repeat' split
  all_goals simp
@[simp] theorem ownBerthQuery_draws (b : Nat) (s : State) : (ownBerthQuery b s).1.draws = s.draws := by
  unfold ownBerthQuery atBerth
  dsimp only
  repeat' split
  all_goals simp
@[simp] theorem ownBerthQuery_pending (b : Nat) (s : State) : (ownBerthQuery b s).1.pending = s.pending := by
  unfold ownBerthQuery atBerth
  dsimp only
  repeat' split
  all_goals simp

/-! ### ownLaneAssign -/

@[simp] theorem ownLaneAssign_runTime (n : Nat) (b : Option Nat) (s : State) : (ownLaneAssign n b s).1.runTime = s.runTime := by
  unfold ownLaneAssign atLane
  dsimp only
  repeat' split
  all_goals simp
@[simp] theorem ownLaneAssign_supervisor (n : Nat) (b : Option Nat) (s : State) : (ownLaneAssign n b s).1.supervisor = s.supervisor := by
  unfold ownLaneAssign atLane
  dsimp only
  repeat' split
  all_goals simp
@[simp] theorem ownLaneAssign_clock (n : Nat) (b : Option Nat) (s : State) : (ownLaneAssign n b s).1.clock = s.clock := by
  unfold ownLaneAssign atLane
  dsimp only
  repeat' split
  all_goals simp
@[simp] theorem ownLaneAssign_tariff (n : Nat) (b : Option Nat) (s : State) : (ownLaneAssign n b s).1.tariff = s.tariff := by
  unfold ownLaneAssign atLane
  dsimp only
  repeat' split
  all_goals simp
@[simp] theorem ownLaneAssign_recent (n : Nat) (b : Option Nat) (s : State) : (ownLaneAssign n b s).1.recent = s.recent := by
  unfold ownLaneAssign atLane
  dsimp only
  repeat' split
  all_goals simp
@[simp] theorem ownLaneAssign_deny (n : Nat) (b : Option Nat) (s : State) : (ownLaneAssign n b s).1.deny = s.deny := by
  unfold ownLaneAssign atLane
  dsimp only
  repeat' split
  all_goals simp
@[simp] theorem ownLaneAssign_draws (n : Nat) (b : Option Nat) (s : State) : (ownLaneAssign n b s).1.draws = s.draws := by
  unfold ownLaneAssign atLane
  dsimp only
  repeat' split
  all_goals simp
@[simp] theorem ownLaneAssign_pending (n : Nat) (b : Option Nat) (s : State) : (ownLaneAssign n b s).1.pending = s.pending := by
  unfold ownLaneAssign atLane
  dsimp only
  repeat' split
  all_goals simp

/-! ### ownLaneReturn -/

@[simp] theorem ownLaneReturn_runTime (n : Nat) (s : State) : (ownLaneReturn n s).1.runTime = s.runTime := by
  unfold ownLaneReturn atLane
  dsimp only
  repeat' split
  all_goals simp
@[simp] theorem ownLaneReturn_supervisor (n : Nat) (s : State) : (ownLaneReturn n s).1.supervisor = s.supervisor := by
  unfold ownLaneReturn atLane
  dsimp only
  repeat' split
  all_goals simp
@[simp] theorem ownLaneReturn_clock (n : Nat) (s : State) : (ownLaneReturn n s).1.clock = s.clock := by
  unfold ownLaneReturn atLane
  dsimp only
  repeat' split
  all_goals simp
@[simp] theorem ownLaneReturn_tariff (n : Nat) (s : State) : (ownLaneReturn n s).1.tariff = s.tariff := by
  unfold ownLaneReturn atLane
  dsimp only
  repeat' split
  all_goals simp
@[simp] theorem ownLaneReturn_recent (n : Nat) (s : State) : (ownLaneReturn n s).1.recent = s.recent := by
  unfold ownLaneReturn atLane
  dsimp only
  repeat' split
  all_goals simp
@[simp] theorem ownLaneReturn_deny (n : Nat) (s : State) : (ownLaneReturn n s).1.deny = s.deny := by
  unfold ownLaneReturn atLane
  dsimp only
  repeat' split
  all_goals simp
@[simp] theorem ownLaneReturn_draws (n : Nat) (s : State) : (ownLaneReturn n s).1.draws = s.draws := by
  unfold ownLaneReturn atLane
  dsimp only
  repeat' split
  all_goals simp
@[simp] theorem ownLaneReturn_pending (n : Nat) (s : State) : (ownLaneReturn n s).1.pending = s.pending := by
  unfold ownLaneReturn atLane
  dsimp only
  repeat' split
  all_goals simp

/-! ### ownLaneLamp -/

@[simp] theorem ownLaneLamp_runTime (r : LampRequest) (s : State) : (ownLaneLamp r s).1.runTime = s.runTime := by
  unfold ownLaneLamp atLane
  dsimp only
  repeat' split
  all_goals simp
@[simp] theorem ownLaneLamp_link (r : LampRequest) (s : State) : (ownLaneLamp r s).1.link = s.link := by
  unfold ownLaneLamp atLane
  dsimp only
  repeat' split
  all_goals simp
@[simp] theorem ownLaneLamp_supervisor (r : LampRequest) (s : State) : (ownLaneLamp r s).1.supervisor = s.supervisor := by
  unfold ownLaneLamp atLane
  dsimp only
  repeat' split
  all_goals simp
@[simp] theorem ownLaneLamp_clock (r : LampRequest) (s : State) : (ownLaneLamp r s).1.clock = s.clock := by
  unfold ownLaneLamp atLane
  dsimp only
  repeat' split
  all_goals simp
@[simp] theorem ownLaneLamp_tariff (r : LampRequest) (s : State) : (ownLaneLamp r s).1.tariff = s.tariff := by
  unfold ownLaneLamp atLane
  dsimp only
  repeat' split
  all_goals simp
@[simp] theorem ownLaneLamp_berths (r : LampRequest) (s : State) : (ownLaneLamp r s).1.berths = s.berths := by
  unfold ownLaneLamp atLane
  dsimp only
  repeat' split
  all_goals simp
@[simp] theorem ownLaneLamp_lanes (r : LampRequest) (s : State) : (ownLaneLamp r s).1.lanes = s.lanes := by
  unfold ownLaneLamp atLane
  dsimp only
  repeat' split
  all_goals simp
@[simp] theorem ownLaneLamp_recent (r : LampRequest) (s : State) : (ownLaneLamp r s).1.recent = s.recent := by
  unfold ownLaneLamp atLane
  dsimp only
  repeat' split
  all_goals simp
@[simp] theorem ownLaneLamp_deny (r : LampRequest) (s : State) : (ownLaneLamp r s).1.deny = s.deny := by
  unfold ownLaneLamp atLane
  dsimp only
  repeat' split
  all_goals simp
@[simp] theorem ownLaneLamp_journal (r : LampRequest) (s : State) : (ownLaneLamp r s).1.journal = s.journal := by
  unfold ownLaneLamp atLane
  dsimp only
  repeat' split
  all_goals simp
@[simp] theorem ownLaneLamp_draws (r : LampRequest) (s : State) : (ownLaneLamp r s).1.draws = s.draws := by
  unfold ownLaneLamp atLane
  dsimp only
  repeat' split
  all_goals simp
@[simp] theorem ownLaneLamp_pending (r : LampRequest) (s : State) : (ownLaneLamp r s).1.pending = s.pending := by
  unfold ownLaneLamp atLane
  dsimp only
  repeat' split
  all_goals simp

/-! ### ownEgressBegin -/

@[simp] theorem ownEgressBegin_runTime (s : State) : (ownEgressBegin s).1.runTime = s.runTime := by
  unfold ownEgressBegin egressReply
  split <;> simp
@[simp] theorem ownEgressBegin_clock (s : State) : (ownEgressBegin s).1.clock = s.clock := by
  unfold ownEgressBegin egressReply
  split <;> simp
@[simp] theorem ownEgressBegin_tariff (s : State) : (ownEgressBegin s).1.tariff = s.tariff := by
  unfold ownEgressBegin egressReply
  split <;> simp
@[simp] theorem ownEgressBegin_deny (s : State) : (ownEgressBegin s).1.deny = s.deny := by
  unfold ownEgressBegin egressReply
  split <;> simp
@[simp] theorem ownEgressBegin_draws (s : State) : (ownEgressBegin s).1.draws = s.draws := by
  unfold ownEgressBegin egressReply
  split <;> simp
@[simp] theorem ownEgressBegin_pending (s : State) : (ownEgressBegin s).1.pending = s.pending := by
  unfold ownEgressBegin egressReply
  split <;> simp

/-! ### ownEgressEnd -/

@[simp] theorem ownEgressEnd_runTime (s : State) : (ownEgressEnd s).1.runTime = s.runTime := by
  unfold ownEgressEnd egressReply
  split <;> simp
@[simp] theorem ownEgressEnd_clock (s : State) : (ownEgressEnd s).1.clock = s.clock := by
  unfold ownEgressEnd egressReply
  split <;> simp
@[simp] theorem ownEgressEnd_tariff (s : State) : (ownEgressEnd s).1.tariff = s.tariff := by
  unfold ownEgressEnd egressReply
  split <;> simp
@[simp] theorem ownEgressEnd_deny (s : State) : (ownEgressEnd s).1.deny = s.deny := by
  unfold ownEgressEnd egressReply
  split <;> simp
@[simp] theorem ownEgressEnd_draws (s : State) : (ownEgressEnd s).1.draws = s.draws := by
  unfold ownEgressEnd egressReply
  split <;> simp
@[simp] theorem ownEgressEnd_pending (s : State) : (ownEgressEnd s).1.pending = s.pending := by
  unfold ownEgressEnd egressReply
  split <;> simp

/-! ### ownSetup -/

@[simp] theorem ownSetup_runTime (r : SetupRequest) (s : State) : (ownSetup r s).1.runTime = s.runTime := by
  unfold ownSetup
  dsimp only
  repeat' split
  all_goals simp
@[simp] theorem ownSetup_deny (r : SetupRequest) (s : State) : (ownSetup r s).1.deny = s.deny := by
  unfold ownSetup
  dsimp only
  repeat' split
  all_goals simp
@[simp] theorem ownSetup_draws (r : SetupRequest) (s : State) : (ownSetup r s).1.draws = s.draws := by
  unfold ownSetup
  dsimp only
  repeat' split
  all_goals simp
@[simp] theorem ownSetup_pending (r : SetupRequest) (s : State) : (ownSetup r s).1.pending = s.pending := by
  unfold ownSetup
  dsimp only
  repeat' split
  all_goals simp

/-! ### applyFreeRun -/

@[simp] theorem applyFreeRun_runTime (t : Option ServiceTime) (s : State) : (applyFreeRun t s).runTime = s.runTime := by
  unfold applyFreeRun
  repeat' split
  all_goals simp
@[simp] theorem applyFreeRun_supervisor (t : Option ServiceTime) (s : State) : (applyFreeRun t s).supervisor = s.supervisor := by
  unfold applyFreeRun
  repeat' split
  all_goals simp
@[simp] theorem applyFreeRun_lanes (t : Option ServiceTime) (s : State) : (applyFreeRun t s).lanes = s.lanes := by
  unfold applyFreeRun
  repeat' split
  all_goals simp
@[simp] theorem applyFreeRun_recent (t : Option ServiceTime) (s : State) : (applyFreeRun t s).recent = s.recent := by
  unfold applyFreeRun
  repeat' split
  all_goals simp
@[simp] theorem applyFreeRun_deny (t : Option ServiceTime) (s : State) : (applyFreeRun t s).deny = s.deny := by
  unfold applyFreeRun
  repeat' split
  all_goals simp
@[simp] theorem applyFreeRun_pending (t : Option ServiceTime) (s : State) : (applyFreeRun t s).pending = s.pending := by
  unfold applyFreeRun
  repeat' split
  all_goals simp

/-! ### ownServiceStart -/

@[simp] theorem ownServiceStart_runTime (t : Option ServiceTime) (s : State) : (ownServiceStart t s).1.runTime = s.runTime := by
  unfold ownServiceStart
  dsimp only
  repeat' split
  all_goals simp
@[simp] theorem ownServiceStart_recent (t : Option ServiceTime) (s : State) : (ownServiceStart t s).1.recent = s.recent := by
  unfold ownServiceStart
  dsimp only
  repeat' split
  all_goals simp
@[simp] theorem ownServiceStart_deny (t : Option ServiceTime) (s : State) : (ownServiceStart t s).1.deny = s.deny := by
  unfold ownServiceStart
  dsimp only
  repeat' split
  all_goals simp
@[simp] theorem ownServiceStart_pending (t : Option ServiceTime) (s : State) : (ownServiceStart t s).1.pending = s.pending := by
  unfold ownServiceStart
  dsimp only
  repeat' split
  all_goals simp

/-! ### ownServiceStop -/

@[simp] theorem ownServiceStop_runTime (s : State) : (ownServiceStop s).1.runTime = s.runTime := by
  unfold ownServiceStop
  repeat' split
  all_goals simp
@[simp] theorem ownServiceStop_clock (s : State) : (ownServiceStop s).1.clock = s.clock := by
  unfold ownServiceStop
  repeat' split
  all_goals simp
@[simp] theorem ownServiceStop_tariff (s : State) : (ownServiceStop s).1.tariff = s.tariff := by
  unfold ownServiceStop
  repeat' split
  all_goals simp
@[simp] theorem ownServiceStop_berths (s : State) : (ownServiceStop s).1.berths = s.berths := by
  unfold ownServiceStop
  repeat' split
  all_goals simp
@[simp] theorem ownServiceStop_recent (s : State) : (ownServiceStop s).1.recent = s.recent := by
  unfold ownServiceStop
  repeat' split
  all_goals simp
@[simp] theorem ownServiceStop_deny (s : State) : (ownServiceStop s).1.deny = s.deny := by
  unfold ownServiceStop
  repeat' split
  all_goals simp
@[simp] theorem ownServiceStop_journal (s : State) : (ownServiceStop s).1.journal = s.journal := by
  unfold ownServiceStop
  repeat' split
  all_goals simp
@[simp] theorem ownServiceStop_draws (s : State) : (ownServiceStop s).1.draws = s.draws := by
  unfold ownServiceStop
  repeat' split
  all_goals simp
@[simp] theorem ownServiceStop_pending (s : State) : (ownServiceStop s).1.pending = s.pending := by
  unfold ownServiceStop
  repeat' split
  all_goals simp

/-! ### ownRestart -/

@[simp] theorem ownRestart_runTime (s : State) : (ownRestart s).1.runTime = s.runTime := by
  unfold ownRestart
  split <;> simp
@[simp] theorem ownRestart_supervisor (s : State) : (ownRestart s).1.supervisor = s.supervisor := by
  unfold ownRestart
  split <;> simp
@[simp] theorem ownRestart_clock (s : State) : (ownRestart s).1.clock = s.clock := by
  unfold ownRestart
  split <;> simp
@[simp] theorem ownRestart_berths (s : State) : (ownRestart s).1.berths = s.berths := by
  unfold ownRestart
  split <;> simp
@[simp] theorem ownRestart_deny (s : State) : (ownRestart s).1.deny = s.deny := by
  unfold ownRestart
  split <;> simp
@[simp] theorem ownRestart_journal (s : State) : (ownRestart s).1.journal = s.journal := by
  unfold ownRestart
  split <;> simp
@[simp] theorem ownRestart_draws (s : State) : (ownRestart s).1.draws = s.draws := by
  unfold ownRestart
  split <;> simp
@[simp] theorem ownRestart_pending (s : State) : (ownRestart s).1.pending = s.pending := by
  unfold ownRestart
  split <;> simp

/-! ### ownStatus -/

@[simp] theorem ownStatus_runTime (s : State) : (ownStatus s).1.runTime = s.runTime := rfl
@[simp] theorem ownStatus_link (s : State) : (ownStatus s).1.link = s.link := rfl
@[simp] theorem ownStatus_supervisor (s : State) : (ownStatus s).1.supervisor = s.supervisor := rfl
@[simp] theorem ownStatus_clock (s : State) : (ownStatus s).1.clock = s.clock := rfl
@[simp] theorem ownStatus_tariff (s : State) : (ownStatus s).1.tariff = s.tariff := rfl
@[simp] theorem ownStatus_berths (s : State) : (ownStatus s).1.berths = s.berths := rfl
@[simp] theorem ownStatus_lanes (s : State) : (ownStatus s).1.lanes = s.lanes := rfl
@[simp] theorem ownStatus_lamps (s : State) : (ownStatus s).1.lamps = s.lamps := rfl
@[simp] theorem ownStatus_recent (s : State) : (ownStatus s).1.recent = s.recent := rfl
@[simp] theorem ownStatus_deny (s : State) : (ownStatus s).1.deny = s.deny := rfl
@[simp] theorem ownStatus_journal (s : State) : (ownStatus s).1.journal = s.journal := rfl
@[simp] theorem ownStatus_draws (s : State) : (ownStatus s).1.draws = s.draws := rfl
@[simp] theorem ownStatus_pending (s : State) : (ownStatus s).1.pending = s.pending := rfl

/-! ### ownJournalRead -/

@[simp] theorem ownJournalRead_runTime (s : State) : (ownJournalRead s).1.runTime = s.runTime := by
  unfold ownJournalRead
  split <;> simp
@[simp] theorem ownJournalRead_link (s : State) : (ownJournalRead s).1.link = s.link := by
  unfold ownJournalRead
  split <;> simp
@[simp] theorem ownJournalRead_supervisor (s : State) : (ownJournalRead s).1.supervisor = s.supervisor := by
  unfold ownJournalRead
  split <;> simp
@[simp] theorem ownJournalRead_clock (s : State) : (ownJournalRead s).1.clock = s.clock := by
  unfold ownJournalRead
  split <;> simp
@[simp] theorem ownJournalRead_tariff (s : State) : (ownJournalRead s).1.tariff = s.tariff := by
  unfold ownJournalRead
  split <;> simp
@[simp] theorem ownJournalRead_berths (s : State) : (ownJournalRead s).1.berths = s.berths := by
  unfold ownJournalRead
  split <;> simp
@[simp] theorem ownJournalRead_lanes (s : State) : (ownJournalRead s).1.lanes = s.lanes := by
  unfold ownJournalRead
  split <;> simp
@[simp] theorem ownJournalRead_lamps (s : State) : (ownJournalRead s).1.lamps = s.lamps := by
  unfold ownJournalRead
  split <;> simp
@[simp] theorem ownJournalRead_recent (s : State) : (ownJournalRead s).1.recent = s.recent := by
  unfold ownJournalRead
  split <;> simp
@[simp] theorem ownJournalRead_deny (s : State) : (ownJournalRead s).1.deny = s.deny := by
  unfold ownJournalRead
  split <;> simp
@[simp] theorem ownJournalRead_journal (s : State) : (ownJournalRead s).1.journal = s.journal := by
  unfold ownJournalRead
  split <;> simp
@[simp] theorem ownJournalRead_draws (s : State) : (ownJournalRead s).1.draws = s.draws := by
  unfold ownJournalRead
  split <;> simp
@[simp] theorem ownJournalRead_pending (s : State) : (ownJournalRead s).1.pending = s.pending := by
  unfold ownJournalRead
  split <;> simp

/-! ### ownJournalRelease -/

@[simp] theorem ownJournalRelease_runTime (n : Nat) (s : State) : (ownJournalRelease n s).1.runTime = s.runTime := by
  unfold ownJournalRelease
  dsimp only
  repeat' split
  all_goals simp
@[simp] theorem ownJournalRelease_supervisor (n : Nat) (s : State) : (ownJournalRelease n s).1.supervisor = s.supervisor := by
  unfold ownJournalRelease
  dsimp only
  repeat' split
  all_goals simp
@[simp] theorem ownJournalRelease_clock (n : Nat) (s : State) : (ownJournalRelease n s).1.clock = s.clock := by
  unfold ownJournalRelease
  dsimp only
  repeat' split
  all_goals simp
@[simp] theorem ownJournalRelease_tariff (n : Nat) (s : State) : (ownJournalRelease n s).1.tariff = s.tariff := by
  unfold ownJournalRelease
  dsimp only
  repeat' split
  all_goals simp
@[simp] theorem ownJournalRelease_lanes (n : Nat) (s : State) : (ownJournalRelease n s).1.lanes = s.lanes := by
  unfold ownJournalRelease
  dsimp only
  repeat' split
  all_goals simp
@[simp] theorem ownJournalRelease_recent (n : Nat) (s : State) : (ownJournalRelease n s).1.recent = s.recent := by
  unfold ownJournalRelease
  dsimp only
  repeat' split
  all_goals simp
@[simp] theorem ownJournalRelease_deny (n : Nat) (s : State) : (ownJournalRelease n s).1.deny = s.deny := by
  unfold ownJournalRelease
  dsimp only
  repeat' split
  all_goals simp
@[simp] theorem ownJournalRelease_draws (n : Nat) (s : State) : (ownJournalRelease n s).1.draws = s.draws := by
  unfold ownJournalRelease
  dsimp only
  repeat' split
  all_goals simp
@[simp] theorem ownJournalRelease_pending (n : Nat) (s : State) : (ownJournalRelease n s).1.pending = s.pending := by
  unfold ownJournalRelease
  dsimp only
  repeat' split
  all_goals simp

end Sys2Proof.Machine
end

