-- ==== Sys2Proof/Laws/LinkStill.lean ====
section
/-! SUPPORT. The blocks other than the Link Controller change it only by posting notices and, at RESTART, by emptying the Notice Queue
and the statistics. -/

namespace Sys2Proof.Machine

open Sys2Proof

@[simp] theorem post_still (n : Notice) (s : State) :
    (post n s).link.still = s.link.still := by
  simp only [post]
  repeat' split
  all_goals simp [Link.still]

@[simp] theorem postOpt_still (n : Option Notice) (s : State) :
    (postOpt n s).link.still = s.link.still := by
  unfold postOpt
  split <;> simp

@[simp] theorem recomputeFill_still (b : BerthIx) (s : State) :
    (recomputeFill b s).link.still = s.link.still := by
  unfold recomputeFill
  dsimp only
  repeat' split
  all_goals simp

@[simp] theorem postBerthState_still (b : BerthIx) (st : BerthState) (ref : Nat) (cause : Option CloseCause) (s : State) :
    (postBerthState b st ref cause s).link.still = s.link.still := by simp [postBerthState]

@[simp] theorem storeRecord_still (b : BerthIx) (r : TripRecord) (s : State) :
    (storeRecord b r s).link.still = s.link.still := by simp [storeRecord]

@[simp] theorem offerRecord_still (b : BerthIx) (r : TripRecord) (s : State) :
    (offerRecord b r s).link.still = s.link.still := by
  unfold offerRecord
  split <;> simp

@[simp] theorem depart_still (b : BerthIx) (t : Trip) (s : State) :
    (depart b t s).link.still = s.link.still := by simp [depart]

@[simp] theorem settle_still (b : BerthIx) (s : State) :
    (settle b s).link.still = s.link.still := by
  unfold settle
  repeat' split
  all_goals simp

@[simp] theorem closeBerth_still (b : BerthIx) (cause : CloseCause) (s : State) :
    (closeBerth b cause s).link.still = s.link.still := by simp [closeBerth]

@[simp] theorem closeWhenFull_still (b : BerthIx) (s : State) :
    (closeWhenFull b s).link.still = s.link.still := by
  unfold closeWhenFull
  repeat' split
  all_goals simp

@[simp] theorem closeAtDeparture_still (b : BerthIx) (s : State) :
    (closeAtDeparture b s).link.still = s.link.still := by
  unfold closeAtDeparture
  split <;> simp

@[simp] theorem tripEvent_still (b : BerthIx) (fwd : Bool) (f : Trip → Trip) (s : State) :
    (tripEvent b fwd f s).link.still = s.link.still := by
  unfold tripEvent
  repeat' split
  all_goals simp

@[simp] theorem berthConsumption_still (b : BerthIx) (s : State) :
    (berthConsumption b s).link.still = s.link.still := by simp [berthConsumption]

@[simp] theorem berthPassage_still (m : Movement) (eg : Bool) (b : BerthIx) (s : State) :
    (berthPassage m eg b s).link.still = s.link.still := by simp [berthPassage]

@[simp] theorem berthVoid_still (b : BerthIx) (s : State) :
    (berthVoid b s).link.still = s.link.still := by simp [berthVoid]

@[simp] theorem serveWaiting_still (s : State) :
    (serveWaiting s).link.still = s.link.still := by
  unfold serveWaiting
  dsimp only
  repeat' split
  all_goals simp

@[simp] theorem settleBerthOf_still (i : LaneIx) (s : State) :
    (settleBerthOf i s).link.still = s.link.still := by
  unfold settleBerthOf
  split <;> simp

@[simp] theorem faultLane_still (i : LaneIx) (c : LaneFaultCause) (s : State) :
    (faultLane i c s).link.still = s.link.still := by simp [faultLane]

@[simp] theorem dropHold_still (i : LaneIx) (c : VoidCause) (h : Hold) (next : Lane → Lane) (s : State) :
    (dropHold i c h next s).link.still = s.link.still := by simp [dropHold]

@[simp] theorem voidHold_still (i : LaneIx) (c : VoidCause) (h : Hold) (next : Lane → Lane) (s : State) :
    (voidHold i c h next s).link.still = s.link.still := by
  unfold voidHold reportTo
  split <;> simp

@[simp] theorem consumeHold_still (i : LaneIx) (h : Hold) (s : State) :
    (consumeHold i h s).link.still = s.link.still := by
  unfold consumeHold reportTo
  split <;> simp

@[simp] theorem completeClosing_still (i : LaneIx) (s : State) :
    (completeClosing i s).link.still = s.link.still := by
  unfold completeClosing
  dsimp only
  repeat' split
  all_goals simp

@[simp] theorem startClosing_still (i : LaneIx) (f : Lane → Lane) (s : State) :
    (startClosing i f s).link.still = s.link.still := by
  unfold startClosing
  dsimp only
  repeat' split
  all_goals simp

@[simp] theorem reportPassage_still (i : LaneIx) (m : Movement) (eg : Bool) (s : State) :
    (reportPassage i m eg s).link.still = s.link.still := by
  unfold reportPassage reportTo
  repeat' split
  all_goals simp

@[simp] theorem takeMovement_still (i : LaneIx) (m : Movement) (entry : EntrySide) (s : State) :
    (takeMovement i m entry s).link.still = s.link.still := by
  unfold takeMovement reportTo
  dsimp only
  repeat' split
  all_goals simp

@[simp] theorem takeBeams_still (i : LaneIx) (s : State) :
    (takeBeams i s).link.still = s.link.still := by
  unfold takeBeams
  dsimp only
  repeat' split
  all_goals simp

@[simp] theorem takeAccepted_still (i : LaneIx) (l : Lane) (s : State) :
    (takeAccepted i l s).link.still = s.link.still := by
  unfold takeAccepted
  simp

@[simp] theorem beamRaw_still (i : LaneIx) (a b : Bool) (s : State) :
    (beamRaw i a b s).link.still = s.link.still := by
  unfold beamRaw
  dsimp only
  repeat' split
  all_goals simp

@[simp] theorem beamAccepted_still (i : LaneIx) (s : State) :
    (beamAccepted i s).link.still = s.link.still := by
  unfold beamAccepted
  split <;> simp

@[simp] theorem senseChange_still (i : LaneIx) (o : Bool) (s : State) :
    (senseChange i o s).link.still = s.link.still := by
  unfold senseChange
  dsimp only
  repeat' split
  all_goals simp

@[simp] theorem barrierExpiry_still (i : LaneIx) (s : State) :
    (barrierExpiry i s).link.still = s.link.still := by
  unfold barrierExpiry reportTo
  repeat' split
  all_goals simp

@[simp] theorem passageExpiry_still (i : LaneIx) (s : State) :
    (passageExpiry i s).link.still = s.link.still := by
  unfold passageExpiry
  repeat' split
  all_goals simp

@[simp] theorem clearExpiry_still (i : LaneIx) (s : State) :
    (clearExpiry i s).link.still = s.link.still := by
  unfold clearExpiry
  repeat' split
  all_goals simp

@[simp] theorem laneAtStart_still (s : State) (i : LaneIx) :
    (laneAtStart s i).link.still = s.link.still := by
  unfold laneAtStart
  repeat' split
  all_goals simp

@[simp] theorem laneToEgress_still (s : State) (i : LaneIx) :
    (laneToEgress s i).link.still = s.link.still := by
  unfold laneToEgress
  repeat' split
  all_goals simp

@[simp] theorem laneFromEgress_still (s : State) (i : LaneIx) :
    (laneFromEgress s i).link.still = s.link.still := by
  unfold laneFromEgress
  split <;> simp

@[simp] theorem completeSwitch_still (set : TariffSet) (s : State) :
    (completeSwitch set s).link.still = s.link.still := by simp [completeSwitch]

@[simp] theorem cancelSwitch_still (c : CancelCause) (s : State) :
    (cancelSwitch c s).link.still = s.link.still := by
  unfold cancelSwitch
  split <;> simp

@[simp] theorem effectiveTrigger_still (s : State) :
    (effectiveTrigger s).link.still = s.link.still := by
  unfold effectiveTrigger
  repeat' split
  all_goals simp

@[simp] theorem armSwitch_still (set : TariffSet) (e : Option ServiceTime) (s : State) :
    (armSwitch set e s).link.still = s.link.still := by
  unfold armSwitch
  split <;> simp

@[simp] theorem runTask_still (s : State) (t : TriggerTask) :
    (runTask s t).link.still = s.link.still := by
  unfold runTask
  split <;> simp

@[simp] theorem setTimeState_still (st : TimeState) (c : TimeCause) (s : State) :
    (setTimeState st c s).link.still = s.link.still := by
  unfold setTimeState
  split <;> simp

@[simp] theorem applyGrant_still (i : LaneIx) (b : BerthIx) (ref card : Nat) (k : AdmissionKind) (charge : Nat) (e : Option Notice) (s : State) :
    (applyGrant i b ref card k charge e s).link.still = s.link.still := by simp [applyGrant]

@[simp] theorem openBerth_still (b : BerthIx) (r : OpenRequest) (s : State) :
    (openBerth b r s).link.still = s.link.still := by simp [openBerth]

@[simp] theorem settleOpt_still (b : Option BerthIx) (s : State) :
    (settleOpt b s).link.still = s.link.still := by
  unfold settleOpt
  split <;> simp

@[simp] theorem assignLane_still (i : LaneIx) (b : Option BerthIx) (s : State) :
    (assignLane i b s).link.still = s.link.still := by
  unfold assignLane
  dsimp only
  repeat' split
  all_goals simp

@[simp] theorem setPontoon_still (st : PontoonState) (ret : Option PontoonState) (c : PontoonCause) (s : State) :
    (setPontoon st ret c s).link.still = s.link.still := by simp [setPontoon]

@[simp] theorem foldl_laneToEgress_still (l : List LaneIx) (s : State) :
    (l.foldl laneToEgress s).link.still = s.link.still :=
  foldl_keep (fun s => s.link.still) _ (fun _ _ => by simp) l s

@[simp] theorem foldl_laneFromEgress_still (l : List LaneIx) (s : State) :
    (l.foldl laneFromEgress s).link.still = s.link.still :=
  foldl_keep (fun s => s.link.still) _ (fun _ _ => by simp) l s

@[simp] theorem foldl_laneAtStart_still (l : List LaneIx) (s : State) :
    (l.foldl laneAtStart s).link.still = s.link.still :=
  foldl_keep (fun s => s.link.still) _ (fun _ _ => by simp) l s

@[simp] theorem foldl_runTask_still (l : List TriggerTask) (s : State) :
    (l.foldl runTask s).link.still = s.link.still :=
  foldl_keep (fun s => s.link.still) _ (fun _ _ => by simp) l s

@[simp] theorem giveTrigger_still (s : State) :
    (giveTrigger s).link.still = s.link.still := by simp [giveTrigger]

@[simp] theorem serviceAdvance_still (s : State) :
    (serviceAdvance s).link.still = s.link.still := by
  unfold serviceAdvance
  dsimp only
  repeat' split
  all_goals simp

@[simp] theorem windowExpiry_still (s : State) :
    (windowExpiry s).link.still = s.link.still := by
  unfold windowExpiry
  split <;> simp

@[simp] theorem freeRunStart_still (t : ServiceTime) (s : State) :
    (freeRunStart t s).link.still = s.link.still := by
  unfold freeRunStart
  repeat' split
  all_goals simp

@[simp] theorem enterEgress_still (c : Option EgressCause) (s : State) :
    (enterEgress c s).link.still = s.link.still := by simp [enterEgress]

@[simp] theorem leaveEgress_still (c : EgressCause) (s : State) :
    (leaveEgress c s).link.still = s.link.still := by simp [leaveEgress]

@[simp] theorem demandEvent_still (d : Bool) (c : EgressCause) (s : State) :
    (demandEvent d c s).link.still = s.link.still := by
  unfold demandEvent
  repeat' split
  all_goals simp

@[simp] theorem setLatch_still (v : Bool) (s : State) :
    (setLatch v s).link.still = s.link.still := by simp [setLatch]

@[simp] theorem lineAccepted_still (s : State) :
    (lineAccepted s).link.still = s.link.still := by
  unfold lineAccepted
  split <;> simp

@[simp] theorem ownTimeMark_still (t : ServiceTime) (s : State) :
    (ownTimeMark t s).1.link.still = s.link.still := by
  unfold ownTimeMark
  split <;> simp

@[simp] theorem ownTariffCommit_still (g : Nat) (e : Option ServiceTime) (s : State) :
    (ownTariffCommit g e s).1.link.still = s.link.still := by
  unfold ownTariffCommit commitReply
  repeat' split
  all_goals simp

@[simp] theorem ownTariffCancel_still (s : State) :
    (ownTariffCancel s).1.link.still = s.link.still := by
  unfold ownTariffCancel
  split <;> simp

@[simp] theorem ownPresent_still (n : Nat) (c : Credential) (s : State) :
    (ownPresent n c s).1.link.still = s.link.still := by
  unfold ownPresent
  split <;> simp

@[simp] theorem ownBerthOpen_still (r : OpenRequest) (s : State) :
    (ownBerthOpen r s).1.link.still = s.link.still := by
  unfold ownBerthOpen atBerth
  dsimp only
  repeat' split
  all_goals simp

@[simp] theorem ownBerthClose_still (b : Nat) (s : State) :
    (ownBerthClose b s).1.link.still = s.link.still := by
  unfold ownBerthClose atBerth
  dsimp only
  repeat' split
  all_goals simp

@[simp] theorem ownBerthAmend_still (r : AmendRequest) (s : State) :
    (ownBerthAmend r s).1.link.still = s.link.still := by
  unfold ownBerthAmend atBerth
  dsimp only
  repeat' split
  all_goals simp

@[simp] theorem ownLaneAssign_still (n : Nat) (b : Option Nat) (s : State) :
    (ownLaneAssign n b s).1.link.still = s.link.still := by
  unfold ownLaneAssign atLane
  dsimp only
  repeat' split
  all_goals simp

@[simp] theorem ownLaneReturn_still (n : Nat) (s : State) :
    (ownLaneReturn n s).1.link.still = s.link.still := by
  unfold ownLaneReturn atLane
  dsimp only
  repeat' split
  all_goals simp

@[simp] theorem ownEgressBegin_still (s : State) :
    (ownEgressBegin s).1.link.still = s.link.still := by
  unfold ownEgressBegin egressReply
  split <;> simp

@[simp] theorem ownEgressEnd_still (s : State) :
    (ownEgressEnd s).1.link.still = s.link.still := by
  unfold ownEgressEnd egressReply
  split <;> simp

@[simp] theorem ownSetup_still (r : SetupRequest) (s : State) :
    (ownSetup r s).1.link.still = s.link.still := by
  unfold ownSetup
  dsimp only
  repeat' split
  all_goals simp

@[simp] theorem applyFreeRun_still (t : Option ServiceTime) (s : State) :
    (applyFreeRun t s).link.still = s.link.still := by
  unfold applyFreeRun
  repeat' split
  all_goals simp

@[simp] theorem ownServiceStart_still (t : Option ServiceTime) (s : State) :
    (ownServiceStart t s).1.link.still = s.link.still := by
  unfold ownServiceStart
  repeat' split
  all_goals simp

@[simp] theorem ownServiceStop_still (s : State) :
    (ownServiceStop s).1.link.still = s.link.still := by
  unfold ownServiceStop
  repeat' split
  all_goals simp

@[simp] theorem ownRestart_still (s : State) :
    (ownRestart s).1.link.still = s.link.still := by
  unfold ownRestart
  dsimp only
  split
  · rfl
  · simp only [cancelSwitch_still, foldl_laneAtRestart_link]
    rfl

@[simp] theorem ownJournalRelease_still (n : Nat) (s : State) :
    (ownJournalRelease n s).1.link.still = s.link.still := by
  unfold ownJournalRelease
  dsimp only
  repeat' split
  all_goals simp

end Sys2Proof.Machine
end

