-- ==== Sys2Proof/Laws/Posting.lean ====
section
/-! SUPPORT. Posting notices as a change of the link alone (R203), so that posts commute with every change of another field. -/

namespace Sys2Proof.Machine

open Sys2Proof

/-- What posting a notice makes of the link (R203). -/
def postLink (n : Notice) (k : Link) : Link :=
  if k.queue.length < Config.queueLimit then { k with queue := k.queue ++ [⟨k.lost, n⟩], lost := 0 }
  else
    { k with
      lost := satAdd Config.lostLimit k.lost 1
      stats := { k.stats with noticesDiscarded := bump k.stats.noticesDiscarded } }

theorem post_eq (n : Notice) (s : State) : post n s = { s with link := postLink n s.link } := by
  unfold post postLink
  dsimp only
  split <;> rfl

theorem posting_eq (ns : List Notice) (s : State) :
    State.posting ns s = { s with link := ns.foldl (fun k n => postLink n k) s.link } := by
  induction ns generalizing s with
  | nil => rfl
  | cons n ns ih =>
    have h : State.posting (n :: ns) s = State.posting ns (post n s) := rfl
    rw [h, ih, post_eq]
    rfl

theorem posting_nil (s : State) : State.posting [] s = s := rfl

theorem posting_cons (n : Notice) (ns : List Notice) (s : State) :
    State.posting (n :: ns) s = State.posting ns (post n s) := rfl

theorem posting_append (ns ms : List Notice) (s : State) :
    State.posting (ns ++ ms) s = State.posting ms (State.posting ns s) := by
  simp [State.posting]

theorem postOpt_eq (n : Option Notice) (s : State) : postOpt n s = State.posting n.toList s := by
  cases n <;> rfl

/-- A post keeps the bounds of R203: with at most 64 notices and a lost count of at most 255 before it, so after it. -/
theorem postLink_bounds (n : Notice) (k : Link) (hq : k.queue.length ≤ 64) :
    (postLink n k).queue.length ≤ 64 ∧ (postLink n k).lost ≤ 255 := by
  unfold postLink
  split
  · next h =>
    simp only [Config.queueLimit] at h
    exact ⟨by simp; omega, by simp⟩
  · exact ⟨hq, by simp [satAdd, Config.lostLimit]⟩

end Sys2Proof.Machine
end

