-- ==== Sys2Proof/Laws/State.lean ====
section
/-! SUPPORT. The lemmas of the families of units and of the plain updates of State: reading back what was written, and what a write
leaves alone. -/

namespace Sys2Proof

/-! ### Families of lanes and berths -/

@[simp] theorem PerLane.get_set_self {α : Type} (v : PerLane α) (i : LaneIx) (x : α) : (v.set i x).get i = x := by
  fin_cases i <;> rfl

theorem PerLane.get_set_other {α : Type} (v : PerLane α) (i j : LaneIx) (x : α) (h : j ≠ i) :
    (v.set i x).get j = v.get j := by
  fin_cases i <;> fin_cases j <;> first | rfl | exact absurd rfl h

theorem PerLane.get_set {α : Type} (v : PerLane α) (i j : LaneIx) (x : α) :
    (v.set i x).get j = if j = i then x else v.get j := by
  split
  · next h => subst h; simp
  · next h => exact PerLane.get_set_other v i j x h

@[simp] theorem PerLane.get_tabulate {α : Type} (f : LaneIx → α) (i : LaneIx) : (PerLane.tabulate f).get i = f i := by
  fin_cases i <;> rfl

theorem PerLane.ext_get {α : Type} {v w : PerLane α} (h : ∀ i, v.get i = w.get i) : v = w := by
  obtain ⟨v0, v1, v2, v3, v4, v5, v6, v7⟩ := v
  obtain ⟨w0, w1, w2, w3, w4, w5, w6, w7⟩ := w
  have h0 := h 0; have h1 := h 1; have h2 := h 2; have h3 := h 3
  have h4 := h 4; have h5 := h 5; have h6 := h 6; have h7 := h 7
  change v0 = w0 at h0; change v1 = w1 at h1; change v2 = w2 at h2; change v3 = w3 at h3
  change v4 = w4 at h4; change v5 = w5 at h5; change v6 = w6 at h6; change v7 = w7 at h7
  subst h0 h1 h2 h3 h4 h5 h6 h7
  rfl

@[simp] theorem PerLane.set_get {α : Type} (v : PerLane α) (i : LaneIx) : v.set i (v.get i) = v := by
  fin_cases i <;> rfl

@[simp] theorem PerBerth.get_set_self {α : Type} (v : PerBerth α) (b : BerthIx) (x : α) : (v.set b x).get b = x := by
  fin_cases b <;> rfl

theorem PerBerth.get_set_other {α : Type} (v : PerBerth α) (b c : BerthIx) (x : α) (h : c ≠ b) :
    (v.set b x).get c = v.get c := by
  fin_cases b <;> fin_cases c <;> first | rfl | exact absurd rfl h

theorem PerBerth.get_set {α : Type} (v : PerBerth α) (b c : BerthIx) (x : α) :
    (v.set b x).get c = if c = b then x else v.get c := by
  split
  · next h => subst h; simp
  · next h => exact PerBerth.get_set_other v b c x h

@[simp] theorem PerBerth.set_get {α : Type} (v : PerBerth α) (b : BerthIx) : v.set b (v.get b) = v := by
  fin_cases b <;> rfl

@[simp] theorem mem_allLanes (i : LaneIx) : i ∈ allLanes := by fin_cases i <;> decide

@[simp] theorem mem_allBerths (b : BerthIx) : b ∈ allBerths := by fin_cases b <;> decide

theorem nodup_allLanes : allLanes.Nodup := by decide

theorem nodup_allBerths : allBerths.Nodup := by decide

end Sys2Proof

namespace Sys2Proof.Machine

open Sys2Proof

/-! ### Lanes, berths and lamps after a change of one -/

@[simp] theorem setLane_lane_self (i : LaneIx) (f : Lane → Lane) (s : State) : (setLane i f s).lane i = f (s.lane i) := by
  simp [State.lane, setLane]

theorem setLane_lane_other (i j : LaneIx) (f : Lane → Lane) (s : State) (h : j ≠ i) :
    (setLane i f s).lane j = s.lane j := by
  simp [State.lane, setLane, PerLane.get_set_other _ _ _ _ h]

theorem setLane_lane (i j : LaneIx) (f : Lane → Lane) (s : State) :
    (setLane i f s).lane j = if j = i then f (s.lane i) else s.lane j := by
  simp [State.lane, setLane, PerLane.get_set]

@[simp] theorem setLane_berth (i : LaneIx) (f : Lane → Lane) (s : State) (b : BerthIx) :
    (setLane i f s).berth b = s.berth b := rfl

@[simp] theorem setLane_lamp (i : LaneIx) (f : Lane → Lane) (s : State) (j : LaneIx) :
    (setLane i f s).lamp j = s.lamp j := rfl

@[simp] theorem rescanLamps_lane (s t : State) (i : LaneIx) : (rescanLamps s t).lane i = t.lane i := rfl

@[simp] theorem rescanLamps_berth (s t : State) (b : BerthIx) : (rescanLamps s t).berth b = t.berth b := rfl

@[simp] theorem rescanLamps_lamp (s t : State) (i : LaneIx) :
    (rescanLamps s t).lamp i = if levelRises s t i then (t.lamp i).rise t.runTime false else t.lamp i := by
  simp [State.lamp, rescanLamps]

@[simp] theorem changeLane_lane_self (i : LaneIx) (f : Lane → Lane) (s : State) :
    (changeLane i f s).lane i = f (s.lane i) := by simp [changeLane]

theorem changeLane_lane_other (i j : LaneIx) (f : Lane → Lane) (s : State) (h : j ≠ i) :
    (changeLane i f s).lane j = s.lane j := by simp [changeLane, setLane_lane_other i j f s h]

theorem changeLane_lane (i j : LaneIx) (f : Lane → Lane) (s : State) :
    (changeLane i f s).lane j = if j = i then f (s.lane i) else s.lane j := by simp [changeLane, setLane_lane]

@[simp] theorem changeLane_berth (i : LaneIx) (f : Lane → Lane) (s : State) (b : BerthIx) :
    (changeLane i f s).berth b = s.berth b := rfl

@[simp] theorem changeBerth_berth_self (b : BerthIx) (f : Berth → Berth) (s : State) :
    (changeBerth b f s).berth b = f (s.berth b) := PerBerth.get_set_self ..

theorem changeBerth_berth_other (b c : BerthIx) (f : Berth → Berth) (s : State) (h : c ≠ b) :
    (changeBerth b f s).berth c = s.berth c := PerBerth.get_set_other _ _ _ _ h

theorem changeBerth_berth (b c : BerthIx) (f : Berth → Berth) (s : State) :
    (changeBerth b f s).berth c = if c = b then f (s.berth b) else s.berth c := PerBerth.get_set ..

@[simp] theorem changeBerth_lane (b : BerthIx) (f : Berth → Berth) (s : State) (i : LaneIx) :
    (changeBerth b f s).lane i = s.lane i := rfl

@[simp] theorem changeTrip_berth_self (b : BerthIx) (f : Trip → Trip) (s : State) :
    (changeTrip b f s).berth b = (s.berth b).map f := by simp [changeTrip]

theorem changeTrip_berth_other (b c : BerthIx) (f : Trip → Trip) (s : State) (h : c ≠ b) :
    (changeTrip b f s).berth c = s.berth c := changeBerth_berth_other b c _ s h

theorem changeTrip_berth (b c : BerthIx) (f : Trip → Trip) (s : State) :
    (changeTrip b f s).berth c = if c = b then (s.berth b).map f else s.berth c := changeBerth_berth b c _ s

@[simp] theorem changeTrip_lane (b : BerthIx) (f : Trip → Trip) (s : State) (i : LaneIx) :
    (changeTrip b f s).lane i = s.lane i := rfl

/-! ### What a lookup reads -/

/-- Two states with the same lanes have the same lane units. -/
theorem lane_congr {s t : State} (h : t.lanes = s.lanes) (i : LaneIx) : t.lane i = s.lane i := by simp [State.lane, h]

theorem berth_congr {s t : State} (h : t.berths = s.berths) (b : BerthIx) : t.berth b = s.berth b := by
  simp [State.berth, h]

theorem lamp_congr {s t : State} (h : t.lamps = s.lamps) (i : LaneIx) : t.lamp i = s.lamp i := by simp [State.lamp, h]

theorem demand_congr {s t : State} (h : t.supervisor = s.supervisor) : t.demand = s.demand := by simp [State.demand, h]

/-! ### Notices -/

/-- What posting a notice does to the Link Controller (R203). -/
theorem post_link (n : Notice) (s : State) :
    (post n s).link =
      if s.link.queue.length < Config.queueLimit then
        { s.link with queue := s.link.queue ++ [⟨s.link.lost, n⟩], lost := 0 }
      else
        { s.link with
          lost := satAdd Config.lostLimit s.link.lost 1
          stats := { s.link.stats with noticesDiscarded := bump s.link.stats.noticesDiscarded } } := by
  unfold post
  dsimp only
  split <;> rfl

/-- Posting a notice keeps the Notice Queue within 64 (R203). -/
theorem post_queue_length (n : Notice) (s : State) (h : s.link.queue.length ≤ Config.queueLimit) :
    (post n s).link.queue.length ≤ Config.queueLimit := by
  rw [post_link]
  split
  · simp; omega
  · exact h

/-- The lost count after a notice is posted is within 0..255 (R203). -/
theorem post_lost (n : Notice) (s : State) : (post n s).link.lost ≤ Config.lostLimit := by
  rw [post_link]
  split
  · simp
  · simp [satAdd]

@[simp] theorem post_lane (n : Notice) (s : State) (i : LaneIx) : (post n s).lane i = s.lane i := by
  unfold post; dsimp only; split <;> rfl

@[simp] theorem post_berth (n : Notice) (s : State) (b : BerthIx) : (post n s).berth b = s.berth b := by
  unfold post; dsimp only; split <;> rfl

@[simp] theorem post_lamp (n : Notice) (s : State) (i : LaneIx) : (post n s).lamp i = s.lamp i := by
  unfold post; dsimp only; split <;> rfl

end Sys2Proof.Machine
end

