-- ==== Sys2Proof/Laws/Changes.lean ====
section
/-! SUPPORT. Changing one lane or one berth as a plain record update, with lamps rising nowhere but at the lanes concerned (R46), and
the settlement test at a berth that a lane holds back (R22). -/

namespace Sys2Proof.Machine

open Sys2Proof

/-! ### Whose lamps can rise -/

/-- A lane whose own unit and whose berth are as before does not see its level condition rise. -/
theorem levelRises_same {before after : State} {j : LaneIx} (hl : after.lane j = before.lane j)
    (hp : after.lamp j = before.lamp j) (hb : after.boardingTrip j = before.boardingTrip j) :
    levelRises before after j = false := by
  have h : after.level j = before.level j := by
    unfold State.level
    rw [hl, hp, hb]
  unfold levelRises
  rw [h, hl]
  cases before.level j <;> simp

theorem boardingTrip_of_berths {before after : State} {j : LaneIx} (hl : after.lane j = before.lane j)
    (hb : ∀ b, (before.lane j).berth = some b → after.berth b = before.berth b) :
    after.boardingTrip j = before.boardingTrip j := by
  unfold State.boardingTrip
  rw [hl]
  cases hb' : (before.lane j).berth with
  | none => rfl
  | some b => simp only [hb b hb']

/-- Changing a lane is a plain update in which no other lane's lamp changes (R46). -/
theorem changeLane_eq (i : LaneIx) (f : Lane → Lane) (s : State) :
    ∃ lamps : PerLane Lamp, (∀ j, j ≠ i → lamps.get j = s.lamp j) ∧
      changeLane i f s = { s with lanes := s.lanes.set i (f (s.lane i)), lamps := lamps } := by
  refine ⟨(changeLane i f s).lamps, ?_, rfl⟩
  intro j hj
  have hl : (setLane i f s).lane j = s.lane j := setLane_lane_other i j f s hj
  simp only [changeLane, rescanLamps, PerLane.get_tabulate]
  rw [levelRises_same hl rfl (boardingTrip_of_berths hl fun _ _ => rfl)]
  rfl

/-- A change of a lane at which its own condition does not rise changes no lamp. -/
theorem changeLane_quiet {i : LaneIx} {f : Lane → Lane} {s : State} (h : levelRises s (setLane i f s) i = false) :
    changeLane i f s = setLane i f s := by
  have hl : (changeLane i f s).lamps = s.lamps := by
    apply PerLane.ext_get
    intro j
    simp only [changeLane, rescanLamps, PerLane.get_tabulate]
    by_cases hj : j = i
    · subst hj
      rw [h]
      rfl
    · have hl : (setLane i f s).lane j = s.lane j := setLane_lane_other i j f s hj
      rw [levelRises_same hl rfl (boardingTrip_of_berths hl fun _ _ => rfl)]
      rfl
  show ({ setLane i f s with lamps := (changeLane i f s).lamps } : State) = _
  rw [hl]
  rfl

/-- A lane that enters OFF sees no condition rise (R46). -/
theorem levelRises_off {before after : State} {i : LaneIx} (h : (after.lane i).state = .off) :
    levelRises before after i = false := by
  simp [levelRises, State.level, h]

/-- Changing a berth is a plain update in which only the lamps of its own lanes can change (R46). -/
theorem changeBerth_eq (b : BerthIx) (f : Berth → Berth) (s : State) :
    ∃ lamps : PerLane Lamp, (∀ j, (s.lane j).berth ≠ some b → lamps.get j = s.lamp j) ∧
      changeBerth b f s = { s with berths := s.berths.set b (f (s.berth b)), lamps := lamps } := by
  refine ⟨(changeBerth b f s).lamps, ?_, rfl⟩
  intro j hj
  simp only [changeBerth, rescanLamps, PerLane.get_tabulate]
  have hq : levelRises s { s with berths := s.berths.set b (f (s.berth b)) } j = false := by
    refine levelRises_same rfl rfl (boardingTrip_of_berths rfl fun c hc => ?_)
    have hcb : c ≠ b := fun e => hj (e ▸ hc)
    exact PerBerth.get_set_other _ _ _ _ hcb
  rw [hq]
  rfl

/-- A change of a berth at which no lane's condition rises changes no lamp. -/
theorem changeBerth_quiet {b : BerthIx} {f : Berth → Berth} {s : State}
    (h : ∀ j, levelRises s { s with berths := s.berths.set b (f (s.berth b)) } j = false) :
    changeBerth b f s = { s with berths := s.berths.set b (f (s.berth b)) } := by
  have hl : (changeBerth b f s).lamps = s.lamps := by
    apply PerLane.ext_get
    intro j
    simp only [changeBerth, rescanLamps, PerLane.get_tabulate]
    rw [h j]
    rfl
  show ({ ({ s with berths := s.berths.set b (f (s.berth b)) } : State) with lamps := (changeBerth b f s).lamps } : State) = _
  rw [hl]

/-- Changing the trip of a berth that holds one. -/
theorem changeTrip_eq {b : BerthIx} {s : State} {t : Trip} (f : Trip → Trip) (h : s.berth b = some t) :
    ∃ lamps : PerLane Lamp, (∀ j, (s.lane j).berth ≠ some b → lamps.get j = s.lamp j) ∧
      changeTrip b f s = { s with berths := s.berths.set b (some (f t)), lamps := lamps } := by
  obtain ⟨lamps, hl, he⟩ := changeBerth_eq b (Option.map f) s
  refine ⟨lamps, hl, ?_⟩
  rw [changeTrip, he, h]
  rfl

/-! ### The settlement test -/

/-- A berth that one of its lanes holds back does not depart (R22). -/
theorem settle_of_busy {b : BerthIx} {i : LaneIx} {s : State} (hb : (s.lane i).berth = some b)
    (hs : (s.lane i).state.busy = true) : settle b s = s := by
  unfold settle
  cases ht : s.berth b with
  | none => rfl
  | some t =>
    have : s.settled b t = false := by
      have hany : allLanes.any (s.holdsBack b) = true :=
        List.any_eq_true.mpr ⟨i, mem_allLanes i, by simp [State.holdsBack, hb, hs]⟩
      simp [State.settled, hany]
    simp [this]

/-- The same for the berth of a lane in a state that holds it back. -/
theorem settleBerthOf_of_busy {i : LaneIx} {s : State} (hs : (s.lane i).state.busy = true) : settleBerthOf i s = s := by
  unfold settleBerthOf
  cases hb : (s.lane i).berth with
  | none => rfl
  | some b => exact settle_of_busy hb hs

/-- A VACANT berth has nothing to settle. -/
theorem settle_of_vacant {b : BerthIx} {s : State} (h : s.berth b = none) : settle b s = s := by
  unfold settle
  rw [h]

end Sys2Proof.Machine
end

