-- ==== Sys2Proof/Laws/Taking.lean ====
section
/-! SUPPORT. What taking a request and ending an event can do, said once: a request that meets a free answer slot is acted on by its
owner, and its answer goes to the line or into the slot (R197, R207). -/

namespace Sys2Proof.Machine

open Sys2Proof

/-! ### What equal still parts of the link share -/

theorem Link.still_eq {k l : Link} (h : k.still = l.still) :
    k.strap1 = l.strap1 ∧ k.strap0 = l.strap0 ∧ k.framer = l.framer ∧ k.pendingRequest = l.pendingRequest ∧
      k.answerSlot = l.answerSlot ∧ k.transmitter = l.transmitter := by
  simp only [Link.still, Link.mk.injEq] at h
  exact ⟨h.1, h.2.1, h.2.2.1, h.2.2.2.1, h.2.2.2.2.1, h.2.2.2.2.2.2.2.1⟩

@[simp] theorem countTaken_pendingRequest (s : State) : (countTaken s).link.pendingRequest = s.link.pendingRequest := rfl
@[simp] theorem countTaken_transmitter (s : State) : (countTaken s).link.transmitter = s.link.transmitter := rfl
@[simp] theorem countTaken_answerSlot (s : State) : (countTaken s).link.answerSlot = s.link.answerSlot := rfl
@[simp] theorem countTaken_still (s : State) : (countTaken s).link.still = s.link.still := rfl
@[simp] theorem countTaken_runTime (s : State) : (countTaken s).runTime = s.runTime := rfl
@[simp] theorem countTaken_supervisor (s : State) : (countTaken s).supervisor = s.supervisor := rfl
@[simp] theorem countTaken_clock (s : State) : (countTaken s).clock = s.clock := rfl
@[simp] theorem countTaken_tariff (s : State) : (countTaken s).tariff = s.tariff := rfl
@[simp] theorem countTaken_berths (s : State) : (countTaken s).berths = s.berths := rfl
@[simp] theorem countTaken_lanes (s : State) : (countTaken s).lanes = s.lanes := rfl
@[simp] theorem countTaken_lamps (s : State) : (countTaken s).lamps = s.lamps := rfl
@[simp] theorem countTaken_recent (s : State) : (countTaken s).recent = s.recent := rfl
@[simp] theorem countTaken_deny (s : State) : (countTaken s).deny = s.deny := rfl
@[simp] theorem countTaken_journal (s : State) : (countTaken s).journal = s.journal := rfl
@[simp] theorem countTaken_draws (s : State) : (countTaken s).draws = s.draws := rfl
@[simp] theorem countTaken_pending (s : State) : (countTaken s).pending = s.pending := rfl
@[simp] theorem countTaken_berth (s : State) (b : BerthIx) : (countTaken s).berth b = s.berth b := rfl
@[simp] theorem countTaken_lane (s : State) (i : LaneIx) : (countTaken s).lane i = s.lane i := rfl
@[simp] theorem countTaken_lamp (s : State) (i : LaneIx) : (countTaken s).lamp i = s.lamp i := rfl
@[simp] theorem countTaken_queue (s : State) : (countTaken s).link.queue = s.link.queue := rfl
@[simp] theorem countTaken_lost (s : State) : (countTaken s).link.lost = s.link.lost := rfl

/-! ### What every owner keeps -/

@[simp] theorem owner_still (q : Request) (s : State) : (owner q s).1.link.still = s.link.still := by
  cases q <;> simp [owner]

@[simp] theorem owner_runTime (q : Request) (s : State) : (owner q s).1.runTime = s.runTime := by
  cases q <;> simp [owner]

@[simp] theorem owner_pending (q : Request) (s : State) : (owner q s).1.pending = s.pending := by
  cases q <;> simp [owner]

@[simp] theorem judgeRequest_still (q : Request) (s : State) : (judgeRequest q s).1.link.still = s.link.still := by
  unfold judgeRequest
  split <;> simp

@[simp] theorem judgeRequest_runTime (q : Request) (s : State) : (judgeRequest q s).1.runTime = s.runTime := by
  unfold judgeRequest
  split <;> simp

@[simp] theorem judgeRequest_pending (q : Request) (s : State) : (judgeRequest q s).1.pending = s.pending := by
  unfold judgeRequest
  split <;> simp

/-- A request that meets an empty answer slot and no pending request is judged at once and answered, with the transmitter's leave
at once on an idle line. -/
theorem request_of_slotFree {tag : Byte} {q : Request} {s : State} (h : s.slotFree) :
    request tag q s =
      State.answering (requestKind q) tag (judgeRequest q (countTaken s)).2 (judgeRequest q (countTaken s)).1 := by
  obtain ⟨ha, hp⟩ := h
  have hs := Link.still_eq (judgeRequest_still q (countTaken s))
  have hp' : (judgeRequest q (countTaken s)).1.link.pendingRequest = none := by rw [hs.2.2.2.1]; exact hp
  unfold request completeRequest takeRequest
  simp only [hp, ha, Option.isSome_none, Bool.false_eq_true, if_false]
  unfold endOfEvent State.answering
  by_cases ht : (judgeRequest q (countTaken s)).1.link.transmitter = none
  · simp [State.changeLink, ht, arbitrate, startAnswer, hp']
  · simp [State.changeLink, ht]

/-- The same with the owner in place of the judgement, for a request whose length agrees. -/
theorem request_of_owner {tag : Byte} {q : Request} {s : State} (h : s.slotFree) (hl : lengthFault q = none) :
    request tag q s =
      State.answering (requestKind q) tag (owner q (countTaken s)).2 (owner q (countTaken s)).1 := by
  rw [request_of_slotFree h]
  simp [judgeRequest, hl]

end Sys2Proof.Machine
end

