-- ==== Sys2Proof/Tests/Slice0.lean ====
section
/-! SUPPORT. Small checks by evaluation: one step of each command against a value the manual gives, the refusals of WellFormed, and
for each statement a concrete state and operands that meet all of its hypotheses together. -/

namespace Sys2Proof.Tests

-- The checks run one after another: as tasks they would wait for each other on more threads than memory allows.
set_option Elab.async false

open Sys2Proof Sys2Proof.Machine

/-! ### Small states -/

/-- The tariff of the worked case of chapter 6, generation 7, with one scheme of each kind (R76). -/
def tariff7 : TariffSet where
  fares := ⟨7, List.replicate 10 100 ++ [750] ++ List.replicate 21 100, 180, 360, 900⟩
  concessions := ⟨List.replicate 3 ⟨0, 0⟩ ++ [⟨40, 1200⟩] ++ List.replicate 4 ⟨0, 0⟩, 60, 2, 50⟩
  schemesLow := [⟨1, 255#8, 0, true⟩, ⟨2, 255#8, 0, true⟩, ⟨3, 255#8, 2, true⟩, ⟨4, 3#8, 0, true⟩] ++ List.replicate 12 ⟨0, 0#8, 0, false⟩
  schemesHigh := List.replicate 16 ⟨0, 0#8, 0, false⟩

/-- A present lane in CLOSED, assigned to Berth 1, its beams clear and its sense closed. -/
def closedLane : Lane := { State.reset.lane 0 with state := .closed, berth := some 1 }

/-- Out of service: all lanes OFF, Berth 1 assigned, time SYNCED at day 412, second 38400. -/
def stopped : State :=
  { State.reset with
    runTime := 100000
    supervisor := { State.reset.supervisor with state := .outOfService, setup := ⟨23, 8, 4, 30, 120, 10800, 3, true⟩ }
    clock := ⟨.synced, some ⟨412, 38400⟩, some 90000, some 90000, 10⟩
    tariff := { State.reset.tariff with active := some tariff7 }
    lanes := PerLane.tabulate fun _ => { closedLane with state := .off } }

/-- In service: the same with all lanes CLOSED. -/
def serving : State :=
  { stopped with
    supervisor := { stopped.supervisor with state := .inService }
    lanes := PerLane.tabulate fun _ => closedLane }

/-- The BERTH_OPEN of the worked sequence of chapter 1. -/
def openRequest : OpenRequest := ⟨1, 880412, 305, 2, 12, 9, some ⟨412, 39600⟩, true, true, some 2⟩

/-- The trip it sets up. -/
def openTrip : Trip := openedTrip openRequest serving

/-- In service with that trip OPEN at Berth 1. -/
def boarding : State := { serving with berths := serving.berths.set 1 (some openTrip) }

/-- The hold of the first grant of that sequence. -/
def holdA : Hold := ⟨4102233, 880412, 100, .purse⟩

/-- The lane that carries it: OPEN, with its passage timer running. -/
def openLane : Lane := { closedLane with state := .opened, hold := some holdA, passageTimer := some 108000, sense := true }

/-- That trip with one hold, so NEAR with two free places. -/
def nearTrip : Trip :=
  { openTrip with
    counts := { openTrip.counts with holds := 1, paidPurse := 1, revenue := 100 }
    fill := .near
    flags := { openTrip.flags with near := true }
    firstGeneration := 7
    lastGeneration := 7 }

/-- Lane 2 OPEN with the hold, its list entry HELD, a deny number, a stored record and a pending switch. -/
def carrying : State :=
  { boarding with
    berths := boarding.berths.set 1 (some nearTrip)
    lanes := boarding.lanes.set 2 openLane
    recent := [⟨4102233, 880412, 1, 2, .held, 100, .purse, 95000, 95000⟩]
    deny := [512]
    journal := ⟨[nearTrip.compose 0], []⟩
    tariff := { boarding.tariff with
      staged := ⟨some { tariff7.fares with generation := 8 }, some tariff7.concessions, some tariff7.schemesLow, some tariff7.schemesHigh⟩
      pendingSwitch := some ⟨8, ⟨412, 43200⟩⟩ }
    pending := [.status 1#8] }

/-- A frame on the line, so that notices stay in the queue where they can be seen. -/
def lineBusy (s : State) : State := { s with link := { s.link with transmitter := some ⟨.notice ⟨0, .laneReturned 0⟩, 0⟩ } }

/-- The state with lane 2 replaced. -/
def lane2 (l : Lane) (s : State) : State := { s with lanes := s.lanes.set 2 l }

/-- The reply that a request's answer carries on an idle line. -/
def replyOf (c : Instr) (s : State) : Option Reply :=
  (execState c s).bind fun t => t.link.transmitter.bind fun x =>
    match x.frame with
    | .answer a => some a.reply
    | .notice _ => none

/-- The notices in the queue after a command. -/
def noticesOf (c : Instr) (s : State) : Option (List Notice) :=
  (execState c s).map fun t => t.link.queue.map fun q => q.notice

/-- One value read from the state after a command. -/
def after {α : Type} (c : Instr) (s : State) (f : State → α) : Option α := (execState c s).map f

/-- A credential of the worked case of chapter 6. -/
def transferCard : Credential where
  card := 4102233
  cardState := 0
  concession := 3
  lastBoarding := some ⟨412, 36300, 17, 2, 300, 0⟩
  daySpend := ⟨412, 1100⟩
  productCount := 2
  products := [⟨0, 1, 1#8, .carnet 0⟩, ⟨1, 0, 0#8, .purse 80⟩]

/-- A SETUP request of one lane. -/
def oneLane : SetupRequest := ⟨23, 1, 1, [⟨0, 75, 8000, 1500⟩], 30, 120, 180, 3, true⟩

/-! ### WellFormed refuses each ill-formed field -/

theorem test_wf_setup_refuses :
    [{ oneLane with pontoonId := 65536 }, { oneLane with lanesPresent := 256 }, { oneLane with berthsPresent := 256 },
      { oneLane with lanes := [⟨256, 20, 8000, 1500⟩] }, { oneLane with lanes := [⟨0, 256, 8000, 1500⟩] },
      { oneLane with lanes := [⟨0, 20, 65536, 1500⟩] }, { oneLane with lanes := [⟨0, 20, 8000, 65536⟩] },
      { oneLane with lanes := List.replicate 79 ⟨0, 20, 8000, 1500⟩ }, { oneLane with courtesyWindow := 256 },
      { oneLane with markWindow := 65536 }, { oneLane with dayStartOffset := 65536 },
      { oneLane with defaultMargin := 256 }].all (fun r => !(Instr.setup 0#8 r).wellFormed) = true := by decide +kernel

theorem test_wf_times_refused :
    [Instr.serviceStart 0#8 (some ⟨65536, 0⟩), .timeMark 0#8 ⟨65536, 0⟩, .timeMark 0#8 ⟨0, 4294967296⟩,
      .tariffCommit 0#8 65536 none, .tariffCommit 0#8 1 (some ⟨65536, 0⟩)].all (fun c => !c.wellFormed) = true := by
  decide +kernel

theorem test_wf_tariff_load_refuses :
    [Instr.tariffLoad 0#8 256 .unread, .tariffLoad 0#8 4 (.schemes []),
      .tariffLoad 0#8 0 (.fares { tariff7.fares with generation := 65536 }),
      .tariffLoad 0#8 0 (.fares { tariff7.fares with matrix := [] }), .tariffLoad 0#8 0 (.fares { tariff7.fares with s1 := 65536 }),
      .tariffLoad 0#8 0 (.fares { tariff7.fares with s2 := 65536 }), .tariffLoad 0#8 0 (.fares { tariff7.fares with s3 := 65536 }),
      .tariffLoad 0#8 0 (.fares { tariff7.fares with matrix := List.replicate 32 65536 }),
      .tariffLoad 0#8 1 (.concessions { tariff7.concessions with table := [] }),
      .tariffLoad 0#8 1 (.concessions { tariff7.concessions with table := List.replicate 8 ⟨256, 0⟩ }),
      .tariffLoad 0#8 1 (.concessions { tariff7.concessions with transferWindow := 256 }),
      .tariffLoad 0#8 1 (.concessions { tariff7.concessions with maxTransfers := 256 }),
      .tariffLoad 0#8 1 (.concessions { tariff7.concessions with creditLimit := 65536 }),
      .tariffLoad 0#8 2 (.schemes []), .tariffLoad 0#8 2 (.schemes (List.replicate 16 ⟨256, 0#8, 0, false⟩)),
      .tariffLoad 0#8 3 (.schemes (List.replicate 16 ⟨0, 0#8, 256, false⟩)),
      .tariffLoad 0#8 1 (.concessions { tariff7.concessions with table := List.replicate 8 ⟨0, 65536⟩ })].all
        (fun c => !c.wellFormed) = true := by decide +kernel

theorem test_wf_berths_and_lanes_refused :
    [Instr.berthOpen 0#8 { openRequest with berth := 256 }, .berthOpen 0#8 { openRequest with tripRef := 4294967296 },
      .berthOpen 0#8 { openRequest with vessel := 65536 }, .berthOpen 0#8 { openRequest with routeClass := 256 },
      .berthOpen 0#8 { openRequest with capacity := 65536 }, .berthOpen 0#8 { openRequest with aboard := 65536 },
      .berthOpen 0#8 { openRequest with departure := some ⟨65536, 0⟩ }, .berthOpen 0#8 { openRequest with margin := some 256 },
      .berthClose 0#8 256, .berthQuery 0#8 256, .berthAmend 0#8 ⟨256, none, .keep, none, none, .keep⟩,
      .berthAmend 0#8 ⟨0, some 65536, .keep, none, none, .keep⟩, .berthAmend 0#8 ⟨0, none, .set ⟨65536, 0⟩, none, none, .keep⟩,
      .berthAmend 0#8 ⟨0, none, .keep, none, none, .set 256⟩, .berthAmend 0#8 ⟨0, none, .keep, none, none, .reserved 2⟩,
      .laneAssign 0#8 256 none, .laneAssign 0#8 0 (some 255), .laneReturn 0#8 256, .laneLamp 0#8 ⟨256, 0, 0, 0, false⟩,
      .laneLamp 0#8 ⟨0, 256, 0, 0, false⟩, .laneLamp 0#8 ⟨0, 0, 256, 0, false⟩, .laneLamp 0#8 ⟨0, 0, 0, 65536, false⟩].all
        (fun c => !c.wellFormed) = true := by decide +kernel

theorem test_wf_credentials_refused :
    [{ transferCard with card := 4294967296 }, { transferCard with cardState := 256 }, { transferCard with concession := 256 },
      { transferCard with lastBoarding := some ⟨65536, 0, 1, 0, 0, 0⟩ }, { transferCard with lastBoarding := some ⟨0, 0, 65536, 0, 0, 0⟩ },
      { transferCard with lastBoarding := some ⟨0, 0, 1, 256, 0, 0⟩ }, { transferCard with lastBoarding := some ⟨0, 0, 1, 0, 65536, 0⟩ },
      { transferCard with lastBoarding := some ⟨0, 0, 1, 0, 0, 256⟩ }, { transferCard with daySpend := ⟨65536, 0⟩ },
      { transferCard with daySpend := ⟨0, 65536⟩ }, { transferCard with productCount := 256 },
      { transferCard with products := [⟨256, 0, 0#8, .carnet 0⟩] }, { transferCard with products := [⟨0, 256, 0#8, .carnet 0⟩] },
      { transferCard with products := [⟨0, 0, 0#8, .carnet 256⟩] }, { transferCard with products := [⟨0, 0, 0#8, .purse 2147483648⟩] },
      { transferCard with products := [⟨0, 0, 0#8, .allowance 65536 0⟩] }, { transferCard with products := [⟨0, 0, 0#8, .pass 0 65536⟩] },
      { transferCard with products := [⟨0, 0, 0#8, .unknown 3⟩] }].all (fun c => !(Instr.present 0#8 0 c).wellFormed) = true := by
  decide +kernel

theorem test_wf_lists_and_kinds_refused :
    [Instr.denyAdd 0#8 256 [], .denyAdd 0#8 1 [4294967296], .denyRemove 0#8 120 (List.replicate 120 1), .denyCheck 0#8 4294967296,
      .journalRelease 0#8 4294967296, .unknownKind 0#8 256, .unknownKind 0#8 0x30, .present 0#8 256 transferCard].all
        (fun c => !c.wellFormed) = true := by decide +kernel

theorem test_wf_accepts_worked_requests :
    [Instr.setup 0#8 oneLane, .berthOpen 0#8 openRequest, .present 0#8 2 transferCard, .tariffLoad 0#8 0 (.fares tariff7.fares),
      .unknownKind 0#8 0x08].all Instr.wellFormed = true := by decide +kernel

theorem test_no_row_has_bits : decodeTableWord 8 0 = none := rfl

/-! ### One step of each command -/

/-- R177: every block takes its power-on values. -/
theorem test_power_on_reset :
    after (.powerOnReset ⟨false, false, false, .tabulate fun _ => false, .tabulate fun _ => false, .tabulate fun _ => false⟩) carrying
      (fun t => (t.supervisor.state, t.runTime, t.recent.length, t.deny)) = some (.config, 0, 0, []) := by decide +kernel

/-- R44: a filter code of 75 ms, midway, takes the larger value, and the answer names the field. -/
theorem test_setup_clamps_midway :
    replyOf (.setup 1#8 oneLane) State.reset = some (.setup [⟨1, 2⟩] .outOfService) ∧
    after (.setup 1#8 oneLane) State.reset (fun t => (t.lane 0).filterCode) = some 100 := by decide +kernel

/-- R184: a lane whose sense shows open starts in FAULT, the others in CLOSED. -/
theorem test_service_start :
    replyOf (.serviceStart 1#8 none) (lane2 { closedLane with state := .off, sense := true } stopped) =
      some (.serviceStart .synced (some ⟨412, 38400⟩) 7 1) := by decide +kernel

/-- R185: a stop is refused while a berth is not VACANT, and the berth is named. -/
theorem test_service_stop_active :
    replyOf (.serviceStop 1#8) boarding = some (.berthsActive [(1, .opened)]) := by decide +kernel

theorem test_service_stop :
    after (.serviceStop 1#8) serving (fun t => (t.supervisor.state, (t.lane 5).state)) = some (.outOfService, .off) := by decide +kernel

/-- R187: PONTOON_STATE, EGRESS, then the lane's HOLD_VOID, then the berth's FILL. -/
theorem test_egress_begin_notices :
    noticesOf (.egressBegin 1#8) carrying = some
      [.pontoonState .inService .egress .egressBegin (some .inService) (some ⟨412, 38400⟩),
        .egress .begins .request false true (some ⟨412, 38400⟩), .holdVoid 2 4102233 .egress 100 .purse,
        .fill 1 .room 9 0 12] := by decide +kernel

/-- R186: EGRESS_END with the latch clear is REDUNDANT. -/
theorem test_egress_end_redundant :
    replyOf (.egressEnd 1#8) serving = some (.egress .redundant false false false .inService) := by decide +kernel

/-- R191: the answer carries what was discarded, and the list is empty. -/
theorem test_restart :
    replyOf (.restart 1#8) { lane2 { closedLane with state := .off } stopped with
      link := { stopped.link with queue := [⟨0, .laneReturned 0⟩, ⟨0, .laneReturned 1⟩], lost := 5 } } = some (.restart 2 5) := by
  decide +kernel

/-- R208: STATUS reports its own frame as taken (log 22). -/
theorem test_status_counts_its_frame :
    after (.status 1#8) serving (fun t => t.link.stats.framesTaken) = some 1 := by decide +kernel

/-- Chapter 8: a mark 95 s ahead posts TIME_STEP FORWARD. -/
theorem test_time_mark_step :
    noticesOf (.timeMark 1#8 ⟨412, 52235⟩) { serving with clock := { serving.clock with time := some ⟨412, 52140⟩ } } =
      some [.timeStep ⟨412, 52140⟩ ⟨412, 52235⟩ .forward] := by decide +kernel

/-- R19 and R153: a mark at the departure time closes the berth, after its own TIME_STEP. -/
theorem test_time_mark_closes_berth :
    (noticesOf (.timeMark 1#8 ⟨412, 39600⟩) boarding).map (List.take 2) = some
      [.timeStep ⟨412, 38400⟩ ⟨412, 39600⟩ .forward,
        .berthState 1 .closing 880412 (some .departureTime) (some ⟨412, 39600⟩)] := by decide +kernel

/-- Chapter 7, T + 40000: a load while a switch is pending is answered PENDING. -/
theorem test_tariff_load_pending :
    replyOf (.tariffLoad 1#8 1 (.concessions tariff7.concessions)) carrying = some (.code .pending) := by decide +kernel

theorem test_tariff_clear_redundant : replyOf (.tariffClear 1#8) serving = some (.code .redundant) := by decide +kernel

/-- Chapter 7, 11:40:00: generation 8 is armed for 12:00:00. -/
theorem test_tariff_commit_arms :
    replyOf (.tariffCommit 1#8 8 (some ⟨412, 43200⟩)) { carrying with tariff := { carrying.tariff with pendingSwitch := none } } =
      some (.tariffCommit .ok 7 (some ⟨412, 43200⟩)) := by decide +kernel

theorem test_tariff_cancel :
    noticesOf (.tariffCancel 1#8) carrying = some [.tariffCancelled .request 8 ⟨412, 43200⟩ 7] := by decide +kernel

theorem test_tariff_query :
    replyOf (.tariffQuery 1#8) carrying =
      some (.tariffQuery ⟨7, (true, true, true, true), some 8, true, some ⟨412, 43200⟩, .synced⟩) := by decide +kernel

/-- Chapter 1, step 1: FILL ROOM and BERTH_STATE OPEN, answered with 3 free places. -/
theorem test_berth_open :
    replyOf (.berthOpen 1#8 openRequest) serving = some (.berthOpen false 1 (some ⟨.room, 3⟩) .opened) ∧
    noticesOf (.berthOpen 1#8 openRequest) serving =
      some [.fill 1 .room 9 0 12, .berthState 1 .opened 880412 none (some ⟨412, 38400⟩)] := by decide +kernel

/-- R15 and R22: with no hold and no lane busy the berth closes, departs and is VACANT at once. -/
theorem test_berth_close_departs :
    noticesOf (.berthClose 1#8 1) boarding =
      some [.berthState 1 .closing 880412 (some .request) (some ⟨412, 38400⟩), .berthState 1 .departed 880412 none (some ⟨412, 38400⟩),
        .tripStored 1 880412 1, .berthState 1 .vacant 880412 none (some ⟨412, 38400⟩)] := by decide +kernel

/-- R17: a capacity amended to 9 with 9 onboard closes the berth with cause FULL, after FILL FULL. -/
theorem test_berth_amend_full :
    (noticesOf (.berthAmend 1#8 ⟨1, some 9, .keep, none, none, .keep⟩) boarding).map (List.take 2) =
      some [.fill 1 .full 9 0 9, .berthState 1 .closing 880412 (some .full) (some ⟨412, 38400⟩)] := by decide +kernel

/-- R18: a VACANT berth is reported without a trip. -/
theorem test_berth_query_vacant : replyOf (.berthQuery 1#8 3) boarding = some (.berthQuery none) := by decide +kernel

/-- R45: a lane in OPEN keeps its assignment. -/
theorem test_lane_assign_busy : replyOf (.laneAssign 1#8 2 none) carrying = some (.code .busy) := by decide +kernel

theorem test_lane_assign_none : replyOf (.laneAssign 1#8 3 none) carrying = some (.laneAssign 3 none) := by decide +kernel

/-- R39: with the sense closed the return completes in the same event. -/
theorem test_lane_return :
    noticesOf (.laneReturn 1#8 2) (lane2 { closedLane with state := .fault, faultCause := some .forced } serving) =
      some [.laneReturned 2] := by decide +kernel

/-- R48: 175 ms lies midway between 100 and 250 and takes the larger. -/
theorem test_lane_lamp_midway :
    replyOf (.laneLamp 1#8 ⟨2, 1, 1, 175, false⟩) serving = some (.laneLamp true ⟨.on, .pulse, 250⟩) := by decide +kernel

/-- Chapter 6, a transfer meeting the cap and the credit limit: charge 100, ride value 450, balance −20, day spend 1200. -/
theorem test_present_worked_case :
    replyOf (.present 1#8 2 transferCard) boarding = some (.decision
      ⟨2, .granted .purse (some 1) 100 450 true, some 1, some ⟨.near, 2⟩, false, 7, none,
        ⟨false, some ⟨412, 38400, 23, 2, 450, 1⟩, some ⟨412, 1200⟩, some ⟨1, 0, 0#8, .purse (-20)⟩⟩⟩) := by decide +kernel

/-- Chapter 6, the cap exhausted: a purse at −60 is refused INSUFFICIENT with its slot, not CARNET_EMPTY. -/
theorem test_present_insufficient :
    (replyOf (.present 1#8 2 { transferCard with
        daySpend := ⟨412, 1250⟩, products := [⟨0, 1, 1#8, .carnet 0⟩, ⟨1, 0, 0#8, .purse (-60)⟩] }) boarding).map
      (fun r => match r with
        | .decision d => decide (d.outcome = .refused .insufficient (some 1))
        | _ => false) = some true := by decide +kernel

/-- Chapter 9: five numbers of which two are already present and one no longer fits. -/
theorem test_deny_add_full :
    replyOf (.denyAdd 1#8 5 [300, 512, 300, 77, 90]) { serving with deny := 512 :: (List.range 2045).map (· + 1000) } =
      some (.denyAdd 2 2 1 (some 90) 2048 true) := by decide +kernel

/-- Chapter 9: 512 twice is removed once and counted absent once. -/
theorem test_deny_remove_twice : replyOf (.denyRemove 1#8 2 [512, 512]) carrying = some (.denyRemove 1 1 0) := by decide +kernel

theorem test_deny_clear : replyOf (.denyClear 1#8) carrying = some (.denyClear .ok 1) := by decide +kernel

theorem test_deny_check : replyOf (.denyCheck 1#8 512) carrying = some (.denyCheck 512 true 1) := by decide +kernel

theorem test_journal_read_empty : replyOf (.journalRead 1#8) serving = some (.journalEmptyRead 0 0) := by decide +kernel

theorem test_journal_release : replyOf (.journalRelease 1#8 880412) carrying = some (.journalRelease 880412 0 0 none) := by decide +kernel

/-- R198: the answer to an unknown kind carries the kind. -/
theorem test_unknown_kind : replyOf (.unknownKind 1#8 0x7F) serving = some (.unknownKind 0x7F) ∧ answerKind 0x7F = 0xFF := by
  decide +kernel

/-- R195: the check value of the nine digits. -/
theorem test_check_value : crcOf [0x31#8, 0x32#8, 0x33#8, 0x34#8, 0x35#8, 0x36#8, 0x37#8, 0x38#8, 0x39#8] = 0x29B1#16 := by decide +kernel

/-- R196: the start byte leaves HUNT. -/
theorem test_received_start : after (.receivedCharacter (.data 0xA5#8)) serving (fun t => t.link.framer.state) = some .length := by
  decide +kernel

/-- R196: a gap of 11 ms ends the frame in assembly, one of 10 ms does not. -/
theorem test_frame_gap :
    after .frameGapTimeout { serving with link := { serving.link with framer := ⟨.length, [], 99989⟩ } }
      (fun t => (t.link.framer.state, t.link.stats.framingErrors)) = some (.hunt, 1) ∧
    after .frameGapTimeout { serving with link := { serving.link with framer := ⟨.length, [], 99990⟩ } }
      (fun t => (t.link.framer.state, t.link.stats.framingErrors)) = some (.length, 0) := by decide +kernel

/-- R207: with the slot empty the oldest notice follows. -/
theorem test_transmit_frame_end :
    after .transmitFrameEnd { lineBusy serving with link := { (lineBusy serving).link with queue := [⟨2, .laneReturned 4⟩] } }
      (fun t => (t.link.transmitter, t.link.stats.noticesSent)) = some (some ⟨.notice ⟨2, .laneReturned 4⟩, 100000⟩, 1) := by
  decide +kernel

/-- R49: a raw change starts a measure of the filter's 20 ms. -/
theorem test_beam_raw :
    after (.beamRawChange 2 true false) serving (fun t => (t.lane 2).beamA) = some ⟨true, false, some ⟨true, 100000, 20⟩⟩ := by
  decide +kernel

/-- Chapter 3, T + 20: the outer beam is accepted and the pair is OUTER_ONLY with entry and last OUTER. -/
theorem test_beam_accepted :
    after (.beamAcceptedChange 2) (lane2 { closedLane with beamA := ⟨true, false, some ⟨true, 99980, 20⟩⟩ } serving)
      (fun t => (t.lane 2).decoder) = some ⟨.outerOnly, some .outer, some .outer⟩ := by decide +kernel

/-- R53, at filter code 0: a raw change of the inner side that waits for the same millisecond is one change of the pair with that of the outer
side, and so is one that follows it in that millisecond. -/
theorem test_sides_joined :
    after (.beamRawChange 2 true false) (lane2 { closedLane with filterCode := 0 } { serving with pending := [.beamRawChange 2 true true] })
      (fun t => (t.lane 2).decoder) = some ⟨.both, some .unknown, none⟩ ∧
    after (.beamRawChange 2 true true) (lane2 { closedLane with
        filterCode := 0, beamA := ⟨true, true, none⟩, decoder := ⟨.outerOnly, some .outer, some .outer⟩
        lastChange := some ⟨100000, ⟨.clear, none, none⟩⟩ } serving)
      (fun t => (t.lane 2).decoder) = some ⟨.both, some .unknown, none⟩ := by decide +kernel

/-- R53: a change of the inner side at a later millisecond passes through the pair between. -/
theorem test_sides_apart :
    after (.beamRawChange 2 true true) (lane2 { closedLane with
        filterCode := 0, beamA := ⟨true, true, none⟩, decoder := ⟨.outerOnly, some .outer, some .outer⟩
        lastChange := some ⟨99999, ⟨.clear, none, none⟩⟩ } serving)
      (fun t => (t.lane 2).decoder) = some ⟨.both, some .outer, none⟩ := by decide +kernel

/-- R53, log 7: a change of the inner side that comes when the outer side's return to CLEAR has handed over its class in that millisecond, and
one that waits with it, make the pair pass from OUTER_ONLY to INNER_ONLY. -/
theorem test_sides_swap :
    after (.beamRawChange 2 false true) (lane2 { closedLane with
        filterCode := 0, lastChange := some ⟨100000, ⟨.outerOnly, some .outer, some .outer⟩⟩ } serving)
      (fun t => (t.lane 2).decoder) = some ⟨.innerOnly, some .outer, some .inner⟩ ∧
    after (.beamRawChange 2 false false) (lane2 { closedLane with
        filterCode := 0, beamA := ⟨true, true, none⟩, decoder := ⟨.outerOnly, some .outer, some .outer⟩ }
        { serving with pending := [.receivedCharacter (.data 1#8), .transmitFrameEnd, .beamRawChange 2 false true] })
      (fun t => (t.lane 2).decoder) = some ⟨.innerOnly, some .outer, some .inner⟩ := by decide +kernel

/-- R6: an onboard count that has saturated at 0 stays there for the rest of the trip, and one that has not rises from 0. -/
theorem test_saturated_onboard :
    ({ nearTrip with counts := { nearTrip.counts with onboard := 0 } } : Trip).leaveOne.boardOne.counts.onboard = 0 ∧
    ({ nearTrip with counts := { nearTrip.counts with onboard := 0 } } : Trip).boardOne.counts.onboard = 1 ∧
    ({ nearTrip with counts := { nearTrip.counts with onboard := 999 } } : Trip).boardOne.leaveOne.counts.onboard = 999 := by
  decide +kernel

/-- A forward passage consumes the hold: PASSAGE PAID with the card, and one more onboard. -/
theorem test_forward_passage_is_paid :
    noticesOf (.beamAcceptedChange 2) (lineBusy (lane2 { openLane with
        beamB := ⟨false, true, some ⟨false, 99980, 20⟩⟩, decoder := ⟨.innerOnly, some .outer, some .inner⟩ } carrying)) =
      some [.passage 2 (some 1) .forward .paid (some 4102233)] := by decide +kernel

/-- Chapter 2, T + 650: the open sense starts the passage timer at its full 8000 ms. -/
theorem test_sense_opens :
    after (.barrierSenseChange 2 true) (lane2 { openLane with
        state := .opening, sense := false, passageTimer := none, barrierTimer := some 100850 } carrying)
      (fun t => ((t.lane 2).state, (t.lane 2).passageTimer, (t.lane 2).barrierTimer)) = some (.opened, some 108000, none) := by
  decide +kernel

/-- R35: HOLD_VOID first and LANE_FAULT second, then the berth's FILL. -/
theorem test_barrier_timer_notices :
    noticesOf (.barrierTimerExpiry 2) (lineBusy (lane2 { openLane with
        state := .opening, sense := false, passageTimer := none, barrierTimer := some 100000 } carrying)) =
      some [.holdVoid 2 4102233 .fault 100 .purse, .laneFault 2 .openTimeout, .fill 1 .room 9 0 12] := by decide +kernel

/-- Chapter 2, T + 8650: with the outer beam blocked the expiry is deferred. -/
theorem test_passage_timer_deferred :
    after (.passageTimerExpiry 2) (lane2 { openLane with
        passageTimer := some 100000, decoder := ⟨.outerOnly, some .outer, some .outer⟩ } carrying)
      (fun t => ((t.lane 2).state, (t.lane 2).expiryPending, (t.lane 2).hold)) = some (.opened, true, some holdA) := by decide +kernel

/-- Chapter 2, T + 10020: the lane enters CLOSING with its barrier timer. -/
theorem test_clear_timer :
    after (.clearTimerExpiry 2) (lane2 { closedLane with state := .clearing, sense := true, clearTimer := some 100000 } boarding)
      (fun t => ((t.lane 2).state, (t.lane 2).barrierTimer)) = some (.closing, some 101500) := by decide +kernel

theorem test_lamp_pulse_end :
    after (.lampPulseEnd 2) { serving with lamps := serving.lamps.set 2 ⟨.on, .pulse, 250, false, some 100000⟩ }
      (fun t => (t.lamp 2).pulseDue) = some none := by decide +kernel

/-- R199: the line level's code is its position in R177's list, asserted 0 and clear 1 (log 12); the latch and the demand are flags. -/
theorem test_line_level_code :
    (Reply.egress .ok true true true .egress).bytes = [0#8, 1#8, 0#8, 1#8, 3#8] ∧
    (Reply.egress .ok true false true .egress).bytes = [0#8, 1#8, 1#8, 1#8, 3#8] := by decide +kernel

/-- R149: second 86399 is followed by second 0 of the next day. -/
theorem test_service_time_wraps :
    after .serviceTimeAdvance { serving with clock := ⟨.synced, some ⟨412, 86399⟩, some 99000, some 99000, 0⟩ }
      (fun t => t.clock.time) = some (some ⟨413, 0⟩) := by decide +kernel

/-- R154: a window of 120 s runs out at the first millisecond beyond 120000. -/
theorem test_mark_window :
    after .markWindowExpiry { serving with runTime := 210001 } (fun t => t.clock.state) = some .degraded ∧
    after .markWindowExpiry { serving with runTime := 210000 } (fun t => t.clock.state) = some .synced := by decide +kernel

theorem test_line_raw : after (.emergencyLineRawChange true) serving (fun t => t.supervisor.line) = some ⟨true, false, some 100000⟩ := by
  decide +kernel

/-- R177: 20 ms after the raw change the level is accepted and the pontoon enters EGRESS. -/
theorem test_line_accepted :
    after .emergencyLineAcceptedChange
      { serving with supervisor := { serving.supervisor with line := ⟨true, false, some 99980⟩ } }
      (fun t => (t.supervisor.state, t.supervisor.returnState)) = some (.egress, some .inService) := by decide +kernel

/-- Chapter 6, rounding: 624.75, 7.5 and 6699.33. -/
theorem test_rounding : [rideValueOf 735 15, rideValueOf 15 50, rideValueOf 9999 33] = [625, 8, 6699] := by decide

/-- R114: with an offset of 10800 s, second 10799 lies in the last minute of the day before. -/
theorem test_service_day :
    (serviceMinute 10800 ⟨412, 10799⟩, serviceDay 10800 ⟨412, 10799⟩, serviceMinute 10800 ⟨412, 10800⟩,
      serviceDay 10800 ⟨412, 10800⟩) = (1439, 411, 0, 412) := by decide +kernel

/-! ### Witnesses: states and operands that meet the hypotheses of each statement -/

theorem carrying_berth : ∀ b, carrying.berth b = if b = 1 then some nearTrip else none := by decide +kernel
theorem boarding_berth : ∀ b, boarding.berth b = if b = 1 then some openTrip else none := by decide +kernel
theorem serving_berth : ∀ b, serving.berth b = none := by decide +kernel
theorem stopped_berth : ∀ b, stopped.berth b = none := by decide +kernel

/-- For LinkStaysSound and the other statements about every step: their laws hold of a state in which a lane carries a hold, a deny number, a record and a pending switch stand and a
command waits; the step from it answers a next state. -/
theorem witness_laws_1 : DenyLaw carrying ∧ QueueLaw carrying ∧ LineLaw carrying ∧ FramerLaw carrying ∧ WaitingLaw carrying ∧
    carrying.commandsFit ∧ ∃ t, step carrying = .next t := by
  have plain : DenyLaw carrying ∧ QueueLaw carrying ∧ LineLaw carrying ∧ FramerLaw carrying ∧ carrying.commandsFit := by
    unfold DenyLaw QueueLaw LineLaw FramerLaw State.commandsFit
    decide +kernel
  obtain ⟨deny, queue, line, framer, fit⟩ := plain
  exact ⟨deny, queue, line, framer, fun _ hb => absurd hb List.not_mem_nil, fit, _, rfl⟩

/-- For DenyListStaysOrdered, with `witness_laws_1`. -/
theorem witness_pending_numbers : carrying.pendingNumbersFit := fun _ _ _ h => nomatch (show none = some _ from h)

/-- For JournalStaysInOrder, with `witness_laws_1`. -/
theorem witness_journal : JournalLaw carrying := by
  refine ⟨by decide +kernel, by decide +kernel, by decide +kernel, fun b t h => ?_⟩
  rw [carrying_berth] at h
  split at h
  · next hb =>
    cases h
    subst hb
    decide +kernel
  · cases h

/-- For CountsStayInRange. -/
theorem witness_counts : CountLaw carrying := by
  refine ⟨fun b t h => ?_, ?_⟩
  · rw [carrying_berth] at h
    split at h
    · cases h
      exact ⟨by unfold Counts.inRange TripFlags.saturate; decide +kernel, fun r hr => nomatch (show none = some r from hr)⟩
    · cases h
  · unfold Counts.inRange TripFlags.saturate
    decide +kernel

/-- For the statements that take ServiceLaw. -/
theorem witness_service : ServiceLaw carrying := by
  intro b hb
  rw [carrying_berth] at hb
  split at hb
  · next h =>
    subst h
    decide +kernel
  · exact absurd rfl hb

/-- For FillLevelFollowsTheCounts. -/
theorem witness_fill : FillLaw carrying := by
  intro b t h _
  rw [carrying_berth] at h
  split at h
  · cases h
    exact ⟨by decide +kernel, rfl⟩
  · cases h

/-- For ClosingConditionsAreActedOn. -/
theorem witness_closing : ClosingLaw carrying := by
  intro b t h
  rw [carrying_berth] at h
  split at h
  · cases h
    exact ⟨by decide +kernel, fun hp => nomatch (show TripPhase.opened = TripPhase.closing from hp)⟩
  · cases h

/-- For LanesStayCoherent. -/
theorem witness_lanes : LaneLaw carrying := by
  intro i
  refine ⟨?_, ?_, ?_, ?_, ?_⟩
  · revert i; unfold Lane.coherent; decide +kernel
  · have plain : ∀ i, (carrying.lane i).decoder.pair = (carrying.lane i).pair ∧ (carrying.lane i).decoder.sound ∧
        (carrying.lane i).lastChange = none := by
      unfold Decoder.sound
      decide +kernel
    exact ⟨(plain i).1, (plain i).2.1, fun c hc => nomatch (plain i).2.2.symm.trans hc⟩
  · fin_cases i <;> exact rfl
  · fin_cases i <;> exact rfl
  · revert i; decide +kernel

/-- For ClockStaysSound. -/
theorem witness_clock : ClockLaw carrying := by
  have present : (carrying.clock.state = .unset ↔ carrying.clock.time = none) ∧
      (carrying.clock.time = none ↔ carrying.clock.settingRunTime = none) ∧
      (carrying.clock.state = .synced → carrying.clock.lastMark ≠ none) := by decide +kernel
  refine ⟨present.1, present.2.1, present.2.2, fun t h => ?_, fun r h => ?_, fun r h => ?_⟩
  · have h' : some (⟨412, 38400⟩ : ServiceTime) = some t := h
    cases h'
    decide
  · have h' : some 90000 = some r := h
    cases h'
    decide +kernel
  · have h' : some 90000 = some r := h
    cases h'
    decide +kernel

/-- For ClockStaysSound, with `witness_laws_1`. -/
theorem witness_days : DayLaw carrying ∧ carrying.pendingTimesFit := by
  refine ⟨fun t h => ?_, fun _ _ h => nomatch (show none = some _ from h)⟩
  have h' : some (⟨412, 38400⟩ : ServiceTime) = some t := h
  cases h'
  decide

/-- For PendingSwitchStaysSound. -/
theorem witness_tariff : TariffLaw carrying := by
  intro p h
  have h' : some (⟨8, ⟨412, 43200⟩⟩ : PendingSwitch) = some p := h
  cases h'
  refine ⟨by decide +kernel, by decide +kernel, ⟨_, rfl, by decide +kernel, by decide +kernel⟩, fun now hn => ?_⟩
  have hn' : some (⟨412, 38400⟩ : ServiceTime) = some now := hn
  cases hn'
  decide

/-- For SupervisorStaysSound. -/
theorem witness_egress : EgressLaw carrying := by unfold EgressLaw; decide +kernel

/-- For HoldsEqualTheLanesThatHold. -/
theorem witness_holds : HoldLaw carrying := by
  refine ⟨by decide +kernel, fun i b h hb hh => ?_⟩
  by_cases hi : i = 2
  · subst hi
    have hb' : some (1 : BerthIx) = some b := hb
    have hh' : some holdA = some h := hh
    cases hb'
    cases hh'
    exact ⟨nearTrip, by decide +kernel, by decide +kernel, by decide +kernel⟩
  · have : ∀ i, i ≠ 2 → (carrying.lane i).hold = none := by decide +kernel
    rw [this i hi] at hh
    cases hh

/-- For RecentListAgreesWithTheHolds. -/
theorem witness_recent : ListLaw carrying := by
  refine ⟨by decide +kernel, by decide +kernel, by decide +kernel, by decide +kernel, fun i h hh => ?_⟩
  by_cases hi : i = 2
  · subst hi
    have hh' : some holdA = some h := hh
    cases hh'
    decide +kernel
  · have : ∀ i, i ≠ 2 → (carrying.lane i).hold = none := by decide +kernel
    rw [this i hi] at hh
    cases hh

/-- For ActiveSetChangesOnlyWhole and OnlyMarksMoveTimeBack. -/
theorem witness_active_set_and_marks : carrying.tariff.active = some tariff7 ∧ carrying.clock.time = some ⟨412, 38400⟩ ∧
    carrying.link.pendingRequest = none ∧ carrying.link.framer.stored[2]? ≠ some 0x10#8 ∧ carrying.pending = [.status 1#8] := by
  decide +kernel

/-- For RunTimePassesOnlyInIdleSteps. -/
theorem witness_run_time : State.reset.pending = [] ∧ ∀ pins, Instr.status 1#8 ≠ .powerOnReset pins := ⟨rfl, fun _ => nofun⟩

/-- For every statement about a request: the answer slot is free in the states of the request statements. -/
theorem witness_slot_free : State.reset.slotFree ∧ stopped.slotFree ∧ serving.slotFree ∧ boarding.slotFree ∧ carrying.slotFree := by
  unfold State.slotFree
  decide +kernel

/-! #### The link -/

/-- A line with an answer in the slot, and with a request waiting behind it. -/
def slotFull : State := { lineBusy serving with link := { (lineBusy serving).link with answerSlot := some ⟨7, 1#8, .code .ok⟩ } }
def slotFullWaiting : State := { slotFull with link := { slotFull.link with pendingRequest := some ⟨2#8, .status⟩ } }

/-- For RequestsWaitOrAreOverrun. -/
theorem witness_requests_wait : requestFrameOf (.journalRead 3#8) = some ⟨3#8, .journalRead⟩ ∧ LineLaw slotFull ∧
    slotFull.link.pendingRequest = none ∧ slotFull.link.answerSlot ≠ none ∧ LineLaw slotFullWaiting ∧
    slotFullWaiting.link.pendingRequest ≠ none := by
  unfold LineLaw
  decide +kernel

/-- For UnknownKindsAndWrongLengthsAreAnswered. -/
theorem witness_wrong_lengths : ({ transferCard with productCount := 3 } : Credential).products.length ≠ 3 ∧
    ({ oneLane with lanesPresent := 2 } : SetupRequest).lanes.length ≠ 2 ∧ ([] : List Nat).length ≠ 1 ∧
    contentsAgree 3 (.concessions tariff7.concessions) = false ∧ 0x08 ∉ requestKinds ∧ (List.replicate 8 (0#8 : Byte)).length ≠ 7 ∧
    (List.replicate 2 (0#8 : Byte)).length < 3 ∧ (List.replicate 24 (0#8 : Byte)).length < 25 ∧
    (List.replicate 12 (0#8 : Byte)).length ≠ 11 + 6 * ((List.replicate 12 (0#8 : Byte)).getD 2 0#8).toNat ∧
    (List.replicate 26 (0#8 : Byte)).length ≠ 25 + 8 * ((List.replicate 26 (0#8 : Byte)).getD 24 0#8).toNat ∧
    [2#8].length ≠ 1 + 4 * (([2#8] : List Byte).getD 0 0#8).toNat ∧ (([3#8] : List Byte).getD 0 0#8).toNat ≤ 3 := by decide

/-- For FrameBytesDeliverTheRequest. -/
theorem witness_frame_bytes : (0x07 < 256 ∧ (List.replicate 480 (0#8 : Byte)).length ≤ 480) ∧ serving.link.framer = Framer.idle ∧
    LineLaw serving ∧ crcOf (be 2 0 ++ be 1 0x07 ++ [1#8]) ≠ 0#16 := by
  unfold LineLaw
  decide +kernel

/-- A frame in assembly whose first length byte is 1, its last character 10 ms before; the next byte 0xE0 makes the length 480. -/
def assembling : State := { lineBusy serving with link := { (lineBusy serving).link with framer := ⟨.length, [1#8], 99990⟩ } }

/-- For FramerDiscardsAndCounts. -/
theorem witness_framer : (lineBusy serving).link.transmitter ≠ none ∧ (lineBusy serving).link.framer.state = .hunt ∧
    assembling.link.transmitter ≠ none ∧ assembling.link.framer.state ≠ .hunt ∧
    assembling.runTime ≤ assembling.link.framer.lastCharacter + 10 ∧ assembling.link.framer.stored = [1#8] ∧
    ({ assembling with runTime := 100001 } : State).link.framer.lastCharacter + 10 < 100001 ∧
    Character.error ≠ .data 0xA5#8 := by decide +kernel

/-- For TransmitFrameEndHandsOutTheLine. -/
theorem witness_transmit_end : slotFull.link.transmitter ≠ none ∧ slotFull.link.answerSlot ≠ none ∧ slotFull.link.pendingRequest = none ∧
    slotFullWaiting.link.pendingRequest = some ⟨2#8, .status⟩ ∧ (lineBusy serving).link.answerSlot = none ∧
    (lineBusy serving).link.queue = [] ∧
    ({ (lineBusy serving).link with queue := [⟨0, .laneReturned 0⟩] } : Link).queue = [⟨0, .laneReturned 0⟩] := by decide +kernel

/-- For PostedNoticesEnterOrAreLost. -/
theorem witness_posting : (List.replicate 63 (⟨0, .laneReturned 0⟩ : QueuedNotice)).length < 64 ∧
    64 ≤ (List.replicate 64 (⟨0, .laneReturned 0⟩ : QueuedNotice)).length ∧ serving.link.transmitter = none ∧
    serving.link.answerSlot = none ∧ serving.link.queue = [] ∧ (lineBusy serving).link.transmitter ≠ none := by decide +kernel

/-- For BodiesRoundTripAndHaveTheirSizes. -/
theorem witness_bodies : (Instr.present 1#8 2 transferCard).wellFormed = true ∧ transferCard.productCount = transferCard.products.length ∧
    (∀ p ∈ transferCard.products, fieldsKnown p.fields = true) ∧
    ((List.replicate 119 4294967295).length ≤ 119 ∧ ∀ x ∈ List.replicate 119 4294967295, x < 4294967296) ∧
    (65535 < 65536 ∧ 4294967295 < 4294967296) := by decide +kernel

/-! #### Lists, stores and the clock -/

/-- For DenyAddAddsWhatFits, DenyRemoveRemovesWhatItCarries and the first part of DenyClearAndCheckAndPresentAgree. -/
theorem witness_deny_lists : DenyLaw carrying ∧ ([] : List Nat) = [] ∧ 32 < (List.replicate 33 1).length ∧
    (List.replicate 32 5).length ≤ 32 ∧ 0 ∉ List.replicate 32 5 ∧ 0 ∈ [90, 0] ∧ carrying.deny ≠ [] ∧ serving.deny = [] ∧ 512 ≠ 0 := by
  unfold DenyLaw
  decide +kernel

/-- For DenyClearAndCheckAndPresentAgree. -/
theorem witness_deny_check_agrees : boarding.supervisor.state = .inService ∧ boarding.lanePresent 2 = true ∧
    (boarding.lane 2).berth = some 1 ∧ boarding.berthPresent 1 = true ∧ (boarding.lane 2).state = .closed ∧
    boarding.berth 1 = some openTrip ∧ openTrip.phase = .opened ∧ malformed transferCard = false ∧ transferCard.cardState = 0 ∧
    transferCard.productCount = transferCard.products.length ∧ transferCard.card ∉ boarding.deny ∧
    ({ boarding with deny := [4102233] } : State).deny = [4102233] := by decide +kernel

/-- A DEPARTED trip that holds its record, at Berth 1 of a controller whose journal is full. -/
def departedTrip : Trip := openTrip.departedAt 1 (some ⟨412, 38400⟩)
def waitingState : State :=
  { serving with
    berths := serving.berths.set 1 (some departedTrip)
    journal := ⟨List.replicate 8 (nearTrip.compose 0), [1]⟩ }

theorem waitingState_berth : ∀ b, waitingState.berth b = if b = 1 then some departedTrip else none := by decide +kernel

/-- One berth waits while the journal is full: the one in DEPARTED, which holds its record. -/
theorem waitingState_journal : JournalLaw waitingState := by
  have counts : waitingState.journal.records.length ≤ 8 ∧
      (waitingState.journal.waiting ≠ [] → waitingState.journal.records.length = 8) ∧ waitingState.journal.waiting.Nodup := by
    decide +kernel
  refine ⟨counts.1, counts.2.1, counts.2.2, fun b t h => ?_⟩
  rw [waitingState_berth] at h
  split at h
  · next hb =>
    cases h
    subst hb
    decide +kernel
  · cases h

/-- For JournalReadAndRelease. -/
theorem witness_journal_release : WaitingLaw waitingState ∧ JournalLaw waitingState ∧ waitingState.slotFree ∧ 880412 ≠ 0 ∧
    waitingState.journal.records = nearTrip.compose 0 :: List.replicate 7 (nearTrip.compose 0) ∧
    880412 = (nearTrip.compose 0).tripRef ∧ 880413 ≠ (nearTrip.compose 0).tripRef ∧ waitingState.journal.waiting = [1] ∧
    serving.journal.records = [] ∧ carrying.journal.records = [nearTrip.compose 0] ∧ carrying.journal.waiting = [] := by
  unfold State.slotFree
  refine ⟨?_, waitingState_journal, ?_⟩
  · unfold WaitingLaw
    decide +kernel
  · decide +kernel

/-- For TariffLoadReplacesOneSegment. -/
theorem witness_tariff_load : 3 < 4 ∧ contentsAgree 0 (.fares tariff7.fares) = true ∧ contentsAgree 1 (.concessions tariff7.concessions) = true ∧
    contentsAgree 3 (.schemes tariff7.schemesHigh) = true ∧ carrying.tariff.pendingSwitch ≠ none ∧ serving.tariff.pendingSwitch = none ∧
    segmentBad (.fares tariff7.fares) = none ∧ segmentBad (.fares { tariff7.fares with s1 := 0 }) ≠ none ∧
    segmentBad (.concessions tariff7.concessions) = none ∧ segmentBad (.schemes tariff7.schemesHigh) = none := by decide +kernel

/-- A staged generation 8 with no switch pending. -/
def staged8 : State := { carrying with tariff := { carrying.tariff with pendingSwitch := none } }
/-- The same before the first activation. -/
def staged8First : State := { staged8 with tariff := { staged8.tariff with active := none } }

/-- For TariffClearAndCancel. -/
theorem witness_tariff_clear_and_cancel : staged8.tariff.pendingSwitch = none ∧ staged8.tariff.staged ≠ ⟨none, none, none, none⟩ ∧
    serving.tariff.staged = ⟨none, none, none, none⟩ ∧ carrying.tariff.pendingSwitch = some ⟨8, ⟨412, 43200⟩⟩ := by decide +kernel

/-- For TariffCommitActivatesOrArms. -/
theorem witness_tariff_commit : staged8.slotFree ∧ (8 : Nat) ≠ 0 ∧ (∃ set, staged8.tariff.staged.complete? = some set ∧ set.fares.generation = 8) ∧
    staged8.tariff.active = some tariff7 ∧ tariff7.fares.generation ≠ 8 ∧ staged8.clock.state = .synced ∧
    staged8.clock.time = some ⟨412, 38400⟩ ∧ absSecond ⟨412, 38400⟩ ≤ absSecond ⟨412, 38400⟩ ∧
    absSecond ⟨412, 38400⟩ < absSecond ⟨412, 38401⟩ ∧ staged8First.tariff.active = none ∧
    staged8First.tariff.staged.complete? = staged8.tariff.staged.complete? := by
  refine ⟨by unfold State.slotFree; decide +kernel, by decide, ⟨_, rfl, by decide +kernel⟩, ?_⟩
  decide +kernel

/-- For TariffCommitRefusals: a state and a generation for each check. -/
theorem witness_tariff_commit_refused : (⟨412, 86400⟩ : ServiceTime).second > 86399 ∧ serving.tariff.staged.complete? = none ∧
    staged8.tariff.staged.fares.map (fun f => f.generation) ≠ some 9 ∧
    ({ staged8.tariff with staged := { staged8.tariff.staged with fares := some tariff7.fares } } : TariffStore).staged.fares.map
      (fun f => f.generation) = some 7 ∧ staged8.tariff.active.map (fun a => a.fares.generation) = some 7 ∧
    ({ staged8.clock with state := .degraded } : Clock).state ≠ .synced := by decide +kernel

/-- For TimeMarkSetsServiceTime. -/
theorem witness_time_mark : 86399 < 86400 ∧ (⟨412, 38401⟩ : ServiceTime).second ≤ 86399 ∧
    (∀ b t d, boarding.berth b = some t → t.phase = .opened → t.context.closeAtDeparture = true → t.context.departure = some d →
      absSecond ⟨412, 38401⟩ < absSecond d) ∧
    ∀ p, boarding.tariff.pendingSwitch = some p → absSecond ⟨412, 38401⟩ < absSecond p.effective := by
  refine ⟨by decide, by decide, fun b t d h _ _ hd => ?_, fun p hp => nomatch (show none = some p from hp)⟩
  rw [boarding_berth] at h
  split at h
  · cases h
    have hd' : some (⟨412, 39600⟩ : ServiceTime) = some d := hd
    cases hd'
    decide
  · cases h

/-- For ServiceTimeAdvancesAndMarkWindowRunsOut: the clock at the last millisecond before an advance is due, and at the one at which it is. -/
theorem witness_service_advance : boarding.clock.state ≠ .unset ∧ boarding.clock.settingRunTime = some 90000 ∧
    boarding.clock.time = some ⟨412, 38400⟩ ∧ boarding.runTime < 90000 + 1000 * (boarding.clock.advances + 1) ∧
    90000 + 1000 * (boarding.clock.advances + 1) ≤ ({ boarding with runTime := 101000 } : State).runTime := by decide +kernel

/-- For ServiceTimeAdvancesAndMarkWindowRunsOut, the window at its boundary. -/
theorem witness_mark_window : boarding.clock.state = .synced ∧ boarding.clock.lastMark = some 90000 ∧
    1000 * boarding.supervisor.setup.markWindow < 210001 - 90000 ∧ 210000 - 90000 ≤ 1000 * boarding.supervisor.setup.markWindow ∧
    State.reset.clock.state ≠ .synced := by decide +kernel

/-! #### Berths and lanes -/

/-- For BerthRequestsCheckAndQuery. -/
theorem witness_berth_requests : State.reset.supervisor.state = .config ∧ boarding.supervisor.state ≠ .config ∧ 4 ≤ 4 ∧
    boarding.supervisor.setup.berthsPresent ≤ 4 ∧ (3 : BerthIx).val < boarding.supervisor.setup.berthsPresent := by decide +kernel

/-- For BerthOpenSetsUpTheTrip: each refusal of a BERTH_OPEN, and the one that passes, at Berths 1 and 2. -/
theorem witness_berth_open : openRequest.berth = (1 : BerthIx).val ∧ openRequest.tripRef = openTrip.context.tripRef ∧
    boarding.berth 1 = some openTrip ∧ boarding.berth 2 = none ∧ serving.berth 1 = none ∧ stopped.supervisor.state ≠ .inService ∧
    openInRange openRequest = true ∧ openInRange { openRequest with capacity := 601 } = false ∧
    openInRange { openRequest with capacity := 600, margin := some 50 } = true := by decide +kernel

/-- A CLOSING trip without holds and one with a hold. -/
def closingState : State := { serving with berths := serving.berths.set 1 (some { openTrip with phase := .closing }) }

/-- For BerthCloseClosesAnOpenBerth. -/
theorem witness_berth_close : boarding.berth 1 = some openTrip ∧ openTrip.phase = .opened ∧ serving.berth 1 = none ∧
    closingState.berth 1 = some { openTrip with phase := .closing } ∧ departedTrip.phase = .departed ∧
    waitingState.berth 1 = some departedTrip := by decide +kernel

/-- For SettlingABerth. -/
theorem witness_settling : closingState.settled 1 { openTrip with phase := .closing } = true ∧
    closingState.journal.records.length < 8 ∧ carrying.settled 1 nearTrip = false ∧ 8 ≤ waitingState.journal.records.length := by
  decide +kernel

/-- For BerthAmendReplacesTheContext. -/
theorem witness_berth_amend : amendInRange ⟨1, some 9, .keep, none, none, .keep⟩ = true ∧
    amendInRange ⟨1, some 601, .keep, none, none, .keep⟩ = false ∧ amendInRange ⟨1, none, .keep, none, none, .set 50⟩ = true ∧
    amendInRange ⟨1, none, .reserved 3, none, none, .keep⟩ = false ∧ amendInRange ⟨1, none, .set ⟨412, 86400⟩, none, none, .keep⟩ = false ∧ boarding.berth 1 = some openTrip ∧ serving.berth 1 = none := by
  decide +kernel

/-- For LaneReportsChangeTheTrip. -/
theorem witness_lane_reports : carrying.berth 1 = some nearTrip ∧ nearTrip.phase ≠ .departed ∧
    ((decide (Movement.forward = .forward)) = true ∧ (decide (Movement.reverse = .forward)) = false) ∧
    serving.berth 1 = none ∧ waitingState.berth 1 = some departedTrip ∧ departedTrip.phase = .departed := by decide +kernel

/-- For LaneAssignReplacesTheAssignment. -/
theorem witness_lane_assign : (carrying.lane 2).state ∈ [LaneState.opening, .opened, .clearing, .closing, .egress] ∧
    (carrying.lane 3).state ∈ [LaneState.closed, .off, .fault] ∧ (carrying.lane 3).berth = some 1 ∧ (carrying.lane 3).berth ≠ none ∧
    (7 : LaneIx).val < carrying.supervisor.setup.lanesPresent ∧ carrying.supervisor.setup.lanesPresent ≤ 8 ∧
    (1 : BerthIx).val < carrying.supervisor.setup.berthsPresent ∧ State.reset.supervisor.state = .config := by decide +kernel

def faultedLane : Lane := { closedLane with state := .fault, faultCause := some .forced }

/-- For LaneReturnClosesAFaultedLane. -/
theorem witness_lane_return : ((lane2 faultedLane serving).lane 2).state = .fault ∧ ((lane2 faultedLane serving).lane 2).sense = false ∧
    ((lane2 { faultedLane with sense := true } serving).lane 2).sense = true ∧ (serving.lane 2).state ≠ .fault ∧
    (2 : LaneIx).val < serving.supervisor.setup.lanesPresent := by decide +kernel

/-- For LaneLampSelectsAndPulsesEnd. -/
theorem witness_lane_lamp : 9 < 10 ∧ 2 < 3 ∧ LampCondition.ofCode 9 = some .egress ∧ LampWidth.ofCode 1 = some .pulse ∧
    (250 ∈ [100, 250, 500, 1000, 2000] ∧ ∀ v ∈ [100, 250, 500, 1000, 2000],
      ((175 : Int) - 250).natAbs ≤ ((175 : Int) - (v : Nat)).natAbs ∧
      (((175 : Int) - 250).natAbs = ((175 : Int) - (v : Nat)).natAbs → v ≤ 250)) ∧
    ({ serving with lamps := serving.lamps.set 2 ⟨.on, .pulse, 250, false, some 100000⟩ } : State).lamp 2 =
      ⟨.on, .pulse, 250, false, some 100000⟩ := by decide +kernel

/-- For BarrierSenseChangeByLaneState: a lane in each state that takes a change of its sense. -/
theorem witness_sense_change : (carrying.lane 2).sense = (!false) ∧ (carrying.lane 2).state = .opened ∧
    ((lane2 { openLane with state := .opening, sense := false } carrying).lane 2).state = .opening ∧
    ((lane2 { closedLane with state := .clearing, sense := true } carrying).lane 2).sense = (!false) ∧
    ((lane2 { closedLane with state := .closing, sense := true } carrying).lane 2).state = .closing ∧
    (carrying.lane 3).state = .closed ∧ (carrying.lane 3).sense = (!true) ∧ (carrying.lane 3).sense = false ∧
    ((lane2 faultedLane serving).lane 2).state ∈ [LaneState.off, .fault, .egress] := by decide +kernel

def openingLane : Lane := { openLane with state := .opening, sense := false, passageTimer := none, barrierTimer := some 100000 }
def closingLane : Lane := { closedLane with state := .closing, sense := true, barrierTimer := some 100000 }
def clearingLane : Lane := { closedLane with state := .clearing, sense := true, clearTimer := some 100000 }
def expiringLane : Lane := { openLane with passageTimer := some 100000 }

/-- For BarrierTimerExpiryFaultsTheLane and PassageAndClearTimersRunOut: lanes whose timers are due at run time 100000 and not one millisecond before. -/
theorem witness_timers : ((lane2 openingLane carrying).lane 2).coherent ∧ ((lane2 closingLane carrying).lane 2).coherent ∧
    ((lane2 clearingLane carrying).lane 2).coherent ∧ ((lane2 expiringLane carrying).lane 2).coherent ∧
    ((lane2 { expiringLane with decoder := ⟨.both, some .outer, none⟩ } carrying).lane 2).coherent ∧
    carrying.runTime = 100000 ∧ ({ carrying with runTime := 99999 } : State).runTime < 100000 ∧
    (carrying.supervisor.state = .inService ∧ stopped.supervisor.state = .outOfService) := by
  unfold Lane.coherent
  refine ⟨?_, ?_, ?_, ?_, ?_, ?_⟩ <;> decide +kernel

/-! #### Beams and passages -/

/-- For BeamFiltersMeasureAndAccept. -/
theorem witness_beam_filters : (serving.lane 2).filterCode ≠ 0 ∧ ({ closedLane with filterCode := 0 } : Lane).filterCode = 0 ∧
    closedLane.beamA.measure = none ∧ closedLane.beamB.measure = none ∧ closedLane.beamA.raw = closedLane.beamA.accepted ∧
    true ≠ closedLane.beamA.raw ∧ waitingRaw 2 true false [.beamRawChange 2 true false, .receivedCharacter (.data 1#8), .beamRawChange 2 true true] = some (true, true) ∧
    waitingRaw 2 true false [.powerOnReset Pins.atRest, .beamRawChange 2 true true] = none ∧ (⟨true, 99980, 20⟩ : Measure).start + 20 ≤ serving.runTime ∧
    serving.runTime < (⟨true, 99981, 20⟩ : Measure).start + 20 := by decide +kernel

/-- For DecoderClassifiesMovements. -/
theorem witness_decoder_path : (∀ p ∈ [PairState.outerOnly, .both, .innerOnly], p ≠ .clear) ∧
    [PairState.outerOnly, .both, .innerOnly].head? = some .outerOnly ∧ [PairState.outerOnly, .both, .innerOnly].getLast? = some .innerOnly ∧
    (⟨.innerOnly, some .outer, some .inner⟩ : Decoder).take .clear = (⟨.clear, none, none⟩, some (.forward, .outer)) ∧
    (⟨.clear, none, none⟩ : Decoder).take .both = (⟨.both, some .unknown, none⟩, none) ∧
    (PairState.clear, PairState.both) ∈ [(PairState.clear, PairState.both), (.both, .clear), (.outerOnly, .innerOnly), (.innerOnly, .outerOnly)] := by
  decide +kernel

/-- For MovementsActByLaneState. -/
theorem witness_movements : (7 : LaneIx).val < carrying.supervisor.setup.lanesPresent ∧
    ({ stopped.supervisor.setup with lanesPresent := 7 } : Setup).lanesPresent ≤ (7 : LaneIx).val ∧
    (carrying.lane 3).state ∉ [LaneState.opening, .opened] ∧ (carrying.lane 3).expiryPending = false ∧
    (carrying.lane 2).hold = some holdA ∧ (carrying.lane 2).berth = some 1 ∧ (carrying.lane 2).state ∈ [LaneState.opening, .opened] ∧
    ((lane2 { openLane with expiryPending := true, passageTimer := none } carrying).lane 2).expiryPending = true ∧
    carrying.boardingTrip 2 = some nearTrip := by decide +kernel

/-! #### Admission -/

/-- For PresentRefusesInTheOrderOfChecks: lanes and cards for the first, a middle and the last check, and for both ways of passing them. -/
theorem witness_present_refused : transferCard.productCount = transferCard.products.length ∧ boarding.supervisor.setup.lanesPresent ≤ 8 ∧
    (0 : LaneIx).val < boarding.supervisor.setup.lanesPresent ∧
    ((lane2 { closedLane with berth := none } boarding).lane 2).berth.elim none boarding.berth = none ∧
    (carrying.lane 3).berth = some 1 ∧ carrying.berth 1 = some nearTrip ∧ carrying.tariff.active = some tariff7 ∧
    carrying.clock.time = some ⟨412, 38400⟩ ∧ stopped.supervisor.state ≠ .inService ∧
    (∃ e ∈ carrying.recent, e.card = transferCard.card ∧ e.state = .held) ∧
    walk (fareInputs boarding openTrip tariff7 ⟨412, 38400⟩) (price (fareInputs boarding openTrip tariff7 ⟨412, 38400⟩)
      { transferCard with products := [] }) { transferCard with products := [] } none [] = .none .noProduct none := by
  decide +kernel

/-- For PresentGrantsTheAdmission, by a product. -/
theorem witness_present_granted : boarding.slotFree ∧ boarding.supervisor.state = .inService ∧ (boarding.lane 2).berth = some 1 ∧
    (1 : BerthIx).val < boarding.supervisor.setup.berthsPresent ∧ (boarding.lane 2).state = .closed ∧ boarding.berth 1 = some openTrip ∧
    openTrip.phase = .opened ∧ malformed transferCard = false ∧ transferCard.cardState = 0 ∧ boarding.recent = [] ∧
    openTrip.fill = .room ∧ ∃ p pay, walk (fareInputs boarding openTrip tariff7 ⟨412, 38400⟩)
      (price (fareInputs boarding openTrip tariff7 ⟨412, 38400⟩) transferCard) transferCard none transferCard.products = .used p pay := by
  have plain : boarding.slotFree ∧ (boarding.lane 2).berth = some 1 ∧ (boarding.lane 2).state = .closed ∧
      boarding.berth 1 = some openTrip ∧ malformed transferCard = false ∧ boarding.recent = [] ∧ openTrip.fill = .room := by
    unfold State.slotFree
    decide +kernel
  obtain ⟨free, joined, closed, trip, card, recent, room⟩ := plain
  exact ⟨free, rfl, joined, show 1 < 4 from by omega, closed, trip, rfl, card, rfl, recent, room, _, _, rfl⟩

/-- For PresentGrantsTheAdmission, as COURTESY: the VOID entry at the end of the courtesy window. -/
theorem witness_present_courtesy : ([⟨4102233, 880412, 1, 0, .void, 120, .purse, 60000, 70000⟩] : List Entry).find? (fun e =>
      decide (e.card = transferCard.card ∧ e.tripRef = openTrip.context.tripRef ∧ e.state = .void)) ≠ none ∧
    boarding.supervisor.setup.courtesyWindow ≠ 0 ∧ boarding.runTime - 70000 ≤ 1000 * boarding.supervisor.setup.courtesyWindow := by
  decide +kernel

/-- For PresentRefusesInTheOrderOfChecks: cards on both sides of the test of a malformed record. -/
theorem witness_malformed : malformed transferCard = false ∧ malformed { transferCard with products := [⟨1, 0, 0#8, .purse (-2001)⟩] } = true ∧
    malformed { transferCard with products := [⟨1, 0, 0#8, .purse (-2000)⟩, ⟨1, 0, 0#8, .carnet 99⟩] } = true := by decide +kernel

/-- For FaresAreComputedAndBounded: each kind of product, one that pays and one that does not. -/
theorem witness_products :
    (payWith (fareInputs boarding openTrip tariff7 ⟨412, 38400⟩) ⟨2, 100, 100, false, 100⟩ transferCard ⟨2, 2, 0#8, .allowance 412 1⟩ =
      .inl ⟨.allowance, 0, none, some ⟨2, 2, 0#8, .allowance 412 2⟩, true⟩) ∧
    (payWith (fareInputs boarding openTrip tariff7 ⟨412, 38400⟩) ⟨2, 100, 100, false, 100⟩ transferCard ⟨2, 2, 0#8, .allowance 412 2⟩ =
      .inr .allowanceUsed) ∧
    (payWith (fareInputs boarding openTrip tariff7 ⟨412, 38400⟩) ⟨2, 100, 100, true, 0⟩ transferCard ⟨0, 1, 0#8, .carnet 0⟩ =
      .inl ⟨.carnet, 0, none, none, false⟩) := by decide +kernel

/-- For FaresAreComputedAndBounded. -/
theorem witness_fares : (∀ n ∈ tariff7.fares.matrix, n ≤ 9999) ∧ (∀ k ∈ tariff7.concessions.table, k.discount ≤ 100) ∧
    (⟨412, 38400⟩ : ServiceTime).second ≤ 86399 ∧ boarding.supervisor.setup.dayStartOffset ≤ 86399 := by decide +kernel

/-- For LampsAndDrivesFollowTheState: a lane that leaves EGRESS with its condition true, and one in CONFIG under demand. -/
theorem witness_lamps : (State.level (lane2 { closedLane with state := .clearing } { serving with
      lamps := serving.lamps.set 2 ⟨.on, .latched, 250, false, none⟩ }) 2 = true) ∧
    ((rescanLamps (lane2 { closedLane with state := .egress } serving) (lane2 { closedLane with state := .clearing } { serving with
      lamps := serving.lamps.set 2 ⟨.on, .latched, 250, false, none⟩ })).lamp 2).latch = true ∧
    State.driveOpen { State.reset with supervisor := { State.reset.supervisor with latch := true } } 5 = true := by decide +kernel

/-! #### The supervisor -/

/-- For SetupWritesEverySetupValue, and by the states RestartClearsWhatItShould. -/
theorem witness_setup : oneLane.lanes.length = oneLane.lanesPresent ∧ State.reset.supervisor.state = .config ∧
    stopped.supervisor.state = .outOfService ∧ serving.supervisor.state = .inService ∧
    (1 : LaneIx).val ≥ oneLane.lanesPresent ∧ oneLane.lanes[(0 : LaneIx).val]? = some ⟨0, 75, 8000, 1500⟩ := by decide +kernel

theorem stopped_laws : ServiceLaw stopped ∧ TariffLaw stopped := by
  refine ⟨fun b hb => absurd (stopped_berth b) hb, fun p hp => nomatch (show none = some p from hp)⟩

theorem stopped_clock : ClockLaw stopped := by
  obtain ⟨h1, h2, h3, h4, h5, h6⟩ := witness_clock
  exact ⟨h1, h2, h3, h4, h5, h6⟩

/-- For ServiceStartBringsThePontoonIntoService, with `stopped_laws` and `stopped_clock`. -/
theorem witness_service_start : stopped.supervisor.state = .outOfService ∧ serving.supervisor.state ≠ .outOfService ∧
    (⟨412, 86400⟩ : ServiceTime).second > 86399 ∧ (⟨412, 86399⟩ : ServiceTime).second ≤ 86399 ∧ State.reset.tariff.active = none ∧
    stopped.tariff.active ≠ none ∧ stopped.clock.state = .synced ∧ stopped.supervisor.setup.freeRunPermitted = true ∧
    State.reset.clock.state ≠ .synced := by decide +kernel

/-- For ServiceStopTurnsTheLanesOff. -/
theorem witness_service_stop : ((List.finRange 4).filter fun b => decide (b.val < boarding.supervisor.setup.berthsPresent ∧
      boarding.berth b ≠ none)) = [1] ∧
    ((List.finRange 4).filter fun b => decide (b.val < serving.supervisor.setup.berthsPresent ∧ serving.berth b ≠ none)) = [] := by
  decide +kernel

/-- For EgressDemandMovesThePontoon. -/
theorem witness_egress_demand : serving.supervisor.latch = false ∧ serving.demand = false ∧
    ({ serving with supervisor := { serving.supervisor with latch := true } } : State).demand = true ∧
    (⟨true, false, some 99980⟩ : EmergencyLine).measure = some 99980 ∧ 99980 + 20 ≤ serving.runTime ∧ serving.runTime < 99981 + 20 ∧
    (carrying.lane 2).hold = some holdA ∧ (carrying.lane 2).berth = some 1 ∧ (carrying.lane 2).state ≠ .egress ∧
    (carrying.lane 3).hold = none := by decide +kernel

end Sys2Proof.Tests
end

section
/-! SUPPORT. What the berth operations make of one berth, each said once as a plain record update: lamps that cannot rise, settlement
(R22 to R24), closing (R15, R19, R20), and the recomputed fill level (R8, R9). -/

namespace Sys2Proof

@[simp] theorem PerBerth.set_set {α : Type} (v : PerBerth α) (b : BerthIx) (x y : α) : (v.set b x).set b y = v.set b y := by
  fin_cases b <;> rfl

end Sys2Proof

namespace Sys2Proof.Machine

open Sys2Proof

/-! ### Posting -/

@[simp] theorem posting_runTime (ns : List Notice) (s : State) : (State.posting ns s).runTime = s.runTime := by rw [posting_eq]
@[simp] theorem posting_supervisor (ns : List Notice) (s : State) : (State.posting ns s).supervisor = s.supervisor := by
  rw [posting_eq]
@[simp] theorem posting_clock (ns : List Notice) (s : State) : (State.posting ns s).clock = s.clock := by rw [posting_eq]
@[simp] theorem posting_berths (ns : List Notice) (s : State) : (State.posting ns s).berths = s.berths := by rw [posting_eq]
@[simp] theorem posting_lanes (ns : List Notice) (s : State) : (State.posting ns s).lanes = s.lanes := by rw [posting_eq]
@[simp] theorem posting_journal (ns : List Notice) (s : State) : (State.posting ns s).journal = s.journal := by rw [posting_eq]
@[simp] theorem posting_berth (ns : List Notice) (s : State) (b : BerthIx) : (State.posting ns s).berth b = s.berth b :=
  berth_congr (posting_berths ns s) b
@[simp] theorem posting_lane (ns : List Notice) (s : State) (i : LaneIx) : (State.posting ns s).lane i = s.lane i :=
  lane_congr (posting_lanes ns s) i

@[simp] theorem postBerthState_berth (b c : BerthIx) (st : BerthState) (ref : Nat) (cause : Option CloseCause) (s : State) :
    (postBerthState b st ref cause s).berth c = s.berth c := berth_congr (postBerthState_berths ..) c

/-! ### Putting a berth -/

/-- The state with one berth replaced and no lamp changed. -/
def State.putBerth (b : BerthIx) (x : Berth) (s : State) : State := { s with berths := s.berths.set b x }

@[simp] theorem putBerth_runTime (b : BerthIx) (x : Berth) (s : State) : (s.putBerth b x).runTime = s.runTime := rfl
@[simp] theorem putBerth_supervisor (b : BerthIx) (x : Berth) (s : State) : (s.putBerth b x).supervisor = s.supervisor := rfl
@[simp] theorem putBerth_clock (b : BerthIx) (x : Berth) (s : State) : (s.putBerth b x).clock = s.clock := rfl
@[simp] theorem putBerth_lanes (b : BerthIx) (x : Berth) (s : State) : (s.putBerth b x).lanes = s.lanes := rfl
@[simp] theorem putBerth_lane (b : BerthIx) (x : Berth) (s : State) (i : LaneIx) : (s.putBerth b x).lane i = s.lane i := rfl
@[simp] theorem putBerth_lamp (b : BerthIx) (x : Berth) (s : State) (i : LaneIx) : (s.putBerth b x).lamp i = s.lamp i := rfl
@[simp] theorem putBerth_journal (b : BerthIx) (x : Berth) (s : State) : (s.putBerth b x).journal = s.journal := rfl
@[simp] theorem putBerth_berths (b : BerthIx) (x : Berth) (s : State) : (s.putBerth b x).berths = s.berths.set b x := rfl

@[simp] theorem putBerth_berth_self (b : BerthIx) (x : Berth) (s : State) : (s.putBerth b x).berth b = x :=
  PerBerth.get_set_self ..

theorem putBerth_berth_other {b c : BerthIx} (h : c ≠ b) (x : Berth) (s : State) : (s.putBerth b x).berth c = s.berth c :=
  PerBerth.get_set_other _ _ _ _ h

@[simp] theorem putBerth_putBerth (b : BerthIx) (x y : Berth) (s : State) : (s.putBerth b x).putBerth b y = s.putBerth b y := by
  simp [State.putBerth]

@[simp] theorem putBerth_same (b : BerthIx) (s : State) : s.putBerth b (s.berth b) = s := by
  simp [State.putBerth, State.berth]

theorem changeBerth_eq_rescan (b : BerthIx) (f : Berth → Berth) (s : State) :
    changeBerth b f s = rescanLamps s (s.putBerth b (f (s.berth b))) := rfl

/-! ### Level conditions at a change of one berth -/

/-- A lane's level condition reads its berth only as the trip that boards there. -/
theorem level_of_boardingTrip {s u : State} {i : LaneIx} (hl : u.lane i = s.lane i) (hc : u.lamp i = s.lamp i)
    (hb : u.boardingTrip i = s.boardingTrip i ∨ u.boardingTrip i = none) (h : u.level i = true) : s.level i = true := by
  unfold State.level at h ⊢
  rw [hl, hc] at h
  rcases hb with hb | hb <;> rw [hb] at h
  · exact h
  · revert h
    cases (s.lamp i).condition <;> simp

/-- A change after which every level condition that is true was true before raises no lamp (R46), if the lanes stand. -/
theorem rescanLamps_of_level {s u : State} (hl : u.lanes = s.lanes) (h : ∀ i, u.level i = true → s.level i = true) :
    rescanLamps s u = u := by
  have hr : ∀ i, levelRises s u i = false := fun i => by
    unfold levelRises
    rw [lane_congr hl i]
    cases hu : u.level i with
    | false => rfl
    | true =>
      rw [h i hu]
      cases decide ((s.lane i).state = .egress) <;> rfl
  have hp : PerLane.tabulate (fun i => if levelRises s u i then (u.lamp i).rise u.runTime false else u.lamp i) = u.lamps :=
    PerLane.ext_get fun i => by simp [hr i, State.lamp]
  unfold rescanLamps
  rw [hp]

/-- The trips that board at a lane after another berth than the lane's has changed. -/
theorem putBerth_boardingTrip_other {b : BerthIx} {s : State} {i : LaneIx} (x : Berth) (h : (s.lane i).berth ≠ some b) :
    (s.putBerth b x).boardingTrip i = s.boardingTrip i :=
  boardingTrip_of_berths (before := s) rfl fun _ hc => putBerth_berth_other (fun e => h (hc.trans (congrArg some e))) x s

/-- A berth that becomes VACANT or DEPARTED raises no lamp (R46). -/
theorem changeBerth_const_still {b : BerthIx} {x : Berth} {s : State} (h : ∀ t, x = some t → t.phase = .departed) :
    changeBerth b (fun _ => x) s = s.putBerth b x := by
  rw [changeBerth_eq_rescan]
  refine rescanLamps_of_level rfl fun i => level_of_boardingTrip rfl rfl ?_
  by_cases hi : (s.lane i).berth = some b
  · right
    unfold State.boardingTrip
    rw [putBerth_lane, hi]
    simp only [putBerth_berth_self]
    cases x with
    | none => rfl
    | some t => simp [h t rfl]
  · exact .inl (putBerth_boardingTrip_other x hi)

/-! ### Settlement (R22, R23, R24, R171) -/

/-- A berth that is not CLOSING and settled stays as it is (R22). -/
theorem settle_of_unsettled {b : BerthIx} {s : State}
    (h : ∀ t, s.berth b = some t → t.phase = .closing → s.settled b t = false) : settle b s = s := by
  unfold settle
  cases ht : s.berth b with
  | none => rfl
  | some t =>
    refine if_neg ?_
    rintro ⟨hp, hs⟩
    rw [h t ht hp] at hs
    cases hs

theorem settle_of_settled {b : BerthIx} {s : State} {t : Trip} (ht : s.berth b = some t) (hp : t.phase = .closing)
    (hs : s.settled b t = true) : settle b s = depart b t s := by
  simp [settle, ht, hp, hs]

/-- A berth departs while the journal has room: its record is stored and it is VACANT again (R22, R24). -/
theorem depart_of_room {b : BerthIx} {s : State} {t : Trip} (hr : s.journal.records.length < 8) :
    depart b t s = State.posting
      [.berthState b .departed t.context.tripRef none s.clock.time,
        .tripStored b t.context.tripRef (s.journal.records.length + 1),
        .berthState b .vacant t.context.tripRef none s.clock.time]
      { s with
        berths := s.berths.set b none
        journal := { s.journal with records := s.journal.records ++ [(t.departedAt b s.clock.time).compose b] } } := by
  have hd : changeBerth b (fun _ => some (t.departedAt b s.clock.time)) s =
      s.putBerth b (some (t.departedAt b s.clock.time)) :=
    changeBerth_const_still fun u hu => Option.some.inj hu ▸ rfl
  unfold depart
  dsimp only
  rw [hd]
  unfold offerRecord
  rw [if_pos (by simpa [Config.journalLimit] using hr)]
  unfold storeRecord
  dsimp only
  rw [changeBerth_const_still (x := none) fun t h => nomatch h]
  simp only [State.putBerth, postBerthState, post_eq, posting_eq, List.foldl_cons, List.foldl_nil, PerBerth.set_set,
    List.length_append, List.length_singleton]
  rfl

/-- A berth departs while the journal is full: it stands DEPARTED with its record and waits (R22, R24). -/
theorem depart_of_full {b : BerthIx} {s : State} {t : Trip} (hr : 8 ≤ s.journal.records.length) :
    depart b t s = State.posting
      [.berthState b .departed t.context.tripRef none s.clock.time,
        .journalFull b t.context.tripRef s.journal.records.length]
      { s with
        berths := s.berths.set b (some (t.departedAt b s.clock.time))
        journal := { s.journal with waiting := s.journal.waiting ++ [b] } } := by
  have hd : changeBerth b (fun _ => some (t.departedAt b s.clock.time)) s =
      s.putBerth b (some (t.departedAt b s.clock.time)) :=
    changeBerth_const_still fun u hu => Option.some.inj hu ▸ rfl
  unfold depart
  dsimp only
  rw [hd]
  unfold offerRecord
  rw [if_neg (by simpa [Config.journalLimit] using hr)]
  simp only [postBerthState, post_eq, posting_eq, List.foldl_cons, List.foldl_nil]
  rfl

/-- What the test of settlement makes of its berth and of the stored records (R22, R24). -/
theorem settle_cases (b : BerthIx) (s : State) :
    (settle b s = s ∧ ∀ t, s.berth b = some t → t.phase = .closing → s.settled b t = false) ∨
    ∃ t, s.berth b = some t ∧ t.phase = .closing ∧
      (((settle b s).berths = s.berths.set b none ∧
          (settle b s).journal.records = s.journal.records ++ [(t.departedAt b s.clock.time).compose b]) ∨
        ((settle b s).berths = s.berths.set b (some (t.departedAt b s.clock.time)) ∧
          (settle b s).journal.records = s.journal.records)) := by
  by_cases h : ∃ t, s.berth b = some t ∧ t.phase = .closing ∧ s.settled b t = true
  · obtain ⟨t, ht, hp, hs⟩ := h
    refine .inr ⟨t, ht, hp, ?_⟩
    rw [settle_of_settled ht hp hs]
    by_cases hr : s.journal.records.length < 8
    · left; rw [depart_of_room hr]; simp
    · right; rw [depart_of_full (by omega)]; simp
  · have hn : ∀ t, s.berth b = some t → t.phase = .closing → s.settled b t = false := fun t ht hp => by
      simpa using fun hs => h ⟨t, ht, hp, hs⟩
    exact .inl ⟨settle_of_unsettled hn, hn⟩

/-- A settlement test leaves no CLOSING berth settled. -/
theorem settle_settled {b : BerthIx} {s : State} {t : Trip} (ht : (settle b s).berth b = some t) (hp : t.phase = .closing) :
    settle b s = s ∧ s.settled b t = false := by
  rcases settle_cases b s with ⟨he, hn⟩ | ⟨t', ht', hp', hb | hb⟩
  · exact ⟨he, hn t (he ▸ ht) hp⟩
  · rw [State.berth, hb.1, PerBerth.get_set_self] at ht
    cases ht
  · rw [State.berth, hb.1, PerBerth.get_set_self] at ht
    cases ht
    cases hp

/-- Testing settlement a second time changes nothing. -/
theorem settle_settle (b : BerthIx) (s : State) : settle b (settle b s) = settle b s :=
  settle_of_unsettled fun t ht hp => by
    obtain ⟨he, hs⟩ := settle_settled ht hp
    rwa [he]

theorem settle_berth_other {b c : BerthIx} (h : c ≠ b) (s : State) : (settle b s).berth c = s.berth c := by
  rcases settle_cases b s with ⟨he, -⟩ | ⟨t, -, -, hb | hb⟩
  · rw [he]
  all_goals rw [State.berth, hb.1]; exact PerBerth.get_set_other _ _ _ _ h

/-- A lane holds back a berth's departure in the five states of R22. -/
theorem LaneState.busy_iff (l : LaneState) :
    l.busy = true ↔ l = .opening ∨ l = .opened ∨ l = .clearing ∨ l = .closing ∨ l = .egress := by
  cases l <;> simp [LaneState.busy]

theorem settled_iff (s : State) (b : BerthIx) (t : Trip) :
    s.settled b t = true ↔ t.counts.holds = 0 ∧ ∀ i, s.holdsBack b i = false := by
  simp [State.settled]

/-! ### Closing (R15, R19, R20) -/

/-- The trip as its berth closes. -/
def Trip.closedBy (cause : CloseCause) (now : Option ServiceTime) (t : Trip) : Trip :=
  { t with phase := .closing, closeCause := some cause, closeTime := now }

/-- The state in which a closing berth's settlement is tested. -/
def closed (b : BerthIx) (cause : CloseCause) (t : Trip) (s : State) : State :=
  State.posting [.berthState b .closing t.context.tripRef (some cause) s.clock.time]
    (rescanLamps s (s.putBerth b (some (t.closedBy cause s.clock.time))))

theorem closeBerth_eq {b : BerthIx} {t : Trip} {s : State} (cause : CloseCause) (ht : s.berth b = some t) :
    closeBerth b cause s = settle b (closed b cause t s) := by
  have hb : (changeTrip b (Trip.closedBy cause s.clock.time) s).berth b = some (t.closedBy cause s.clock.time) := by simp [ht]
  have hc : changeTrip b (Trip.closedBy cause s.clock.time) s =
      rescanLamps s (s.putBerth b (some (t.closedBy cause s.clock.time))) := by
    rw [changeTrip, changeBerth, ht]
    rfl
  unfold closeBerth
  change settle b (postBerthState b .closing
    (tripRefOf ((changeTrip b (Trip.closedBy cause s.clock.time) s).berth b)) (some cause)
    (changeTrip b (Trip.closedBy cause s.clock.time) s)) = _
  rw [hb, hc]
  rfl

@[simp] theorem closed_supervisor (b : BerthIx) (c : CloseCause) (t : Trip) (s : State) :
    (closed b c t s).supervisor = s.supervisor := by simp [closed]
@[simp] theorem closed_clock (b : BerthIx) (c : CloseCause) (t : Trip) (s : State) : (closed b c t s).clock = s.clock := by
  simp [closed]
@[simp] theorem closed_lanes (b : BerthIx) (c : CloseCause) (t : Trip) (s : State) : (closed b c t s).lanes = s.lanes := by
  simp [closed]
@[simp] theorem closed_journal (b : BerthIx) (c : CloseCause) (t : Trip) (s : State) :
    (closed b c t s).journal = s.journal := by simp [closed]
@[simp] theorem closed_berths (b : BerthIx) (c : CloseCause) (t : Trip) (s : State) :
    (closed b c t s).berths = s.berths.set b (some (t.closedBy c s.clock.time)) := by simp [closed]

theorem closed_berth_self (b : BerthIx) (c : CloseCause) (t : Trip) (s : State) :
    (closed b c t s).berth b = some (t.closedBy c s.clock.time) := by
  rw [State.berth, closed_berths, PerBerth.get_set_self]

/-- The berth that closes stands in no OPEN trip afterwards. -/
theorem closeBerth_not_opened {b : BerthIx} {t u : Trip} {s : State} {cause : CloseCause} (ht : s.berth b = some t)
    (hu : (closeBerth b cause s).berth b = some u) : u.phase ≠ .opened := by
  rw [closeBerth_eq cause ht] at hu
  rcases settle_cases b (closed b cause t s) with ⟨he, -⟩ | ⟨t', -, -, hb | hb⟩
  · rw [he, closed_berth_self] at hu
    cases hu
    exact nofun
  · rw [State.berth, hb.1, PerBerth.get_set_self] at hu
    cases hu
  · rw [State.berth, hb.1, PerBerth.get_set_self] at hu
    cases hu
    exact nofun

theorem closeBerth_berth_other {b c : BerthIx} {cause : CloseCause} (h : c ≠ b) (s : State) :
    (closeBerth b cause s).berth c = s.berth c := by
  unfold closeBerth
  dsimp only
  rw [settle_berth_other h, postBerthState_berth, changeTrip_berth_other b c _ s h]

/-- A second test of the settlement that closing has tested changes nothing. -/
theorem settle_closeBerth (b : BerthIx) (cause : CloseCause) (s : State) :
    settle b (closeBerth b cause s) = closeBerth b cause s := settle_settle ..

/-- Whether an OPEN trip closes when full (R20). -/
def Trip.fullUp (t : Trip) : Bool := t.context.closeWhenFull && decide (t.context.capacity ≤ t.counts.onboard)

/-- Close-when-full closes an OPEN berth whose condition holds, and nothing else (R20). -/
theorem closeWhenFull_eq (b : BerthIx) (s : State) :
    ((∃ t, s.berth b = some t ∧ t.phase = .opened ∧ t.fullUp = true) ∧ closeWhenFull b s = closeBerth b .full s) ∨
    ((∀ t, s.berth b = some t → t.phase = .opened → t.fullUp = false) ∧ closeWhenFull b s = s) := by
  unfold closeWhenFull
  cases hb : s.berth b with
  | none => exact .inr ⟨fun _ h => (nomatch h), rfl⟩
  | some t =>
    by_cases h : t.phase = .opened ∧ t.fullUp = true
    · refine .inl ⟨⟨t, rfl, h⟩, if_pos ?_⟩
      simpa [Trip.fullUp] using h
    · refine .inr ⟨fun u hu hp => ?_, if_neg ?_⟩
      · cases hu
        simpa using fun hf => h ⟨hp, hf⟩
      · simpa [Trip.fullUp] using h

/-- The departure-time test closes an OPEN berth whose departure is reached, and nothing else (R19). -/
theorem closeAtDeparture_eq (b : BerthIx) (s : State) :
    ((∃ t, s.berth b = some t ∧ t.phase = .opened ∧ t.departureReached s.clock.time = true) ∧
        closeAtDeparture b s = closeBerth b .departureTime s) ∨
    ((∀ t, s.berth b = some t → t.phase = .opened → t.departureReached s.clock.time = false) ∧ closeAtDeparture b s = s) := by
  unfold closeAtDeparture State.departureDue
  cases hb : s.berth b with
  | none => exact .inr ⟨fun _ h => (nomatch h), by simp⟩
  | some t =>
    by_cases h : t.phase = .opened ∧ t.departureReached s.clock.time = true
    · exact .inl ⟨⟨t, rfl, h⟩, if_pos (by simpa using h)⟩
    · refine .inr ⟨fun u hu hp => ?_, if_neg (by simpa using h)⟩
      cases hu
      simpa using fun hf => h ⟨hp, hf⟩

/-! ### The recomputed fill level (R7, R8, R9) -/

/-- The fill level that a trip's numbers give under a default margin (R8). -/
def Trip.levelOf (m : Nat) (t : Trip) : FillLevel :=
  fillLevel t.context.capacity t.counts.onboard t.counts.holds (t.context.margin.getD m)

theorem tripFill_eq (s : State) (t : Trip) : s.tripFill t = t.levelOf s.supervisor.setup.defaultMargin := rfl

/-- The trip with its fill level recomputed under a default margin, and the flag of a level entered latched (R8, R9). -/
def Trip.refill (m : Nat) (t : Trip) : Trip :=
  if t.levelOf m = t.fill then t else { t with fill := t.levelOf m, flags := t.flags.latch (t.levelOf m) }

@[simp] theorem refill_phase (m : Nat) (t : Trip) : (t.refill m).phase = t.phase := by unfold Trip.refill; split <;> rfl
@[simp] theorem refill_context (m : Nat) (t : Trip) : (t.refill m).context = t.context := by unfold Trip.refill; split <;> rfl
@[simp] theorem refill_counts (m : Nat) (t : Trip) : (t.refill m).counts = t.counts := by unfold Trip.refill; split <;> rfl
@[simp] theorem refill_record (m : Nat) (t : Trip) : (t.refill m).record = t.record := by unfold Trip.refill; split <;> rfl
@[simp] theorem refill_fill (m : Nat) (t : Trip) : (t.refill m).fill = t.levelOf m := by
  unfold Trip.refill
  split
  · next h => exact h.symm
  · rfl

@[simp] theorem refill_fullUp (m : Nat) (t : Trip) : (t.refill m).fullUp = t.fullUp := by simp [Trip.fullUp]
@[simp] theorem refill_departureReached (m : Nat) (t : Trip) (now : Option ServiceTime) :
    (t.refill m).departureReached now = t.departureReached now := by simp [Trip.departureReached]

@[simp] theorem latch_underflow (l : FillLevel) (f : TripFlags) : (f.latch l).underflow = f.underflow := by cases l <;> rfl
@[simp] theorem latch_overflow (l : FillLevel) (f : TripFlags) : (f.latch l).overflow = f.overflow := by cases l <;> rfl

/-- The notices that recomputing the fill level posts: FILL at a change of level, and none otherwise (R9). -/
def fillNotices (b : BerthIx) (m : Nat) (t : Trip) : List Notice :=
  if t.levelOf m = t.fill then [] else [fillNotice b t (t.levelOf m)]

theorem recomputeFill_eq {b : BerthIx} {s : State} {t : Trip} (ht : s.berth b = some t) :
    recomputeFill b s = State.posting (fillNotices b s.supervisor.setup.defaultMargin t)
      (rescanLamps s (s.putBerth b (some (t.refill s.supervisor.setup.defaultMargin)))) := by
  unfold recomputeFill fillNotices Trip.refill
  rw [ht]
  dsimp only
  rw [tripFill_eq]
  split
  · rw [posting_nil, ← ht, putBerth_same, rescanLamps_of_level rfl fun _ h => h]
  · rw [changeTrip, changeBerth, ht]
    rfl

theorem recomputeFill_berths (b : BerthIx) (s : State) :
    (recomputeFill b s).berths =
      s.berths.set b ((s.berth b).map (Trip.refill s.supervisor.setup.defaultMargin)) := by
  cases hb : s.berth b with
  | none =>
    have hs : s.berths.set b none = s.berths := by simp [← hb, State.berth]
    simp [recomputeFill, hb, hs]
  | some t => rw [recomputeFill_eq hb]; simp

/-! ### Changes that keep a trip's phase and fill level -/

/-- What the lamp conditions read of a trip (R46). -/
def Trip.shown (t : Trip) : TripPhase × FillLevel := (t.phase, t.fill)

/-- A lane's level condition reads its berth only as the phase and the fill level of the trip that boards there. -/
theorem level_congr {s u : State} {i : LaneIx} (hl : u.lane i = s.lane i) (hc : u.lamp i = s.lamp i)
    (hb : (u.boardingTrip i).map Trip.shown = (s.boardingTrip i).map Trip.shown) : u.level i = s.level i := by
  unfold State.level
  rw [hl, hc]
  generalize u.boardingTrip i = x at hb ⊢
  generalize s.boardingTrip i = y at hb ⊢
  cases y with
  | none => rw [Option.map_eq_none_iff.mp hb]
  | some t =>
    obtain ⟨t', rfl, ht⟩ := Option.map_eq_some_iff.mp hb
    obtain ⟨hp, hf⟩ : t'.phase = t.phase ∧ t'.fill = t.fill := Prod.mk.inj ht
    simp only [Option.elim_some, hp, hf]

/-- A change of a trip that keeps its phase and fill level leaves every level condition as it is. -/
theorem level_of_shown {b : BerthIx} {t t' : Trip} {s : State} (ht : s.berth b = some t) (hs : t'.shown = t.shown) (i : LaneIx) :
    (s.putBerth b (some t')).level i = s.level i := by
  refine level_congr rfl rfl ?_
  by_cases hi : (s.lane i).berth = some b
  · have hp : t'.phase = t.phase := congrArg Prod.fst hs
    unfold State.boardingTrip
    rw [putBerth_lane, hi]
    simp only [putBerth_berth_self, ht, hp]
    split
    · rfl
    · simp [hs]
  · rw [putBerth_boardingTrip_other _ hi]

/-- A change of a trip that keeps its phase and fill level raises no lamp (R46). -/
theorem changeTrip_still {b : BerthIx} {f : Trip → Trip} {t : Trip} {s : State} (ht : s.berth b = some t)
    (hs : (f t).shown = t.shown) : changeTrip b f s = s.putBerth b (some (f t)) := by
  rw [changeTrip, changeBerth_eq_rescan, ht]
  exact rescanLamps_of_level rfl fun i h => by rwa [Option.map_some, level_of_shown ht hs] at h

/-- Rises at a change compare the level conditions before it, and nothing else but the lanes. -/
theorem rescanLamps_congr {s s' u : State} (hl : s'.lanes = s.lanes) (h : ∀ i, s'.level i = s.level i) :
    rescanLamps s' u = rescanLamps s u := by
  have hr : levelRises s' u = levelRises s u := by
    funext i
    unfold levelRises
    rw [h i, lane_congr hl i]
  unfold rescanLamps
  rw [hr]

/-- A change of a trip that keeps its phase and fill level, with the fill level then recomputed: one change of the berth, then FILL at a
change of level (R9). -/
theorem recomputeFill_changeTrip {b : BerthIx} {f : Trip → Trip} {t : Trip} {s : State} (ht : s.berth b = some t)
    (hs : (f t).shown = t.shown) :
    recomputeFill b (changeTrip b f s) = State.posting (fillNotices b s.supervisor.setup.defaultMargin (f t))
      (rescanLamps s (s.putBerth b (some ((f t).refill s.supervisor.setup.defaultMargin)))) := by
  rw [changeTrip_still ht hs, recomputeFill_eq (putBerth_berth_self ..), putBerth_putBerth, putBerth_supervisor,
    rescanLamps_congr (s := s) (s' := s.putBerth b (some (f t))) rfl (level_of_shown ht hs)]

end Sys2Proof.Machine
end

section
/-! SUPPORT. Settlement, closing, and what a lane's reports do to a trip (R11 to R13, R15, R19, R20, R22 to R24). -/

namespace Sys2Proof.Machine

open Sys2Proof

/-! ### Settlement and closing -/

/-- A lane of the berth in one of the five states of R22 holds it back. -/
theorem holdsBack_iff (s : State) (b : BerthIx) (i : LaneIx) :
    s.holdsBack b i = true ↔ (s.lane i).berth = some b ∧
      ((s.lane i).state = .opening ∨ (s.lane i).state = .opened ∨ (s.lane i).state = .clearing ∨
        (s.lane i).state = .closing ∨ (s.lane i).state = .egress) := by
  simp [State.holdsBack, LaneState.busy_iff]

/-- Settles O34. -/
theorem settlingABerth : Obligations.SettlingABerth := by
  intro b t s held settled r ht hheld hsettled hr
  have hiff : s.settled b t = true ↔ ¬held := by
    rw [settled_iff, hheld]
    simp only [← holdsBack_iff]
    simp
  subst hr
  refine ⟨fun hn => settle_of_unsettled fun u hu hp => ?_, fun hs hroom => ?_, fun hs hfull => ?_⟩
  · cases ht.symm.trans hu
    rw [hsettled, ← hiff] at hn
    simpa using fun h => hn ⟨hp, h⟩
  · obtain ⟨hp, hh⟩ := hsettled.mp hs
    rw [settle_of_settled ht hp (hiff.mpr hh), depart_of_room hroom]
    rfl
  · obtain ⟨hp, hh⟩ := hsettled.mp hs
    rw [settle_of_settled ht hp (hiff.mpr hh), depart_of_full hfull]
    rfl

/-- The owner of a berth request past its two shared checks (R3). -/
theorem atBerth_present {s : State} {b : BerthIx} {f : BerthIx → State × Reply} (hc : s.supervisor.state ≠ .config)
    (hb : b.val < s.supervisor.setup.berthsPresent) : atBerth b.val s f = f b := by
  simp [atBerth, hc, State.berth?, hb]

/-- Settles O33. -/
theorem berthCloseClosesAnOpenBerth : Obligations.BerthCloseClosesAnOpenBerth := by
  refine ⟨fun tag b s hs hc hb => ?_, fun b t cause s ht => closeBerth_eq cause ht⟩
  have hexec : exec (.berthClose tag b.val) s = .next (State.answering 0x21 tag
      (ownBerthClose b.val (countTaken s)).2 (ownBerthClose b.val (countTaken s)).1) :=
    congrArg Host.Outcome.next (request_of_owner hs rfl)
  rw [hexec]
  unfold ownBerthClose
  rw [atBerth_present (s := countTaken s) hc hb]
  refine ⟨fun hn => ?_, fun t ht => ⟨fun hp => ?_, fun hp => ?_, fun hp => ?_⟩⟩
  · simp [hn]
  all_goals simp [ht, hp]

/-! ### What a lane reports -/

/-- The reports of a lane to its berth: a consumption, a void, and a passage without a hold, with whether each is a forward step
(R11, R12, R13). -/
inductive LaneReport : Bool → (Trip → Trip) → Prop
  | consumption : LaneReport true Trip.consume
  | void : LaneReport false Trip.voidHold
  | passage (m : Movement) (inEgress : Bool) : LaneReport (decide (m = .forward)) (Trip.countPassage m inEgress)

/-- A trip's onboard count after a forward step (R6, R13). -/
def Trip.boarded (t : Trip) : Nat :=
  if t.flags.underflow = true ∨ t.flags.overflow = true ∨ 999 ≤ t.counts.onboard then t.counts.onboard else t.counts.onboard + 1

/-- A trip's onboard count after a reverse step (R6, R13). -/
def Trip.left (t : Trip) : Nat :=
  if t.flags.underflow = true ∨ t.flags.overflow = true then t.counts.onboard else t.counts.onboard - 1

theorem saturated_iff (t : Trip) : t.saturated = true ↔ t.flags.underflow = true ∨ t.flags.overflow = true := by
  simp [Trip.saturated]

theorem boardOne_eq (t : Trip) :
    t.boardOne = { t with
      counts := { t.counts with onboard := t.boarded }
      flags := { t.flags with overflow := t.flags.overflow || decide (999 ≤ t.counts.onboard) } } := by
  unfold Trip.boardOne Trip.boarded
  simp only [saturated_iff, Config.onboardLimit]
  by_cases h : 999 ≤ t.counts.onboard
  · simp [h]
  · by_cases hs : t.flags.underflow = true ∨ t.flags.overflow = true <;> simp [h, hs]

theorem leaveOne_eq (t : Trip) :
    t.leaveOne = { t with
      counts := { t.counts with onboard := t.left }
      flags := { t.flags with underflow := t.flags.underflow || decide (t.counts.onboard = 0) } } := by
  unfold Trip.leaveOne Trip.left
  simp only [saturated_iff]
  by_cases h : t.counts.onboard = 0
  · rw [if_pos h]
    have hc : t.counts = { t.counts with onboard := 0 } := by rw [← h]
    simp [h, ← hc]
  · by_cases hs : t.flags.underflow = true ∨ t.flags.overflow = true <;> simp [h, hs]

/-- A report keeps a trip's phase, fill level and context, its latched levels, and its record. -/
theorem LaneReport.keeps {fwd : Bool} {f : Trip → Trip} (h : LaneReport fwd f) (t : Trip) :
    f t = { t with
      counts := (f t).counts
      flags := ⟨t.flags.near, t.flags.full, t.flags.overfull, (f t).flags.underflow, (f t).flags.overflow⟩ } := by
  cases h with
  | consumption => simp [Trip.consume, boardOne_eq]
  | void => rfl
  | passage m eg => cases m <;> cases eg <;> simp [Trip.countPassage, boardOne_eq, leaveOne_eq]

theorem LaneReport.shown {fwd : Bool} {f : Trip → Trip} (h : LaneReport fwd f) (t : Trip) : (f t).shown = t.shown := by
  rw [h.keeps t]
  rfl

/-- A report to a VACANT or DEPARTED berth changes nothing. -/
theorem tripEvent_ignored {b : BerthIx} {s : State} (h : ∀ t, s.berth b = some t → t.phase = .departed) (fwd : Bool)
    (f : Trip → Trip) : tripEvent b fwd f s = s := by
  unfold tripEvent
  cases ht : s.berth b with
  | none => rfl
  | some t => simp [h t ht]

/-- The state in which the closing condition or the settlement that follows a change of a trip is evaluated: the trip changed, its fill level
recomputed, FILL posted. -/
def refilled (b : BerthIx) (t : Trip) (s : State) : State :=
  State.posting (fillNotices b s.supervisor.setup.defaultMargin t)
    (rescanLamps s (s.putBerth b (some (t.refill s.supervisor.setup.defaultMargin))))

@[simp] theorem refilled_supervisor (b : BerthIx) (t : Trip) (s : State) : (refilled b t s).supervisor = s.supervisor := by
  simp [refilled]
@[simp] theorem refilled_clock (b : BerthIx) (t : Trip) (s : State) : (refilled b t s).clock = s.clock := by simp [refilled]
@[simp] theorem refilled_lanes (b : BerthIx) (t : Trip) (s : State) : (refilled b t s).lanes = s.lanes := by simp [refilled]
@[simp] theorem refilled_journal (b : BerthIx) (t : Trip) (s : State) : (refilled b t s).journal = s.journal := by
  simp [refilled]
@[simp] theorem refilled_berths (b : BerthIx) (t : Trip) (s : State) :
    (refilled b t s).berths = s.berths.set b (some (t.refill s.supervisor.setup.defaultMargin)) := by simp [refilled]

@[simp] theorem refilled_berth_self (b : BerthIx) (t : Trip) (s : State) :
    (refilled b t s).berth b = some (t.refill s.supervisor.setup.defaultMargin) := by
  rw [State.berth, refilled_berths, PerBerth.get_set_self]

/-- A report to an OPEN or CLOSING trip: the trip changed and refilled, then close-when-full for a forward step in OPEN, else the test of
settlement (R11, R12, R13). -/
theorem tripEvent_eq {b : BerthIx} {s : State} {t : Trip} {fwd : Bool} {f : Trip → Trip} (ht : s.berth b = some t)
    (hp : t.phase ≠ .departed) (hs : (f t).shown = t.shown) :
    tripEvent b fwd f s =
      if fwd = true ∧ (f t).phase = .opened ∧ (f t).fullUp = true then closeBerth b .full (refilled b (f t) s)
      else settle b (refilled b (f t) s) := by
  have he : tripEvent b fwd f s =
      settle b (if fwd then closeWhenFull b (refilled b (f t) s) else refilled b (f t) s) := by
    simp only [tripEvent, ht, hp, if_false, recomputeFill_changeTrip ht hs, refilled]
  rw [he]
  cases fwd with
  | false => simp
  | true =>
    rcases closeWhenFull_eq b (refilled b (f t) s) with ⟨⟨u, hu, hup, huf⟩, hc⟩ | ⟨hn, hc⟩
    · rw [refilled_berth_self] at hu
      cases hu
      have hfull : (f t).phase = .opened ∧ (f t).fullUp = true := by simpa using And.intro hup huf
      simp only [if_true, hc, hfull, and_self, settle_closeBerth]
    · have hfull : ¬((f t).phase = .opened ∧ (f t).fullUp = true) := fun h => by
        have hno := hn _ (refilled_berth_self ..) (by simpa using h.1)
        rw [refill_fullUp, h.2] at hno
        cases hno
      simp only [if_true, hc, true_and, hfull, if_false]

theorem latch_eq (l : FillLevel) (f : TripFlags) :
    f.latch l = { f with
      near := f.near || decide (l = .near)
      full := f.full || decide (l = .full)
      overfull := f.overfull || decide (l = .overfull) } := by
  cases l <;> simp [TripFlags.latch]

/-- A refilled trip has the level its numbers give; at a change of level the flag of the new one is latched (R7, R8, R9). -/
theorem refill_eq (m : Nat) (t : Trip) :
    t.refill m = { t with
      fill := t.levelOf m
      flags := if t.levelOf m = t.fill then t.flags else
        { t.flags with
          near := t.flags.near || decide (t.levelOf m = .near)
          full := t.flags.full || decide (t.levelOf m = .full)
          overfull := t.flags.overfull || decide (t.levelOf m = .overfull) } } := by
  unfold Trip.refill
  split
  · next h => simp [h]
  · rw [latch_eq]

/-- Settles O36. -/
theorem laneReportsChangeTheTrip : Obligations.LaneReportsChangeTheTrip := by
  refine ⟨fun b s h => ⟨tripEvent_ignored h .., tripEvent_ignored h .., fun m eg => tripEvent_ignored h ..⟩, ?_⟩
  intro b t s change c under over_ fwd up down ht hp hup hdown hchange
  obtain ⟨f, hf, rfl, hft⟩ : ∃ f, LaneReport fwd f ∧ change = tripEvent b fwd f ∧
      f t = { t with counts := c, flags := ⟨t.flags.near, t.flags.full, t.flags.overfull, under, over_⟩ } := by
    rcases hchange with ⟨rfl, rfl, rfl, rfl, rfl⟩ | ⟨rfl, rfl, rfl, rfl, rfl⟩ | ⟨eg, rfl, rfl, rfl, rfl, rfl⟩ |
      ⟨eg, rfl, rfl, rfl, rfl, rfl⟩ | ⟨eg, rfl, rfl, rfl, rfl, rfl⟩
    · exact ⟨_, .consumption, rfl, by subst hup; simp only [Trip.consume, boardOne_eq]; rfl⟩
    · exact ⟨_, .void, rfl, rfl⟩
    · exact ⟨_, .passage .forward eg, rfl, by subst hup; cases eg <;> simp only [Trip.countPassage, boardOne_eq] <;> rfl⟩
    · exact ⟨_, .passage .reverse eg, rfl, by subst hdown; cases eg <;> simp only [Trip.countPassage, leaveOne_eq] <;> rfl⟩
    · exact ⟨_, .passage .ambiguous eg, rfl, rfl⟩
  refine ⟨(f t).levelOf s.supervisor.setup.defaultMargin, (f t).refill s.supervisor.setup.defaultMargin,
    refilled b (f t) s, ?_, ?_, ?_, ?_⟩
  · rw [hft]; rfl
  · rw [refill_eq, hft]
    dsimp only
    split
    · next h => simp [h]
    · next h => simp [h]
  · rw [hft]; rfl
  · rw [tripEvent_eq ht hp (hf.shown t), hft]
    simp only [Trip.fullUp, Bool.and_eq_true, decide_eq_true_eq]
    congr 1
    simp only [eq_iff_iff]
    tauto

end Sys2Proof.Machine
end

section
/-! SUPPORT. The berth requests: the checks they share, BERTH_QUERY, and the whole of a BERTH_OPEN and a BERTH_AMEND (R3 to R5, R16 to R18). -/

namespace Sys2Proof.Machine

open Sys2Proof

/-! ### The checks every berth request shares -/

theorem atBerth_config {s : State} {n : Nat} {f : BerthIx → State × Reply} (hc : s.supervisor.state = .config) :
    atBerth n s f = (s, .code .state) := by
  simp [atBerth, hc]

theorem atBerth_absent {s : State} {n : Nat} {f : BerthIx → State × Reply} (hc : s.supervisor.state ≠ .config)
    (hn : 4 ≤ n ∨ s.supervisor.setup.berthsPresent ≤ n) : atBerth n s f = (s, .code .range) := by
  have hb : s.berth? n = none := by
    unfold State.berth?
    split
    · next h => exact if_neg (by omega)
    · rfl
  simp [atBerth, hc, hb]

/-- A request that its owner answers with `r`, leaving `u`. -/
theorem exec_of_owner {c : Instr} {tag : Byte} {q : Request} {s u : State} {r : Reply} (hs : s.slotFree)
    (hc : exec c s = .next (request tag q s)) (hl : lengthFault q = none) (ho : owner q (countTaken s) = (u, r)) :
    exec c s = .next (State.answering (requestKind q) tag r u) := by
  rw [hc, request_of_owner hs hl, ho]

theorem exec_berthOpen {tag : Byte} {r : OpenRequest} {s u : State} {p : Reply} (hs : s.slotFree)
    (ho : ownBerthOpen r (countTaken s) = (u, p)) : exec (.berthOpen tag r) s = .next (State.answering 0x20 tag p u) :=
  exec_of_owner (q := .berthOpen r) hs rfl rfl ho

theorem exec_berthClose {tag : Byte} {n : Nat} {s u : State} {p : Reply} (hs : s.slotFree)
    (ho : ownBerthClose n (countTaken s) = (u, p)) : exec (.berthClose tag n) s = .next (State.answering 0x21 tag p u) :=
  exec_of_owner (q := .berthClose n) hs rfl rfl ho

theorem exec_berthAmend {tag : Byte} {r : AmendRequest} {s u : State} {p : Reply} (hs : s.slotFree)
    (ho : ownBerthAmend r (countTaken s) = (u, p)) : exec (.berthAmend tag r) s = .next (State.answering 0x22 tag p u) :=
  exec_of_owner (q := .berthAmend r) hs rfl rfl ho

theorem exec_berthQuery {tag : Byte} {n : Nat} {s u : State} {p : Reply} (hs : s.slotFree)
    (ho : ownBerthQuery n (countTaken s) = (u, p)) : exec (.berthQuery tag n) s = .next (State.answering 0x23 tag p u) :=
  exec_of_owner (q := .berthQuery n) hs rfl rfl ho

/-- Settles O31. -/
theorem berthRequestsCheckAndQuery : Obligations.BerthRequestsCheckAndQuery := by
  intro tag s hs
  refine ⟨fun hc => ?_, fun hc n hn => ?_, fun hc b hb => ?_⟩
  · have hc' : (countTaken s).supervisor.state = .config := hc
    exact ⟨fun r => exec_berthOpen hs (atBerth_config hc'), fun n => exec_berthClose hs (atBerth_config hc'),
      fun r => exec_berthAmend hs (atBerth_config hc'), fun n => exec_berthQuery hs (atBerth_config hc')⟩
  · have habsent : ∀ f, atBerth n (countTaken s) f = (countTaken s, .code .range) := fun f => atBerth_absent hc hn
    refine ⟨fun r hr => ?_, exec_berthClose hs (habsent _), fun r hr => ?_, exec_berthQuery hs (habsent _)⟩
    · subst hr
      exact exec_berthOpen hs (habsent _)
    · subst hr
      exact exec_berthAmend hs (habsent _)
  · refine exec_berthQuery hs ((atBerth_present (s := countTaken s) hc hb).trans ?_)
    cases hb : s.berth b with
    | none => simp [hb]
    | some t => simp [hb, queryReport, State.effectiveMargin, Trip.free, freePlaces]

/-! ### The two closing conditions -/

/-- The two closing conditions of an OPEN berth, close-when-full first (R5, R17). -/
theorem closingConditions_eq {b : BerthIx} {t : Trip} {u : State} (ht : u.berth b = some t) (hp : t.phase = .opened) :
    closeAtDeparture b (closeWhenFull b u) =
      if t.fullUp = true then closeBerth b .full u
      else if t.departureReached u.clock.time = true then closeBerth b .departureTime u else u := by
  rcases closeWhenFull_eq b u with ⟨⟨v, hv, -, hf⟩, hc⟩ | ⟨hn, hc⟩
  · cases ht.symm.trans hv
    rw [hc, if_pos hf]
    rcases closeAtDeparture_eq b (closeBerth b .full u) with ⟨⟨w, hw, hwp, -⟩, -⟩ | ⟨-, hd⟩
    · exact absurd hwp (closeBerth_not_opened ht hw)
    · exact hd
  · rw [hc, if_neg (by simp [hn t ht hp])]
    rcases closeAtDeparture_eq b u with ⟨⟨v, hv, -, hf⟩, hd⟩ | ⟨hn', hd⟩
    · cases ht.symm.trans hv
      rw [hd, if_pos hf]
    · rw [hd, if_neg (by simp [hn' t ht hp])]

/-- A request is counted before its owner acts, which no lamp sees. -/
theorem rescanLamps_countTaken (s u : State) : rescanLamps (countTaken s) u = rescanLamps s u :=
  rescanLamps_congr rfl fun _ => rfl

/-! ### BERTH_OPEN -/

theorem optional_inRange {α : Type} (o : Option α) (p : α → Prop) [DecidablePred p] :
    o.elim true (fun x => decide (p x)) = true ↔ ∀ x, o = some x → p x := by
  cases o <;> simp

theorem timeInRange_eq : timeInRange = fun d => decide (d.second ≤ 86399) := rfl

/-- The range check of BERTH_OPEN (R4, step 1). -/
theorem openInRange_iff (r : OpenRequest) :
    openInRange r = true ↔ 1 ≤ r.tripRef ∧ r.tripRef ≤ 4294967295 ∧ 1 ≤ r.vessel ∧ r.vessel ≤ 65535 ∧ r.routeClass ≤ 7 ∧
      1 ≤ r.capacity ∧ r.capacity ≤ 600 ∧ (∀ d, r.departure = some d → d.second ≤ 86399) ∧ ∀ m, r.margin = some m → m ≤ 50 := by
  unfold openInRange
  simp only [timeInRange_eq, Bool.and_eq_true, optional_inRange, decide_eq_true_eq, and_assoc]

/-- The flags of a level latched from clear (R5, R9). -/
theorem latch_clear (l : FillLevel) :
    TripFlags.clear.latch l = ⟨decide (l = .near), decide (l = .full), decide (l = .overfull), false, false⟩ := by
  cases l <;> rfl

/-- Another berth's trip has this trip reference (R4). -/
theorem tripRefInUse_iff (s : State) (b : BerthIx) (ref : Nat) :
    s.tripRefInUse b ref = true ↔ ∃ c t, c ≠ b ∧ s.berth c = some t ∧ t.context.tripRef = ref := by
  simp only [State.tripRefInUse, List.any_eq_true, mem_allBerths, true_and, Bool.and_eq_true, decide_eq_true_eq]
  refine exists_congr fun c => ?_
  cases s.berth c <;> simp

/-- What BERTH_OPEN does by its checks in their order (R4, R5). -/
theorem ownBerthOpen_eq {r : OpenRequest} {b : BerthIx} {s : State} (hc : s.supervisor.state ≠ .config) (hr : r.berth = b.val)
    (hb : b.val < s.supervisor.setup.berthsPresent) :
    ownBerthOpen r s =
      if openInRange r = false then (s, .code .range)
      else if s.supervisor.state ≠ .inService ∨ s.berth b ≠ none then (s, .code .state)
      else if s.tripRefInUse b r.tripRef = true then (s, .code .busy)
      else (openBerth b r s, .berthOpen (decide (r.capacity < r.aboard)) b (berthFillReport ((openBerth b r s).berth b))
        (berthStateOf ((openBerth b r s).berth b))) := by
  unfold ownBerthOpen
  rw [hr, atBerth_present hc hb]
  by_cases h1 : s.supervisor.state = .inService <;> by_cases h2 : s.berth b = none <;> simp [h1, h2]

/-- The state in which the closing conditions of a berth that opens are evaluated: the trip set up, FILL and BERTH_STATE posted (R5). -/
def justOpened (b : BerthIx) (r : OpenRequest) (s : State) : State :=
  State.posting [fillNotice b (openedTrip r s) (openedTrip r s).fill, .berthState b .opened r.tripRef none s.clock.time]
    (rescanLamps s (s.putBerth b (some (openedTrip r s))))

@[simp] theorem justOpened_supervisor (b : BerthIx) (r : OpenRequest) (s : State) :
    (justOpened b r s).supervisor = s.supervisor := by simp [justOpened]
@[simp] theorem justOpened_clock (b : BerthIx) (r : OpenRequest) (s : State) : (justOpened b r s).clock = s.clock := by
  simp [justOpened]
@[simp] theorem justOpened_lanes (b : BerthIx) (r : OpenRequest) (s : State) : (justOpened b r s).lanes = s.lanes := by
  simp [justOpened]
@[simp] theorem justOpened_journal (b : BerthIx) (r : OpenRequest) (s : State) : (justOpened b r s).journal = s.journal := by
  simp [justOpened]
@[simp] theorem justOpened_berths (b : BerthIx) (r : OpenRequest) (s : State) :
    (justOpened b r s).berths = s.berths.set b (some (openedTrip r s)) := by simp [justOpened]
@[simp] theorem justOpened_berth_self (b : BerthIx) (r : OpenRequest) (s : State) :
    (justOpened b r s).berth b = some (openedTrip r s) := by
  rw [State.berth, justOpened_berths, PerBerth.get_set_self]

theorem openBerth_eq (b : BerthIx) (r : OpenRequest) (s : State) :
    openBerth b r s = closeAtDeparture b (closeWhenFull b (justOpened b r s)) := by
  simp only [openBerth, postBerthState, post_clock, changeBerth_clock]
  rfl

theorem openedTrip_fullUp (r : OpenRequest) (s : State) :
    (openedTrip r s).fullUp = true ↔ r.closeWhenFull = true ∧ r.capacity ≤ r.aboard := by
  simp [Trip.fullUp, openedTrip, openContext]

/-- Settles O32. -/
theorem berthOpenSetsUpTheTrip : Obligations.BerthOpenSetsUpTheTrip := by
  intro tag r b s hs hc hr hb inUse inRange hInUse hInRange
  rw [← openInRange_iff] at hInRange
  rw [← tripRefInUse_iff] at hInUse
  have ho := ownBerthOpen_eq (s := countTaken s) (r := r) hc hr hb
  have hin : inRange → ¬openInRange r = false := fun hi => by simpa using hInRange.mp hi
  refine ⟨fun hn => ?_, fun hi hst => ?_, fun hi hst hv hu => ?_, fun hi hst hv hu => ?_⟩
  · exact exec_berthOpen hs (ho.trans (if_pos (by simpa [hInRange] using hn)))
  · exact exec_berthOpen hs (ho.trans ((if_neg (hin hi)).trans (if_pos hst)))
  · have hpass : ¬(s.supervisor.state ≠ .inService ∨ s.berth b ≠ none) := by simp [hst, hv]
    exact exec_berthOpen hs (ho.trans ((if_neg (hin hi)).trans ((if_neg hpass).trans (if_pos (hInUse.mp hu)))))
  · have hpass : ¬(s.supervisor.state ≠ .inService ∨ s.berth b ≠ none) := by simp [hst, hv]
    have hfree : ¬s.tripRefInUse b r.tripRef = true := fun h => hu (hInUse.mpr h)
    refine ⟨justOpened b r (countTaken s), openBerth b r (countTaken s), _, openedTrip r s, rfl, ?_, ?_, ?_,
      exec_berthOpen hs (ho.trans ((if_neg (hin hi)).trans ((if_neg hpass).trans (if_neg hfree))))⟩
    · simp only [openedTrip, latch_clear]
      rfl
    · rw [justOpened, rescanLamps_countTaken]
      rfl
    · rw [openBerth_eq, closingConditions_eq (justOpened_berth_self ..) rfl]
      simp only [openedTrip_fullUp, Trip.departureReached, Bool.and_eq_true, justOpened_clock]
      rfl

/-! ### BERTH_AMEND -/

theorem threeWay_inRange {α : Type} (o : ThreeWay α) (p : α → Prop) [DecidablePred p] :
    threeWayInRange (fun x => decide (p x)) o = true ↔ (∀ x, o = .set x → p x) ∧ ∀ code, o ≠ .reserved code := by
  cases o <;> simp [threeWayInRange]

/-- The range check of BERTH_AMEND (R16, check 1). -/
theorem amendInRange_iff (r : AmendRequest) :
    amendInRange r = true ↔ (∀ c, r.capacity = some c → 1 ≤ c ∧ c ≤ 600) ∧ (∀ d, r.departure = .set d → d.second ≤ 86399) ∧
      (∀ code, r.departure ≠ .reserved code) ∧ (∀ m, r.margin = .set m → m ≤ 50) ∧ ∀ code, r.margin ≠ .reserved code := by
  unfold amendInRange
  simp only [timeInRange_eq, Bool.and_eq_true, optional_inRange, threeWay_inRange, and_assoc]

/-- The trip with its context amended (R17). -/
def Trip.amend (r : AmendRequest) (t : Trip) : Trip := { t with context := amendContext r t.context }

theorem berthStateOf_opened (x : Berth) : berthStateOf x = .opened ↔ ∃ t, x = some t ∧ t.phase = .opened := by
  cases x with
  | none => simp [berthStateOf]
  | some t => cases h : t.phase <;> simp [berthStateOf, TripPhase.toBerthState, h]

/-- What BERTH_AMEND makes of an OPEN berth: the context replaced, the fill level recomputed, then the closing conditions (R17). -/
theorem amend_eq {r : AmendRequest} {b : BerthIx} {t : Trip} {s : State} (ht : s.berth b = some t) :
    recomputeFill b (changeTrip b (Trip.amend r) s) = refilled b (t.amend r) s :=
  recomputeFill_changeTrip ht rfl

/-- What BERTH_AMEND does by its checks in their order (R16, R17). -/
theorem ownBerthAmend_eq {r : AmendRequest} {b : BerthIx} {s : State} (hc : s.supervisor.state ≠ .config) (hr : r.berth = b.val)
    (hb : b.val < s.supervisor.setup.berthsPresent) :
    ownBerthAmend r s =
      if amendInRange r = false then (s, .code .range)
      else if berthStateOf (s.berth b) ≠ .opened then (s, .code .state)
      else
        let u := closeAtDeparture b (closeWhenFull b (recomputeFill b (changeTrip b (Trip.amend r) s)))
        (u, .berthAmend (berthStateOf (u.berth b)) (berthFillReport (u.berth b))) := by
  unfold ownBerthAmend
  rw [hr, atBerth_present hc hb]
  rfl

/-- Settles O35. -/
theorem berthAmendReplacesTheContext : Obligations.BerthAmendReplacesTheContext := by
  intro tag r b s hs hc hr hb inRange hInRange
  rw [← amendInRange_iff] at hInRange
  have ho := ownBerthAmend_eq (s := countTaken s) (r := r) hc hr hb
  have hin : inRange → ¬amendInRange r = false := fun hi => by simpa using hInRange.mp hi
  refine ⟨fun hn => ?_, fun hi hp => ?_, fun t hi ht hp => ?_⟩
  · exact exec_berthAmend hs (ho.trans (if_pos (by simpa [hInRange] using hn)))
  · have hclosed : berthStateOf (s.berth b) ≠ .opened := by
      rw [Ne, berthStateOf_opened]
      rintro ⟨t, ht, hpt⟩
      exact hp t ht hpt
    exact exec_berthAmend hs (ho.trans ((if_neg (hin hi)).trans (if_pos hclosed)))
  · have hopen : ¬berthStateOf (s.berth b) ≠ .opened := not_not.mpr ((berthStateOf_opened _).mpr ⟨t, ht, hp⟩)
    have hrefill := amend_eq (s := countTaken s) (r := r) ht
    refine ⟨(t.amend r).context, (t.amend r).levelOf s.supervisor.setup.defaultMargin,
      (t.amend r).refill s.supervisor.setup.defaultMargin, refilled b (t.amend r) (countTaken s), _, ?_, rfl, ?_, ?_, ?_,
      exec_berthAmend hs (ho.trans ((if_neg (hin hi)).trans (if_neg hopen)))⟩
    · simp only [Trip.amend, amendContext]
      cases r.departure <;> cases r.margin <;> rfl
    · rw [refill_eq]
      rfl
    · rw [refilled, rescanLamps_countTaken]
      rfl
    · have hphase : ((t.amend r).refill s.supervisor.setup.defaultMargin).phase = .opened := by rwa [refill_phase]
      rw [hrefill, closingConditions_eq (refilled_berth_self b (t.amend r) (countTaken s)) hphase]
      simp only [refill_fullUp, refill_departureReached, refilled_clock, countTaken_clock]
      simp only [Trip.fullUp, Trip.departureReached, Bool.and_eq_true, decide_eq_true_eq]
      rfl

end Sys2Proof.Machine
end

section
/-! SUPPORT. What an event can do to the berths, said once: a chain of moves, each a change of the berth units that the rules of chapter 1
name, or a change of the rest of the controller that no berth unit sees. Every command is such a chain (`exec_moves`, in a later part). -/

namespace Sys2Proof.Machine

open Sys2Proof

/-! ### Changes that no berth unit sees -/

/-- Boarding goes on: the pontoon is IN_SERVICE or in an EGRESS that returns to it (R26). -/
def Supervisor.boards (v : Supervisor) : Prop :=
  v.state = .inService ∨ (v.state = .egress ∧ v.returnState = some .inService)

/-- No berth unit has changed, nor its setup, boarding goes on if it did, and every lane that held back a berth still does, but for the
lanes of the berth `o`. -/
structure Calm (o : Option BerthIx) (s u : State) : Prop where
  berths : u.berths = s.berths
  journal : u.journal = s.journal
  setup : u.supervisor.setup = s.supervisor.setup
  boards : s.supervisor.boards → u.supervisor.boards
  held : ∀ b, o ≠ some b → ∀ i, s.holdsBack b i = true → u.holdsBack b i = true

/-- The same with service time unchanged. -/
structure Quiet (o : Option BerthIx) (s u : State) : Prop extends Calm o s u where
  time : u.clock.time = s.clock.time

theorem holdsBack_congr {s u : State} (h : u.lanes = s.lanes) (b : BerthIx) (i : LaneIx) :
    u.holdsBack b i = s.holdsBack b i := by
  unfold State.holdsBack
  rw [lane_congr h]

section
variable {o : Option BerthIx} {s u v : State}

theorem Calm.of_frames (hb : u.berths = s.berths) (hj : u.journal = s.journal) (hs : u.supervisor = s.supervisor)
    (hl : u.lanes = s.lanes) : Calm o s u :=
  ⟨hb, hj, by rw [hs], by rw [hs]; exact id, fun b _ i h => by rwa [holdsBack_congr hl]⟩

theorem Quiet.of_frames (hb : u.berths = s.berths) (hj : u.journal = s.journal) (hs : u.supervisor = s.supervisor)
    (hl : u.lanes = s.lanes) (ht : u.clock.time = s.clock.time) : Quiet o s u :=
  ⟨.of_frames hb hj hs hl, ht⟩

theorem Quiet.refl (o : Option BerthIx) (s : State) : Quiet o s s := .of_frames rfl rfl rfl rfl rfl

theorem Quiet.trans (h : Quiet o s u) (h' : Quiet o u v) : Quiet o s v where
  berths := h'.berths.trans h.berths
  journal := h'.journal.trans h.journal
  setup := h'.setup.trans h.setup
  boards := h'.boards ∘ h.boards
  held b hb i := h'.held b hb i ∘ h.held b hb i
  time := h'.time.trans h.time

theorem Quiet.weaken (h : Quiet none s u) : Quiet o s u where
  toCalm := { h.toCalm with held := fun b _ => h.held b nofun }
  time := h.time

/-- A quiet change of the lane units and the clock, then one of other fields. -/
theorem Quiet.extend (h : Quiet o s u) (hb : v.berths = u.berths) (hj : v.journal = u.journal)
    (hs : v.supervisor = u.supervisor) (hl : v.lanes = u.lanes) (ht : v.clock.time = u.clock.time) : Quiet o s v :=
  h.trans (.of_frames hb hj hs hl ht)

theorem Quiet.post (h : Quiet o s u) (n : Notice) : Quiet o s (post n u) :=
  h.extend (by simp) (by simp) (by simp) (by simp) (by simp)

theorem Quiet.endEntry (h : Quiet o s u) (k : Hold) (st : EntryState) : Quiet o s (endEntry k st u) :=
  h.extend rfl rfl rfl rfl rfl

end

/-- A change of a lane that keeps its assignment is seen by the lane's berth alone. -/
theorem Quiet.of_lane {i : LaneIx} {f : Lane → Lane} {s : State} (hf : (f (s.lane i)).berth = (s.lane i).berth) :
    Quiet (s.lane i).berth s (changeLane i f s) where
  berths := rfl
  journal := rfl
  setup := rfl
  boards := id
  time := rfl
  held b hb j hj := by
    have hne : j ≠ i := by
      rintro rfl
      exact hb (by simpa [State.holdsBack] using And.left (by simpa [State.holdsBack] using hj))
    unfold State.holdsBack
    rwa [changeLane_lane_other i j f s hne]

/-- A change of a lane that holds back no berth, or keeps its assignment and goes on to hold it back, is seen by no berth. -/
theorem Quiet.of_busy_lane {i : LaneIx} {f : Lane → Lane} {s : State}
    (hf : (s.lane i).state.busy = true → (f (s.lane i)).berth = (s.lane i).berth ∧ (f (s.lane i)).state.busy = true) :
    Quiet none s (changeLane i f s) where
  berths := rfl
  journal := rfl
  setup := rfl
  boards := id
  time := rfl
  held b _ j hj := by
    unfold State.holdsBack at hj ⊢
    rw [changeLane_lane]
    split
    · next h =>
      subst h
      rw [Bool.and_eq_true, decide_eq_true_eq] at hj ⊢
      obtain ⟨hb, hs⟩ := hf hj.2
      exact ⟨hb.trans hj.1, hs⟩
    · exact hj

/-- The same for a change that no lamp can see. -/
theorem Quiet.of_setLane {i : LaneIx} {f : Lane → Lane} {s : State} (hb : (f (s.lane i)).berth = (s.lane i).berth)
    (hs : (f (s.lane i)).state = (s.lane i).state) : Quiet none s (setLane i f s) :=
  (Quiet.of_busy_lane (f := f) fun h => ⟨hb, hs ▸ h⟩).extend (u := changeLane i f s) rfl rfl rfl rfl rfl

/-! ### The moves -/

/-- One move of an event, as the berths see it. -/
inductive Move : State → State → Prop
  /-- A change that no berth unit sees. -/
  | quiet {s u : State} : Quiet none s u → Move s u
  /-- A change at a berth's lanes, after which the berth tests its settlement (R22). -/
  | settles {s u : State} {b : BerthIx} : Quiet (some b) s u → Move s (settle b u)
  /-- A lane's report to its berth (R11, R12, R13). -/
  | reports {s u : State} {b : BerthIx} {fwd : Bool} {f : Trip → Trip} :
      Quiet (some b) s u → LaneReport fwd f → Move s (tripEvent b fwd f u)
  /-- A berth's part of a grant (R10). -/
  | grants (s : State) (b : BerthIx) (kind : AdmissionKind) (charge generation : Nat) :
      Move s (recomputeFill b (changeTrip b (Trip.takeHold kind charge generation) s))
  /-- A refusal is counted (R14). -/
  | refuses (s : State) (b : BerthIx) : Move s (countRefusal b s)
  /-- A present VACANT berth opens in service (R5). -/
  | opens {s : State} {b : BerthIx} {r : OpenRequest} : openInRange r = true → s.supervisor.state = .inService →
      b.val < s.supervisor.setup.berthsPresent → s.berth b = none → Move s (openBerth b r s)
  /-- An OPEN berth closes (R15). -/
  | closes {s : State} {b : BerthIx} {t : Trip} (cause : CloseCause) : s.berth b = some t → t.phase = .opened →
      Move s (closeBerth b cause s)
  /-- An OPEN berth's context is amended (R17). -/
  | amends {s : State} {b : BerthIx} {t : Trip} (r : AmendRequest) : s.berth b = some t → t.phase = .opened →
      Move s (closeAtDeparture b (closeWhenFull b (recomputeFill b (changeTrip b (Trip.amend r) s))))
  /-- Service time is set or advances and the trigger is given (R157). -/
  | triggers {s u : State} : Calm none s u → Move s (giveTrigger u)
  /-- The oldest record is released and the first waiting berth served (R173, R174). -/
  | releases {s : State} {r : TripRecord} {rest : List TripRecord} : s.journal.records = r :: rest →
      Move s (serveWaiting { s with journal := { s.journal with records := rest } })
  /-- Anything while no berth holds a trip, if it keeps the berths so (R26). -/
  | vacant {s u : State} : (ServiceLaw s → ∀ b, u.berth b = none) → (∀ r ∈ u.journal.records, r ∈ s.journal.records) → Move s u

/-- A chain of moves. -/
def Moves (s u : State) : Prop := Relation.ReflTransGen Move s u

theorem Moves.refl {s : State} : Moves s s := Relation.ReflTransGen.refl

theorem Moves.single {s u : State} (h : Move s u) : Moves s u := Relation.ReflTransGen.single h

theorem Moves.trans {s u v : State} (h : Moves s u) (h' : Moves u v) : Moves s v := Relation.ReflTransGen.trans h h'

/-- A relation that every move keeps is kept by every chain. -/
theorem Moves.keep {p : State → Prop} (h : ∀ {s u}, Move s u → p s → p u) {s u : State} (hm : Moves s u) (hs : p s) : p u := by
  induction hm with
  | refl => exact hs
  | tail _ hlast ih => exact h hlast ih

theorem Quiet.moves {s u : State} (h : Quiet none s u) : Moves s u := .single (.quiet h)

theorem moves_of_frames {s u : State} (hb : u.berths = s.berths) (hj : u.journal = s.journal)
    (hs : u.supervisor = s.supervisor) (hl : u.lanes = s.lanes) (ht : u.clock = s.clock) : Moves s u :=
  (Quiet.of_frames hb hj hs hl (congrArg Clock.time ht)).moves

/-- A chain over a list of units. -/
theorem foldl_moves {α : Type} {f : State → α → State} (h : ∀ s x, Moves s (f s x)) (l : List α) (s : State) :
    Moves s (l.foldl f s) := by
  induction l generalizing s with
  | nil => exact .refl
  | cons x l ih => exact (h s x).trans (ih _)

/-! ### What the lanes do -/

theorem Quiet.settleBerthOf_moves {s u : State} {i : LaneIx} (h : Quiet (u.lane i).berth s u) :
    Moves s (settleBerthOf i u) := by
  unfold settleBerthOf
  cases hb : (u.lane i).berth with
  | none => rw [hb] at h; exact h.moves
  | some b => rw [hb] at h; exact .single (.settles h)

theorem Quiet.settleOpt_moves {s u : State} {o : Option BerthIx} (h : Quiet o s u) : Moves s (settleOpt o u) := by
  cases o with
  | none => exact h.moves
  | some b => exact .single (.settles h)

theorem Quiet.reportTo_moves {s u : State} {i : LaneIx} {fwd : Bool} {f : Trip → Trip} (h : Quiet (u.lane i).berth s u)
    (hf : LaneReport fwd f) : Moves s (reportTo i (fun b => tripEvent b fwd f) u) := by
  unfold reportTo
  cases hb : (u.lane i).berth with
  | none => rw [hb] at h; exact h.moves
  | some b => rw [hb] at h; exact .single (.reports h hf)

/-- A lane takes a state that need not hold back its berth, and the berth tests its settlement (R22). -/
theorem changeLane_settle_moves {i : LaneIx} {f : Lane → Lane} {s : State} (hf : (f (s.lane i)).berth = (s.lane i).berth) :
    Moves s (settleBerthOf i (changeLane i f s)) := by
  refine Quiet.settleBerthOf_moves ?_
  rw [changeLane_lane_self, hf]
  exact .of_lane hf

theorem faultLane_moves (i : LaneIx) (c : LaneFaultCause) (s : State) : Moves s (faultLane i c s) := by
  refine Quiet.settleBerthOf_moves ?_
  rw [post_lane, changeLane_lane_self]
  exact (Quiet.of_lane rfl).post _

theorem dropHold_lane_self (i : LaneIx) (c : VoidCause) (h : Hold) (next : Lane → Lane) (s : State) :
    (dropHold i c h next s).lane i = { next (s.lane i) with hold := none } := by
  rw [dropHold, post_lane, lane_congr (endEntry_lanes ..), changeLane_lane_self]

theorem dropHold_quiet {i : LaneIx} {c : VoidCause} {h : Hold} {next : Lane → Lane} {s : State}
    (hn : (next (s.lane i)).berth = (s.lane i).berth) : Quiet (s.lane i).berth s (dropHold i c h next s) :=
  ((Quiet.of_lane (f := fun l => { next l with hold := none }) hn).endEntry _ _).post _

theorem voidHold_moves {i : LaneIx} {c : VoidCause} {h : Hold} {next : Lane → Lane} {s : State}
    (hn : (next (s.lane i)).berth = (s.lane i).berth) : Moves s (voidHold i c h next s) := by
  refine Quiet.reportTo_moves ?_ .void
  rw [dropHold_lane_self]
  exact hn ▸ dropHold_quiet hn

theorem consumeHold_moves (i : LaneIx) (h : Hold) (s : State) : Moves s (consumeHold i h s) := by
  refine Quiet.reportTo_moves ?_ .consumption
  rw [lane_congr (endEntry_lanes ..), changeLane_lane_self]
  exact (Quiet.of_lane rfl).endEntry _ _

/-- A lane receives its hold: from then on it holds back its berth. -/
theorem takeHold_quiet (i : LaneIx) (h : Hold) (s : State) : Quiet none s (takeHold i h s) := by
  have hopening : Quiet none s (raiseEvent .admission i (changeLane i (fun l => { l.toOpening s.runTime with hold := some h }) s)) :=
    (Quiet.of_busy_lane (i := i) (f := fun l => { l.toOpening s.runTime with hold := some h }) fun _ => ⟨rfl, rfl⟩).extend
      (by simp) (by simp) (by simp) (by simp) (by simp)
  unfold takeHold
  dsimp only
  split
  · exact hopening.trans (.of_busy_lane fun _ => ⟨rfl, rfl⟩)
  · exact hopening

theorem completeClosing_moves (i : LaneIx) (s : State) : Moves s (completeClosing i s) := by
  unfold completeClosing
  dsimp only
  generalize (if s.supervisor.state = .outOfService then LaneState.off else .closed) = last
  split
  · refine Quiet.settleBerthOf_moves ?_
    rw [post_lane, changeLane_lane_self]
    exact (Quiet.of_lane rfl).post _
  · exact changeLane_settle_moves (f := fun l => { l with state := last, barrierTimer := none, returning := false }) rfl

theorem startClosing_moves {i : LaneIx} {f : Lane → Lane} {s : State} (hf : (f (s.lane i)).berth = (s.lane i).berth) :
    Moves s (startClosing i f s) := by
  have hclosing : Moves s (settleBerthOf i (changeLane i (fun l => (f l).toClosing s.runTime) s)) :=
    changeLane_settle_moves hf
  unfold startClosing
  dsimp only
  split
  · exact hclosing
  · exact hclosing.trans (completeClosing_moves ..)

theorem followClear_moves (i : LaneIx) (s : State) : Moves s (followClear i s) := by
  unfold followClear
  dsimp only
  split
  · split
    · split
      · exact (Quiet.of_setLane rfl rfl).moves
      · exact .refl
    · exact (Quiet.of_setLane rfl rfl).moves
  · exact .refl

theorem Quiet.reportPassage_moves {s u : State} {i : LaneIx} (h : Quiet none s u) (m : Movement) (eg : Bool) :
    Moves s (reportPassage i m eg u) := by
  unfold reportPassage
  split
  · exact h.moves
  · exact h.weaken.reportTo_moves (.passage m eg)

theorem postOpt_quiet (n : Option Notice) (s : State) : Quiet none s (postOpt n s) :=
  .of_frames (by simp) (by simp) (by simp) (by simp) (by simp)

end Sys2Proof.Machine
end

section
/-! SUPPORT. Every command is a chain of moves: one lemma for each operation, in the order of the model's files. -/

namespace Sys2Proof.Machine

open Sys2Proof

/-! ### Passages and beams (R33, R34, R40, R49 to R59) -/

theorem takeMovement_moves (i : LaneIx) (m : Movement) (entry : EntrySide) (s : State) :
    Moves s (takeMovement i m entry s) := by
  unfold takeMovement
  dsimp only
  generalize hn : passageNotice s i m entry (if m = .forward then (s.lane i).consumable else none) = n
  generalize (if m = .forward then (s.lane i).consumable else none) = consumed
  generalize decide ((s.lane i).state = .egress) = eg
  have hpost : Moves s (postOpt n s) := (postOpt_quiet n s).moves
  split
  · refine hpost.trans ?_
    generalize postOpt n s = u
    cases consumed with
    | some h => exact consumeHold_moves i h u
    | none =>
      dsimp only
      split
      · exact (Quiet.refl none u).reportPassage_moves m eg
      · next h _ =>
        have hdrop : Quiet ((dropHold i .timeout h (Lane.toClearing u.runTime) u).lane i).berth u
            (dropHold i .timeout h (Lane.toClearing u.runTime) u) := by
          rw [dropHold_lane_self]
          exact dropHold_quiet rfl
        have hvoid : ∀ v : State, Moves v (reportTo i berthVoid v) := fun v => (Quiet.refl _ v).reportTo_moves .void
        unfold reportPassage
        split
        · exact hdrop.reportTo_moves .void
        · exact (hdrop.reportTo_moves (.passage m eg)).trans (hvoid _)
  · exact .refl

theorem takeBeams_moves (i : LaneIx) (s : State) : Moves s (takeBeams i s) := by
  unfold takeBeams
  dsimp only
  have hset : Moves s (setLane i (fun _ => ((s.lane i).takePair s.runTime).1) s) := (Quiet.of_setLane rfl rfl).moves
  refine (hset.trans ?_).trans (followClear_moves i _)
  split
  · exact .refl
  · exact takeMovement_moves ..

theorem acceptWaiting_berth (now : Nat) (w : Option (Bool × Bool)) (l old : Lane) :
    (l.acceptWaiting now w old).berth = l.berth := by
  unfold Lane.acceptWaiting
  repeat' split
  all_goals rfl

theorem acceptWaiting_state (now : Nat) (w : Option (Bool × Bool)) (l old : Lane) :
    (l.acceptWaiting now w old).state = l.state := by
  unfold Lane.acceptWaiting
  repeat' split
  all_goals rfl

theorem takeAccepted_moves (i : LaneIx) (old : Lane) (s : State) : Moves s (takeAccepted i old s) :=
  have hset : ∀ w, Quiet none s (setLane i (fun l => (l.acceptDue s.runTime).acceptWaiting s.runTime w old) s) := fun w =>
    .of_setLane (f := fun l => (l.acceptDue s.runTime).acceptWaiting s.runTime w old) (acceptWaiting_berth ..)
      (acceptWaiting_state ..)
  (hset _).moves.trans (takeBeams_moves ..)

theorem beamRaw_moves (i : LaneIx) (a b : Bool) (s : State) : Moves s (beamRaw i a b s) := by
  unfold beamRaw
  dsimp only
  have hset : ∀ a b, Moves s (setLane i (fun l => { l with beamA := a, beamB := b }) s) := fun a b =>
    (Quiet.of_setLane rfl rfl).moves
  split
  · exact hset ..
  · exact (hset ..).trans (takeAccepted_moves ..)

theorem beamAccepted_moves (i : LaneIx) (s : State) : Moves s (beamAccepted i s) := by
  unfold beamAccepted
  split
  · exact takeAccepted_moves ..
  · exact .refl

/-! ### Barrier events (R31, R32, R34, R36 to R38) -/

theorem senseChange_moves (i : LaneIx) (isOpen : Bool) (s : State) : Moves s (senseChange i isOpen s) := by
  unfold senseChange
  dsimp only
  have hset : Moves s (setLane i (fun l => { l with sense := isOpen }) s) := (Quiet.of_setLane rfl rfl).moves
  split
  · exact .refl
  · refine hset.trans ?_
    split
    · exact changeLane_settle_moves rfl
    · exact changeLane_settle_moves rfl
    · exact faultLane_moves ..
    · exact completeClosing_moves ..
    · exact faultLane_moves ..
    · exact .refl

theorem barrierExpiry_moves (i : LaneIx) (s : State) : Moves s (barrierExpiry i s) := by
  unfold barrierExpiry
  split
  · split
    · split
      · next h _ =>
        refine Quiet.reportTo_moves ?_ .void
        rw [post_lane, dropHold_lane_self]
        exact (dropHold_quiet rfl).post _
      · exact faultLane_moves ..
    · exact faultLane_moves ..
    · exact .refl
  · exact .refl

theorem passageExpiry_moves (i : LaneIx) (s : State) : Moves s (passageExpiry i s) := by
  unfold passageExpiry
  split
  · split
    · split
      · exact voidHold_moves rfl
      · exact changeLane_settle_moves rfl
    · exact (Quiet.of_setLane rfl rfl).moves
  · exact .refl

theorem clearExpiry_moves (i : LaneIx) (s : State) : Moves s (clearExpiry i s) := by
  unfold clearExpiry
  split
  · split
    · exact startClosing_moves rfl
    · exact changeLane_settle_moves rfl
    · exact .refl
  · exact .refl

theorem pulseEnd_moves (i : LaneIx) (s : State) : Moves s (pulseEnd i s) :=
  moves_of_frames (by simp) (by simp) (by simp) (by simp) (by simp)

/-! ### Service and egress at the lanes (R41, R42, R43) -/

theorem laneAtStart_moves (s : State) (i : LaneIx) : Moves s (laneAtStart s i) := by
  unfold laneAtStart
  split
  · next h =>
    split
    · exact faultLane_moves ..
    · exact (Quiet.of_busy_lane fun hb => absurd hb (by simp [h.2, LaneState.busy])).moves
  · exact .refl

theorem laneToEgress_moves (s : State) (i : LaneIx) : Moves s (laneToEgress s i) := by
  unfold laneToEgress
  split
  · split
    · exact voidHold_moves rfl
    · exact changeLane_settle_moves rfl
  · exact .refl

theorem laneFromEgress_moves (s : State) (i : LaneIx) : Moves s (laneFromEgress s i) := by
  unfold laneFromEgress
  split
  · exact changeLane_settle_moves rfl
  · exact .refl

/-! ### Admissions (R14, R30, R99) -/

theorem countRefusal_moves (b : BerthIx) (s : State) : Moves s (countRefusal b s) := .single (.refuses s b)

theorem raiseEvent_moves (c : LampCondition) (i : LaneIx) (s : State) : Moves s (raiseEvent c i s) :=
  moves_of_frames (by simp) (by simp) (by simp) (by simp) (by simp)

theorem applyRefusal_moves (lane : Nat) (s : State) : Moves s (applyRefusal lane s) := by
  unfold applyRefusal
  split
  · exact .refl
  · refine Moves.trans ?_ (raiseEvent_moves ..)
    unfold reportTo
    split
    · exact .refl
    · exact countRefusal_moves ..

/-- A change of the Recent Admission List. -/
theorem recent_moves (s : State) (es : List Entry) : Moves s { s with recent := es } :=
  (Quiet.of_frames (s := s) (u := { s with recent := es }) rfl rfl rfl rfl rfl).moves

theorem applyGrant_moves (i : LaneIx) (b : BerthIx) (ref card : Nat) (kind : AdmissionKind) (charge : Nat)
    (exhausted : Option Notice) (s : State) : Moves s (applyGrant i b ref card kind charge exhausted s) := by
  have hgrant : Moves s (recomputeFill b (changeTrip b (Trip.takeHold kind charge s.activeGeneration)
      (takeHold i ⟨card, ref, charge, kind⟩ s))) :=
    (takeHold_quiet ..).moves.trans (.single (.grants ..))
  unfold applyGrant
  dsimp only
  refine Moves.trans ?_ (postOpt_quiet ..).moves
  exact hgrant.trans (recent_moves _ _)

theorem ownPresent_moves (lane : Nat) (c : Credential) (s : State) : Moves s (ownPresent lane c s).1 := by
  unfold ownPresent
  split
  · exact applyRefusal_moves ..
  · next i b t _ _ => exact applyGrant_moves i b t.context.tripRef c.card .courtesy 0 none s
  · next i b t x _ p pay _ =>
    exact applyGrant_moves i b t.context.tripRef c.card pay.kind pay.charge (exhaustedNotice x c.card p pay) s

/-! ### The berth and lane requests (R4, R15, R16, R39, R45) -/

theorem atBerth_moves {n : Nat} {s : State} {f : BerthIx → State × Reply}
    (h : ∀ b : BerthIx, b.val < s.supervisor.setup.berthsPresent → Moves s (f b).1) : Moves s (atBerth n s f).1 := by
  unfold atBerth State.berth?
  split
  · exact .refl
  · by_cases h4 : n < 4 <;> by_cases hp : n < s.supervisor.setup.berthsPresent <;>
      simp only [h4, hp, if_pos, if_neg, dif_pos, dif_neg, not_false_eq_true]
    · exact h ⟨n, h4⟩ hp
    all_goals exact .refl

theorem atLane_moves {n : Nat} {s : State} {f : LaneIx → State × Reply} (h : ∀ i, Moves s (f i).1) :
    Moves s (atLane n s f).1 := by
  unfold atLane
  split
  · exact .refl
  · split
    · exact .refl
    · exact h _

theorem ownBerthOpen_moves (r : OpenRequest) (s : State) : Moves s (ownBerthOpen r s).1 := by
  refine atBerth_moves fun b hb => ?_
  dsimp only
  split
  · exact .refl
  · next hin =>
    split
    · exact .refl
    · next hst =>
      split
      · exact .refl
      · next hv =>
        split
        · exact .refl
        · exact .single (.opens (by simpa using hin) (not_not.mp hst) hb (not_not.mp hv))

theorem ownBerthClose_moves (n : Nat) (s : State) : Moves s (ownBerthClose n s).1 := by
  refine atBerth_moves fun b _ => ?_
  split
  · exact .refl
  · next ht =>
    split
    · next hp => exact .single (.closes _ ht hp)
    · exact .refl
    · exact .refl

theorem ownBerthAmend_moves (r : AmendRequest) (s : State) : Moves s (ownBerthAmend r s).1 := by
  refine atBerth_moves fun b _ => ?_
  dsimp only
  split
  · exact .refl
  · split
    · exact .refl
    · next hst =>
      obtain ⟨t, ht, hp⟩ := (berthStateOf_opened _).mp (not_not.mp hst)
      exact .single (.amends r ht hp)

theorem assignLane_moves {i : LaneIx} {s : State} (h : (s.lane i).state.busy = false) (b : Option BerthIx) :
    Moves s (assignLane i b s) := by
  have hlane : Quiet none s (changeLane i (fun l => { l with berth := b }) s) :=
    .of_busy_lane fun hb => absurd hb (by simp [h])
  unfold assignLane
  dsimp only
  split
  · exact .refl
  · exact hlane.weaken.settleOpt_moves.trans (Quiet.refl _ _).settleOpt_moves

theorem ownLaneAssign_moves (n : Nat) (berth : Option Nat) (s : State) : Moves s (ownLaneAssign n berth s).1 := by
  refine atLane_moves fun i => ?_
  split
  · exact .refl
  · split
    · exact .refl
    · next h => exact assignLane_moves (by simpa using h) _

theorem ownLaneReturn_moves (n : Nat) (s : State) : Moves s (ownLaneReturn n s).1 := by
  refine atLane_moves fun i => ?_
  split
  · exact .refl
  · exact startClosing_moves rfl

/-! ### Service time (R149, R151, R154, R156, R157) -/

theorem setTimeState_time (st : TimeState) (c : TimeCause) (s : State) : (setTimeState st c s).clock.time = s.clock.time := by
  unfold setTimeState
  split <;> simp

theorem giveTrigger_moves {s u : State} (hb : u.berths = s.berths) (hj : u.journal = s.journal)
    (hs : u.supervisor = s.supervisor) (hl : u.lanes = s.lanes) : Moves s (giveTrigger u) :=
  .single (.triggers (.of_frames hb hj hs hl))

theorem ownTimeMark_moves (t : ServiceTime) (s : State) : Moves s (ownTimeMark t s).1 := by
  unfold ownTimeMark
  split
  · exact .refl
  · exact giveTrigger_moves (by simp) (by simp) (by simp) (by simp)

/-- A change of the clock that keeps service time. -/
theorem clock_moves {s : State} {c : Clock} (h : c.time = s.clock.time) : Moves s { s with clock := c } :=
  (Quiet.of_frames (s := s) (u := { s with clock := c }) rfl rfl rfl rfl h).moves

theorem serviceAdvance_moves (s : State) : Moves s (serviceAdvance s) := by
  unfold serviceAdvance
  dsimp only
  split
  · split
    · exact clock_moves rfl
    · split
      · exact clock_moves rfl
      · exact giveTrigger_moves rfl rfl rfl rfl
  · exact .refl

theorem windowExpiry_moves (s : State) : Moves s (windowExpiry s) := by
  refine (Quiet.of_frames (by simp) (by simp) (by simp) (by simp) ?_).moves
  unfold windowExpiry
  split
  · rw [cancelSwitch_clock, setTimeState_time]
  · rfl

theorem applyFreeRun_moves (freeRun : Option ServiceTime) (s : State) : Moves s (applyFreeRun freeRun s) := by
  unfold applyFreeRun freeRunStart
  split
  · exact .refl
  · split
    · split
      · exact .refl
      · exact giveTrigger_moves (by simp) (by simp) (by simp) (by simp)
      · exact giveTrigger_moves (by simp) (by simp) (by simp) (by simp)
      · split
        · exact giveTrigger_moves (by simp) (by simp) (by simp) (by simp)
        · exact .refl
    · exact .refl

/-! ### The supervisor (R177 to R191) -/

/-- The pontoon changes its state, with boarding going on if it did. -/
theorem setPontoon_moves {st : PontoonState} {ret : Option PontoonState} {c : PontoonCause} {s : State}
    (h : s.supervisor.boards → Supervisor.boards { s.supervisor with state := st, returnState := ret }) :
    Moves s (setPontoon st ret c s) := by
  have hq : Quiet none s { s with supervisor := { s.supervisor with state := st, returnState := ret } } :=
    { berths := rfl, journal := rfl, setup := rfl, time := rfl, boards := h, held := fun _ _ _ => id }
  exact (hq.post _).moves

theorem enterEgress_moves {changed : Option EgressCause} {s : State} (h : s.supervisor.state ≠ .egress) :
    Moves s (enterEgress changed s) := by
  have hstate : Moves s (setPontoon .egress (some s.supervisor.state) .egressBegin s) :=
    setPontoon_moves fun hb => .inr ⟨rfl, congrArg some (hb.resolve_right fun he => h he.1)⟩
  exact (hstate.trans (postOpt_quiet _ _).moves).trans (foldl_moves laneToEgress_moves _ _)

theorem leaveEgress_moves {c : EgressCause} {s : State} (h : s.supervisor.state = .egress) :
    Moves s (leaveEgress c s) := by
  have hstate : Moves s (setPontoon (s.supervisor.returnState.getD .outOfService) none .egressEnd s) :=
    setPontoon_moves fun hb => .inl (by
      rcases hb with hb | ⟨-, hb⟩
      · rw [h] at hb; cases hb
      · simp [hb])
  exact (hstate.trans ((Quiet.refl none _).post _).moves).trans (foldl_moves laneFromEgress_moves _ _)

theorem demandEvent_moves (before : Bool) (c : EgressCause) (s : State) : Moves s (demandEvent before c s) := by
  have hpost : ∀ n, Moves s (post n s) := fun n => ((Quiet.refl none s).post n).moves
  unfold demandEvent
  split
  · exact .refl
  · split
    · split
      · next h => exact enterEgress_moves (by simp [h])
      · next h => exact enterEgress_moves (by simp [h])
      · exact hpost _
    · split
      · next h => exact leaveEgress_moves h
      · exact hpost _

/-- A change of the emergency line or of the request latch, whichever berths stand. -/
theorem supervisor_moves {s : State} {v : Supervisor} (hset : v.setup = s.supervisor.setup)
    (hst : v.state = s.supervisor.state) (hret : v.returnState = s.supervisor.returnState) :
    Moves s { s with supervisor := v } :=
  Quiet.moves
    { berths := rfl, journal := rfl, setup := hset, time := rfl, held := fun _ _ _ => id
      boards := by unfold Supervisor.boards; rw [hst, hret]; exact id }

theorem setLatch_moves (v : Bool) (s : State) : Moves s (setLatch v s) :=
  (supervisor_moves (v := { s.supervisor with latch := v }) rfl rfl rfl).trans (demandEvent_moves ..)

theorem ownEgressBegin_moves (s : State) : Moves s (ownEgressBegin s).1 := by
  unfold ownEgressBegin egressReply
  split
  · exact .refl
  · exact setLatch_moves ..

theorem ownEgressEnd_moves (s : State) : Moves s (ownEgressEnd s).1 := by
  unfold ownEgressEnd egressReply
  split
  · exact setLatch_moves ..
  · exact .refl

theorem lineRaw_moves (raw : Bool) (s : State) : Moves s (lineRaw raw s) := by
  unfold lineRaw
  dsimp only
  split
  · exact .refl
  · exact supervisor_moves rfl rfl rfl

theorem lineAccepted_moves (s : State) : Moves s (lineAccepted s) := by
  unfold lineAccepted
  split
  · exact (supervisor_moves (v := { s.supervisor with line := ⟨s.supervisor.line.raw, s.supervisor.line.raw, none⟩ })
      rfl rfl rfl).trans (demandEvent_moves ..)
  · exact .refl

/-- Outside IN_SERVICE and EGRESS no berth holds a trip (R26). -/
theorem vacant_of_idle {s : State} (h : ¬(s.supervisor.state = .inService ∨ s.supervisor.state = .egress))
    (hl : ServiceLaw s) (b : BerthIx) : s.berth b = none := by
  by_contra hb
  rcases (hl b hb).2 with hst | ⟨hst, -⟩
  · exact h (.inl hst)
  · exact h (.inr hst)

/-- Outside IN_SERVICE and EGRESS a change that keeps the berths is a move, whatever else it changes (R26). -/
theorem idle_moves {s u : State} (h : ¬(s.supervisor.state = .inService ∨ s.supervisor.state = .egress))
    (hb : u.berths = s.berths) (hj : u.journal = s.journal) : Moves s u :=
  .single (.vacant (fun hl b => (berth_congr hb b).trans (vacant_of_idle h hl b)) (by rw [hj]; exact fun _ => id))

/-- The look at the mark window that a SETUP ends with (R155). -/
theorem window_moves (p : Prop) [Decidable p] (s : State) : Moves s (if p then s else windowExpiry s) := by
  split
  · exact .refl
  · exact windowExpiry_moves s

theorem window_supervisor (p : Prop) [Decidable p] (s : State) :
    (if p then s else windowExpiry s).supervisor = s.supervisor := by
  split <;> simp

theorem setPontoon_state (st : PontoonState) (ret : Option PontoonState) (c : PontoonCause) (s : State) :
    (setPontoon st ret c s).supervisor.state = st := by simp [setPontoon]

theorem ownSetup_moves (r : SetupRequest) (s : State) : Moves s (ownSetup r s).1 := by
  unfold ownSetup
  split
  · exact .refl
  · next hidle =>
    split
    · exact .refl
    · dsimp only
      generalize hl : allLanes.foldl (setupLane s.supervisor.setup.lanesPresent r)
        { s with supervisor := { s.supervisor with setup := setupValues r } } = u
      obtain ⟨hu, hst⟩ : Moves s u ∧ u.supervisor.state = s.supervisor.state := by
        subst hl
        exact ⟨idle_moves hidle (by simp) (by simp), by simp⟩
      clear hl
      by_cases hc : s.supervisor.state = .config
      · have hout : Moves s (setPontoon .outOfService none .setup u) := hu.trans (setPontoon_moves fun hb => by
          simp [Supervisor.boards, hst, hc] at hb)
        have hst' := setPontoon_state .outOfService none .setup u
        simp only [hc, decide_true, if_true, Bool.true_and]
        generalize setPontoon .outOfService none .setup u = v at hout hst' ⊢
        have hwindow := hout.trans (window_moves ((setupValues r).markWindow = s.supervisor.setup.markWindow) v)
        rw [← window_supervisor ((setupValues r).markWindow = s.supervisor.setup.markWindow)] at hst'
        generalize (if (setupValues r).markWindow = s.supervisor.setup.markWindow then v else windowExpiry v) = w
          at hwindow hst' ⊢
        split
        · exact hwindow.trans (enterEgress_moves (by simp [hst']))
        · exact hwindow
      · simp only [hc, decide_false, Bool.false_and, Bool.false_eq_true, if_false]
        exact hu.trans (window_moves ..)

theorem setPontoon_inService_moves (ret : Option PontoonState) (c : PontoonCause) (s : State) :
    Moves s (setPontoon .inService ret c s) := setPontoon_moves fun _ => .inl rfl

theorem ownServiceStart_moves (freeRun : Option ServiceTime) (s : State) : Moves s (ownServiceStart freeRun s).1 := by
  have hservice : Moves s (setPontoon .inService none .start (applyFreeRun freeRun s)) :=
    (applyFreeRun_moves freeRun s).trans (setPontoon_inService_moves ..)
  unfold ownServiceStart
  split
  · exact .refl
  · split
    · exact .refl
    · split
      · exact .refl
      · split
        · exact .refl
        · dsimp only
          exact hservice.trans (foldl_moves laneAtStart_moves allLanes _)

/-- With no present berth active, no berth holds a trip (R26, R185). -/
theorem vacant_of_inactive {s : State} (h : s.activeBerths = []) (hl : ServiceLaw s) (b : BerthIx) : s.berth b = none := by
  by_contra hb
  have hnot : berthStateOf (s.berth b) ≠ .vacant := by
    obtain ⟨t, ht⟩ := Option.ne_none_iff_exists'.mp hb
    rw [ht]
    cases hp : t.phase <;> simp [berthStateOf, TripPhase.toBerthState, hp]
  have hmem : (b, berthStateOf (s.berth b)) ∈ s.activeBerths :=
    List.mem_map_of_mem (List.mem_filter.mpr ⟨mem_allBerths b, by simp [(hl b hb).1, hnot]⟩)
  rw [h] at hmem
  cases hmem

theorem ownServiceStop_moves (s : State) : Moves s (ownServiceStop s).1 := by
  unfold ownServiceStop
  split
  · exact .refl
  · split
    · exact .refl
    · next hactive =>
      refine .single (.vacant (fun hl b => ?_) (by simp))
      exact (berth_congr (by simp) b).trans (vacant_of_inactive (not_not.mp hactive) hl b)

theorem ownRestart_moves (s : State) : Moves s (ownRestart s).1 := by
  by_cases h : s.supervisor.state = .inService ∨ s.supervisor.state = .egress
  · rw [ownRestart, if_pos h]
    exact .refl
  · exact idle_moves h (by simp) (by simp)

theorem ownJournalRelease_moves (ref : Nat) (s : State) : Moves s (ownJournalRelease ref s).1 := by
  unfold ownJournalRelease
  split
  · exact .refl
  · split
    · exact .refl
    · next h =>
      split
      · exact .refl
      · exact .single (.releases h)

/-! ### Requests and events -/

theorem owner_moves (q : Request) (s : State) : Moves s (owner q s).1 := by
  cases q with
  | setup r => exact ownSetup_moves r s
  | serviceStart t => exact ownServiceStart_moves t s
  | serviceStop => exact ownServiceStop_moves s
  | egressBegin => exact ownEgressBegin_moves s
  | egressEnd => exact ownEgressEnd_moves s
  | restart => exact ownRestart_moves s
  | timeMark t => exact ownTimeMark_moves t s
  | berthOpen r => exact ownBerthOpen_moves r s
  | berthClose b => exact ownBerthClose_moves b s
  | berthAmend r => exact ownBerthAmend_moves r s
  | laneAssign l b => exact ownLaneAssign_moves l b s
  | laneReturn l => exact ownLaneReturn_moves l s
  | present l c => exact ownPresent_moves l c s
  | journalRelease ref => exact ownJournalRelease_moves ref s
  | _ => exact moves_of_frames (by simp [owner]) (by simp [owner]) (by simp [owner]) (by simp [owner]) (by simp [owner])

theorem judgeRequest_moves (q : Request) (s : State) : Moves s (judgeRequest q s).1 := by
  unfold judgeRequest
  split
  · exact .refl
  · exact owner_moves q s

theorem Moves.link {s u : State} (h : Moves s u) (f : Link → Link) : Moves s (u.changeLink f) :=
  h.trans (moves_of_frames rfl rfl rfl rfl rfl)

theorem Moves.count {s u : State} (h : Moves s u) (f : LinkStats → LinkStats) : Moves s (u.count f) := h.link _

theorem Moves.framer {s u : State} (h : Moves s u) (f : Framer) : Moves s (u.setFramer f) := h.link _

theorem takeRequest_moves (q : RequestFrame) (s : State) : Moves s (takeRequest q s) := by
  have htaken : Moves s (countTaken s) := Moves.count .refl _
  unfold takeRequest
  exact (htaken.trans (judgeRequest_moves q.request _)).link _

theorem completeRequest_moves (q : RequestFrame) (s : State) : Moves s (completeRequest q s) := by
  unfold completeRequest
  split
  · exact Moves.link .refl _
  · split
    · exact Moves.link .refl _
    · exact takeRequest_moves ..

theorem startAnswer_moves (a : Answer) (s : State) : Moves s (startAnswer a s) := by
  unfold startAnswer
  dsimp only
  split
  · exact Moves.link .refl _
  · exact (Moves.link (Moves.link .refl _) _).trans (takeRequest_moves ..)

theorem endOfEvent_moves (s : State) : Moves s (endOfEvent s) := by
  unfold endOfEvent arbitrate
  split
  · split
    · exact startAnswer_moves ..
    · split
      · exact .refl
      · exact Moves.link .refl _
  · exact .refl

theorem discardFrame_moves (s : State) : Moves s (discardFrame s) := (Moves.framer .refl _).count _

theorem frameGap_moves (s : State) : Moves s (frameGap s) := by
  unfold frameGap
  split
  · exact discardFrame_moves s
  · exact .refl

theorem frameWhole_moves (stored : List Byte) (s : State) : Moves s (frameWhole stored s) := by
  have hidle : Moves s (s.setFramer Framer.idle) := Moves.framer .refl _
  unfold frameWhole
  dsimp only
  split
  · exact hidle.trans (completeRequest_moves ..)
  · exact hidle.count _

theorem frameByte_moves (b : Byte) (s : State) : Moves s (frameByte b s) := by
  unfold frameByte
  dsimp only
  split
  · exact discardFrame_moves s
  · split
    · exact frameWhole_moves ..
    · exact Moves.framer .refl _

theorem receive_moves (c : Character) (s : State) : Moves s (receive c s) := by
  have hgap := frameGap_moves s
  unfold receive huntCharacter
  dsimp only
  split
  · split
    · exact hgap.framer _
    · exact hgap.count _
  · split
    · exact hgap.trans (discardFrame_moves _)
    · exact hgap.trans (frameByte_moves ..)

theorem transmitEnd_moves (s : State) : Moves s (transmitEnd s) := by
  unfold transmitEnd
  split
  · exact .refl
  · exact Moves.link .refl _

theorem powerOnReset_moves (pins : Pins) (s : State) : Moves s (powerOnReset pins s) := by
  refine .single (.vacant (fun _ b => ?_) nofun)
  fin_cases b <;> rfl

theorem request_moves (tag : Byte) (q : Request) (s : State) : Moves s (request tag q s) :=
  (completeRequest_moves ..).trans (endOfEvent_moves _)

/-- Every command is a chain of moves. -/
theorem exec_moves {c : Instr} {s t : State} (h : exec c s = .next t) : Moves s t := by
  cases c
  all_goals obtain rfl := Host.Outcome.next.inj h
  case powerOnReset pins => exact powerOnReset_moves pins s
  case receivedCharacter c => exact (receive_moves c s).trans (endOfEvent_moves _)
  case frameGapTimeout => exact (frameGap_moves s).trans (endOfEvent_moves _)
  case transmitFrameEnd => exact (transmitEnd_moves s).trans (endOfEvent_moves _)
  case beamRawChange i a b => exact (beamRaw_moves i a b s).trans (endOfEvent_moves _)
  case beamAcceptedChange i => exact (beamAccepted_moves i s).trans (endOfEvent_moves _)
  case barrierSenseChange i o => exact (senseChange_moves i o s).trans (endOfEvent_moves _)
  case barrierTimerExpiry i => exact (barrierExpiry_moves i s).trans (endOfEvent_moves _)
  case passageTimerExpiry i => exact (passageExpiry_moves i s).trans (endOfEvent_moves _)
  case clearTimerExpiry i => exact (clearExpiry_moves i s).trans (endOfEvent_moves _)
  case lampPulseEnd i => exact (pulseEnd_moves i s).trans (endOfEvent_moves _)
  case serviceTimeAdvance => exact (serviceAdvance_moves s).trans (endOfEvent_moves _)
  case markWindowExpiry => exact (windowExpiry_moves s).trans (endOfEvent_moves _)
  case emergencyLineRawChange a => exact (lineRaw_moves a s).trans (endOfEvent_moves _)
  case emergencyLineAcceptedChange => exact (lineAccepted_moves s).trans (endOfEvent_moves _)
  all_goals exact request_moves ..

theorem tick_moves (s : State) : Moves s (tick s) :=
  moves_of_frames (by simp [tick]) (by simp [tick]) (by simp [tick]) (by simp [tick]) (by simp [tick])

/-- Every step is a chain of moves. -/
theorem step_moves {s t : State} (h : step s = .next t) : Moves s t := by
  unfold step at h
  split at h
  · obtain rfl := Host.Outcome.next.inj h
    exact tick_moves s
  · next c rest _ =>
    have hrest : Moves s { s with pending := rest } :=
      (Quiet.of_frames (s := s) (u := { s with pending := rest }) rfl rfl rfl rfl rfl).moves
    exact hrest.trans (exec_moves h)

end Sys2Proof.Machine
end

section
/-! SUPPORT. Claims about each trip held and each stored record that every move keeps, from how the moves change one trip; with them the
laws of boarding in service (R26), of the fill level (R8, R9) and of the counts (R6, R23, R170). -/

namespace Sys2Proof.Machine

open Sys2Proof

/-! ### Changes of one trip -/

/-- The changes of a trip after which its fill level is recomputed (R8, R10 to R13, R17). -/
inductive TripEdit : (Trip → Trip) → Prop
  | report {fwd : Bool} {f : Trip → Trip} : LaneReport fwd f → TripEdit f
  | grant (kind : AdmissionKind) (charge generation : Nat) : TripEdit (Trip.takeHold kind charge generation)
  | amend (r : AmendRequest) : TripEdit (Trip.amend r)

/-- A trip whose refusals counter rises (R14). -/
def Trip.refuse (t : Trip) : Trip := { t with counts := { t.counts with refusals := bump t.counts.refusals } }

/-- A claim `p` about each trip held, by its berth and the supervisor, and a claim `q` about each record, that every change of a trip keeps. -/
structure TripRules (p : Supervisor → BerthIx → Trip → Prop) (q : TripRecord → Prop) : Prop where
  supervised : ∀ {v w b t}, w.setup = v.setup → (v.boards → w.boards) → p v b t → p w b t
  records : ∀ {v b t r}, p v b t → t.record = some r → q r
  closes : ∀ {v b t} (cause now), t.phase = .opened → p v b t → p v b (t.closedBy cause now)
  departs : ∀ {v b t} (now), p v b t → p v b (t.departedAt b now)
  edits : ∀ {v b t f}, TripEdit f → p v b t → p v b ((f t).refill v.setup.defaultMargin)
  refuses : ∀ {v b t}, p v b t → p v b t.refuse
  opens : ∀ {s b r}, openInRange r = true → s.supervisor.state = .inService → b.val < s.supervisor.setup.berthsPresent →
    p s.supervisor b (openedTrip r s)

/-- Both claims hold in a state. -/
def Holds (p : Supervisor → BerthIx → Trip → Prop) (q : TripRecord → Prop) (s : State) : Prop :=
  (∀ b t, s.berth b = some t → p s.supervisor b t) ∧ ∀ r ∈ s.journal.records, q r

section
variable {p : Supervisor → BerthIx → Trip → Prop} {q : TripRecord → Prop} {s u : State}

/-- One berth is replaced, and records are stored. -/
theorem Holds.set {b : BerthIx} {x : Berth} (h : Holds p q s) (hv : u.supervisor = s.supervisor)
    (hb : u.berths = s.berths.set b x) (hx : ∀ t, x = some t → p s.supervisor b t)
    (hj : ∀ r ∈ u.journal.records, r ∈ s.journal.records ∨ q r) : Holds p q u := by
  refine ⟨fun c t ht => ?_, fun r hr => (hj r hr).elim (h.2 r) id⟩
  rw [State.berth, hb, PerBerth.get_set] at ht
  rw [hv]
  split at ht
  · next hc => exact hc ▸ hx t ht
  · exact h.1 c t ht

theorem Holds.congr (h : Holds p q s) (hv : u.supervisor = s.supervisor) (hb : u.berths = s.berths)
    (hj : u.journal.records = s.journal.records) : Holds p q u :=
  ⟨fun b t ht => hv ▸ h.1 b t (berth_congr hb b ▸ ht), fun r hr => h.2 r (hj ▸ hr)⟩

theorem Holds.calm {o : Option BerthIx} (hr : TripRules p q) (h : Holds p q s) (hc : Calm o s u) : Holds p q u :=
  ⟨fun b t ht => hr.supervised hc.setup hc.boards (h.1 b t (berth_congr hc.berths b ▸ ht)), hc.journal ▸ h.2⟩

theorem Holds.settle (hr : TripRules p q) (h : Holds p q s) (b : BerthIx) : Holds p q (settle b s) := by
  rcases settle_cases b s with ⟨he, -⟩ | ⟨t, ht, -, ⟨hb, hj⟩ | ⟨hb, hj⟩⟩
  · rw [he]
    exact h
  · refine h.set (by simp) hb (fun _ hx => nomatch hx) fun r hmem => ?_
    rw [hj, List.mem_append, List.mem_singleton] at hmem
    refine hmem.imp_right fun e => ?_
    rw [e]
    exact hr.records (hr.departs s.clock.time (h.1 b t ht)) rfl
  · refine h.set (by simp) hb (fun u hu => ?_) (by rw [hj]; exact fun _ => .inl)
    cases hu
    exact hr.departs _ (h.1 b t ht)

theorem Holds.closeBerth (hr : TripRules p q) (h : Holds p q s) {b : BerthIx} {t : Trip} (ht : s.berth b = some t)
    (hp : t.phase = .opened) (cause : CloseCause) : Holds p q (closeBerth b cause s) := by
  rw [closeBerth_eq cause ht]
  refine Holds.settle hr (h.set (closed_supervisor ..) (closed_berths ..) (fun u hu => ?_) (by simp +contextual)) b
  cases hu
  exact hr.closes _ _ hp (h.1 b t ht)

theorem Holds.closeWhenFull (hr : TripRules p q) (h : Holds p q s) (b : BerthIx) : Holds p q (closeWhenFull b s) := by
  rcases closeWhenFull_eq b s with ⟨⟨t, ht, hp, -⟩, he⟩ | ⟨-, he⟩
  · rw [he]
    exact h.closeBerth hr ht hp _
  · rw [he]
    exact h

theorem Holds.closeAtDeparture (hr : TripRules p q) (h : Holds p q s) (b : BerthIx) : Holds p q (closeAtDeparture b s) := by
  rcases closeAtDeparture_eq b s with ⟨⟨t, ht, hp, -⟩, he⟩ | ⟨-, he⟩
  · rw [he]
    exact h.closeBerth hr ht hp _
  · rw [he]
    exact h

theorem recomputeFill_changeTrip_berths (b : BerthIx) (f : Trip → Trip) (s : State) :
    (recomputeFill b (changeTrip b f s)).berths =
      s.berths.set b ((s.berth b).map fun t => (f t).refill s.supervisor.setup.defaultMargin) := by
  rw [recomputeFill_berths, changeTrip_berth_self, Option.map_map]
  exact PerBerth.set_set ..

theorem Holds.edit (hr : TripRules p q) (h : Holds p q s) {f : Trip → Trip} (hf : TripEdit f) (b : BerthIx) :
    Holds p q (recomputeFill b (changeTrip b f s)) := by
  refine h.set (by simp) (recomputeFill_changeTrip_berths b f s) (fun u hu => ?_) (by simp +contextual)
  obtain ⟨t, ht, rfl⟩ := Option.map_eq_some_iff.mp hu
  exact hr.edits hf (h.1 b t ht)

theorem Holds.tripEvent (hr : TripRules p q) (h : Holds p q s) {fwd : Bool} {f : Trip → Trip} (hf : TripEdit f)
    (b : BerthIx) : Holds p q (tripEvent b fwd f s) := by
  unfold Sys2Proof.Machine.tripEvent
  split
  · exact h
  · split
    · exact h
    · refine Holds.settle hr ?_ b
      split
      · exact (h.edit hr hf b).closeWhenFull hr b
      · exact h.edit hr hf b

theorem storeRecord_berths (b : BerthIx) (r : TripRecord) (s : State) :
    (storeRecord b r s).berths = s.berths.set b none := by
  simp only [storeRecord, postBerthState_berths, changeBerth_eq_rescan, rescanLamps_berths, putBerth_berths, post_berths]

theorem storeRecord_records (b : BerthIx) (r : TripRecord) (s : State) :
    (storeRecord b r s).journal.records = s.journal.records ++ [r] := by simp [storeRecord]

/-- Serving the first waiting berth stores the record that its trip holds, and leaves the berth VACANT (R174). -/
theorem serveWaiting_cases (s : State) :
    ((serveWaiting s).berths = s.berths ∧ (serveWaiting s).journal.records = s.journal.records) ∨
    ∃ b t r, s.berth b = some t ∧ t.record = some r ∧ (serveWaiting s).berths = s.berths.set b none ∧
      (serveWaiting s).journal.records = s.journal.records ++ [r] := by
  unfold serveWaiting
  split
  · exact .inl ⟨rfl, rfl⟩
  · dsimp only
    split
    · exact .inl ⟨rfl, rfl⟩
    · next t ht =>
      split
      · exact .inl ⟨rfl, rfl⟩
      · next r hrec => exact .inr ⟨_, t, r, ht, hrec, storeRecord_berths .., storeRecord_records ..⟩

theorem Holds.serveWaiting (hr : TripRules p q) (h : Holds p q s) : Holds p q (serveWaiting s) := by
  rcases serveWaiting_cases s with ⟨hb, hj⟩ | ⟨b, t, r, ht, hrec, hb, hj⟩
  · exact h.congr (by simp) hb hj
  · refine h.set (by simp) hb (fun _ hx => nomatch hx) fun r' hmem => ?_
    rw [hj, List.mem_append, List.mem_singleton] at hmem
    refine hmem.imp_right fun e => ?_
    rw [e]
    exact hr.records (h.1 b t ht) hrec

theorem giveTrigger_eq (s : State) :
    giveTrigger s = (freeOrder s.triggerTasks s).1.foldl runTask (freeOrder s.triggerTasks s).2 := rfl

theorem Holds.giveTrigger (hr : TripRules p q) (h : Holds p q s) : Holds p q (giveTrigger s) := by
  have hfold : ∀ (l : List TriggerTask) (s : State), Holds p q s → Holds p q (l.foldl runTask s) := fun l => by
    induction l with
    | nil => exact fun _ h => h
    | cons x l ih =>
      refine fun s h => ih _ ?_
      cases x with
      | berth b => exact h.closeAtDeparture hr b
      | tariff => exact h.congr (effectiveTrigger_supervisor s) (effectiveTrigger_berths s) (by rw [runTask, effectiveTrigger_journal])
  rw [giveTrigger_eq]
  refine hfold _ _ ?_
  exact h.congr (by simp) (by simp) (by simp)

theorem set_berth {b : BerthIx} {x : Berth} {s : State} (h : s.berth b = x) : s.berths.set b x = s.berths := by
  subst h
  exact PerBerth.set_get ..

theorem countRefusal_berths (b : BerthIx) (s : State) :
    (countRefusal b s).berths = s.berths.set b ((s.berth b).map fun t => if t.phase = .opened then t.refuse else t) := by
  unfold countRefusal
  cases hb : s.berth b with
  | none => exact (set_berth hb).symm
  | some t =>
    by_cases hp : t.phase = .opened
    · simp only [hp, if_true, Option.map_some]
      rw [changeTrip, changeBerth_eq_rescan, rescanLamps_berths, putBerth_berths, hb]
      rfl
    · simp only [hp, if_false, Option.map_some]
      exact (set_berth hb).symm

/-- Every move keeps claims that every change of a trip keeps, while trips stand only in service (R26). -/
theorem Holds.move (hr : TripRules p q) (h : Holds p q s) (hl : ServiceLaw s) (hm : Move s u) : Holds p q u := by
  cases hm with
  | quiet hq => exact h.calm hr hq.toCalm
  | settles hq => exact (h.calm hr hq.toCalm).settle hr _
  | reports hq hf => exact (h.calm hr hq.toCalm).tripEvent hr (.report hf) _
  | grants b kind charge generation => exact h.edit hr (.grant ..) b
  | refuses b =>
    refine h.set (by simp) (countRefusal_berths b s) (fun u hu => ?_) (by simp +contextual)
    obtain ⟨t, ht, rfl⟩ := Option.map_eq_some_iff.mp hu
    split
    · exact hr.refuses (h.1 b t ht)
    · exact h.1 b t ht
  | opens hin hst hb hv =>
    rw [openBerth_eq]
    refine Holds.closeAtDeparture hr (Holds.closeWhenFull hr (h.set (justOpened_supervisor ..) (justOpened_berths ..)
      (fun u hu => ?_) (by simp +contextual)) _) _
    cases hu
    exact hr.opens hin hst hb
  | closes cause ht hp => exact h.closeBerth hr ht hp cause
  | amends r ht hp => exact ((h.edit hr (.amend r) _).closeWhenFull hr _).closeAtDeparture hr _
  | triggers hc => exact (h.calm hr hc).giveTrigger hr
  | releases hrec =>
    refine Holds.serveWaiting hr ⟨h.1, fun r hmem => h.2 r ?_⟩
    rw [hrec]
    exact List.mem_cons_of_mem _ hmem
  | vacant hv hj => exact ⟨fun b t ht => absurd ht (by simp [hv hl b]), fun r hmem => h.2 r (hj r hmem)⟩

end

/-! ### Boarding in service (R26) -/

/-- A berth with a trip is present, and boarding goes on. -/
def InService (v : Supervisor) (b : BerthIx) (_ : Trip) : Prop := b.val < v.setup.berthsPresent ∧ v.boards

theorem inService_rules : TripRules InService fun _ => True where
  supervised hset hb := And.imp (hset ▸ id) hb
  records _ _ := trivial
  closes _ _ _ := id
  departs _ := id
  edits _ := id
  refuses := id
  opens _ hst hb := ⟨hb, .inl hst⟩

theorem serviceLaw_iff (s : State) : ServiceLaw s ↔ Holds InService (fun _ => True) s := by
  simp only [ServiceLaw, Holds, InService, Option.ne_none_iff_exists', State.berthPresent, decide_eq_true_eq, Supervisor.boards]
  constructor
  · exact fun h => ⟨fun b t ht => h b ⟨t, ht⟩, fun _ _ => trivial⟩
  · rintro h b ⟨t, ht⟩
    exact h.1 b t ht

theorem serviceLaw_move {s u : State} (hm : Move s u) (h : ServiceLaw s) : ServiceLaw u :=
  (serviceLaw_iff u).mpr (((serviceLaw_iff s).mp h).move inService_rules h hm)

/-- Every step keeps claims that every change of a trip keeps, while trips stand only in service (R26). -/
theorem Holds.step {p : Supervisor → BerthIx → Trip → Prop} {q : TripRecord → Prop} {s t : State} (hr : TripRules p q)
    (h : Holds p q s) (hl : ServiceLaw s) (hs : step s = .next t) : Holds p q t :=
  ((step_moves hs).keep (p := fun s => Holds p q s ∧ ServiceLaw s)
    (fun hm hu => ⟨hu.1.move hr hu.2 hm, serviceLaw_move hm hu.2⟩) ⟨h, hl⟩).1

/-! ### The fill level (R8, R9) -/

/-- What the edits of a trip leave alone. -/
theorem TripEdit.keeps {f : Trip → Trip} (h : TripEdit f) (t : Trip) :
    (f t).phase = t.phase ∧ (f t).fill = t.fill ∧ (f t).record = t.record ∧ (f t).flags.near = t.flags.near ∧
      (f t).flags.full = t.flags.full ∧ (f t).flags.overfull = t.flags.overfull := by
  cases h with
  | report hf => rw [hf.keeps t]; exact ⟨rfl, rfl, rfl, rfl, rfl, rfl⟩
  | grant kind charge generation => exact ⟨rfl, rfl, rfl, rfl, rfl, rfl⟩
  | amend r => exact ⟨rfl, rfl, rfl, rfl, rfl, rfl⟩

theorem latch_reached (l : FillLevel) (f : TripFlags) : (f.latch l).reached l := by
  cases l <;> simp [TripFlags.latch, TripFlags.reached]

theorem reached_congr {f g : TripFlags} (hn : f.near = g.near) (hf : f.full = g.full) (ho : f.overfull = g.overfull)
    (l : FillLevel) : f.reached l ↔ g.reached l := by
  cases l <;> simp [TripFlags.reached, hn, hf, ho]

/-- The fill level of a boarding trip is the one its numbers give, with its flag latched. -/
def Filled (v : Supervisor) (_ : BerthIx) (t : Trip) : Prop :=
  t.phase ≠ .departed → t.fill = t.levelOf v.setup.defaultMargin ∧ t.flags.reached t.fill

theorem filled_rules : TripRules Filled fun _ => True where
  supervised hset _ h := by simpa only [Filled, hset] using h
  records _ _ := trivial
  closes _ _ hp h _ := h (by simp [hp])
  departs _ _ hd := absurd rfl hd
  edits {v b t f} hf h hd := by
    obtain ⟨hphase, hfill, -, hnear, hfull, hover⟩ := hf.keeps t
    rw [refill_phase, hphase] at hd
    refine ⟨by rw [refill_fill, Trip.levelOf, Trip.levelOf, refill_context, refill_counts], ?_⟩
    unfold Trip.refill
    split
    · rw [reached_congr hnear hfull hover, hfill]
      exact (h hd).2
    · exact latch_reached ..
  refuses h := h
  opens _ _ _ _ := ⟨rfl, latch_reached ..⟩

theorem fillLaw_iff (s : State) : FillLaw s ↔ Holds Filled (fun _ => True) s :=
  ⟨fun h => ⟨h, fun _ _ => trivial⟩, fun h => h.1⟩

/-- Settles O30: the level of a trip is computed afresh by every change of its numbers (`filled_rules`). -/
theorem fillLevelFollowsTheCounts : Obligations.FillLevelFollowsTheCounts := by
  refine ⟨fun capacity onboard holds margin => ?_, fun s t hf hl _ hs => ?_⟩
  · unfold fillLevel freePlaces
    refine ⟨fun h => if_pos h, fun h h' => ?_, fun h h' h'' => ?_, fun h => ?_⟩
    · rw [if_neg (by omega), if_pos (by omega)]
    · rw [if_neg (by omega), if_neg (by omega), if_pos (by omega)]
    · rw [if_neg (by omega), if_neg (by omega), if_neg (by omega)]
  · exact (fillLaw_iff t).mpr (((fillLaw_iff s).mp hf).step filled_rules hl hs)

end Sys2Proof.Machine
end

section
/-! SUPPORT. The counts of a trip and of its records stay within their ranges (R6, R23, R170). -/

namespace Sys2Proof.Machine

open Sys2Proof

/-! ### Saturating counts -/

theorem satAdd_le (limit n k : Nat) : satAdd limit n k ≤ limit := min_le_left ..

theorem bump_le (n : Nat) : bump n ≤ 65535 := satAdd_le ..

/-- The counts are within their ranges, and an onboard count that has saturated stands at its limit (R6, R7). -/
def Counted (c : Counts) (f : TripFlags) : Prop := c.inRange ∧ f.saturate c

/-- The two conditions read of the flags only whether onboard has saturated, and nothing of holds. -/
theorem Counted.congr {c c' : Counts} {f f' : TripFlags} (h : Counted c f) (hr : c'.inRange) (hc : c'.onboard = c.onboard)
    (hu : f'.underflow = f.underflow) (ho : f'.overflow = f.overflow) : Counted c' f' := by
  refine ⟨hr, ?_⟩
  unfold TripFlags.saturate
  rw [hc, hu, ho]
  exact h.2

theorem counted_boardOne {t : Trip} (h : Counted t.counts t.flags) : Counted t.boardOne.counts t.boardOne.flags := by
  obtain ⟨⟨hon, hrest⟩, hover, hunder⟩ := h
  rw [boardOne_eq]
  have hon' : t.boarded ≤ 999 := by unfold Trip.boarded; split <;> omega
  refine ⟨⟨hon', hrest⟩, fun ho => ?_, fun hu => ?_⟩
  · have hlimit : t.counts.onboard = 999 := by
      rcases (Bool.or_eq_true _ _).mp ho with ho | ho
      · exact hover ho
      · exact Nat.le_antisymm hon (of_decide_eq_true ho)
    simp [Trip.boarded, hlimit]
  · simp [Trip.boarded, show t.flags.underflow = true from hu, hunder hu]

theorem counted_leaveOne {t : Trip} (h : Counted t.counts t.flags) : Counted t.leaveOne.counts t.leaveOne.flags := by
  obtain ⟨⟨hon, hrest⟩, hover, hunder⟩ := h
  rw [leaveOne_eq]
  have hon' : t.left ≤ 999 := by unfold Trip.left; split <;> omega
  refine ⟨⟨hon', hrest⟩, fun ho => ?_, fun hu => ?_⟩
  · simp [Trip.left, show t.flags.overflow = true from ho, hover ho]
  · have hlimit : t.counts.onboard = 0 := by
      rcases (Bool.or_eq_true _ _).mp hu with hu | hu
      · exact hunder hu
      · exact of_decide_eq_true hu
    simp [Trip.left, hlimit]

/-- A report keeps the counts within their ranges: what it raises saturates, and onboard steps by the rules above. -/
theorem LaneReport.counted {fwd : Bool} {f : Trip → Trip} (hf : LaneReport fwd f) {t : Trip} (h : Counted t.counts t.flags) :
    Counted (f t).counts (f t).flags := by
  have hr := h.1
  unfold Counts.inRange at hr
  cases hf with
  | consumption => exact counted_boardOne (h.congr (by simp [Counts.inRange, bump_le, hr]) rfl rfl rfl)
  | void => exact h.congr (by simp [Trip.voidHold, Counts.inRange, bump_le, hr]) rfl rfl rfl
  | passage m eg =>
    cases m with
    | forward => cases eg <;> exact counted_boardOne (h.congr (by simp [Counts.inRange, bump_le, hr]) rfl rfl rfl)
    | reverse => cases eg <;> exact counted_leaveOne (h.congr (by simp [Counts.inRange, bump_le, hr]) rfl rfl rfl)
    | balk => exact h
    | ambiguous => exact h.congr (by simp [Trip.countPassage, Counts.inRange, bump_le, hr]) rfl rfl rfl

/-- An admission keeps the counts within their ranges (R10). -/
theorem inRange_admitted {c : Counts} (h : c.inRange) (kind : AdmissionKind) (charge : Nat) : (c.admitted kind charge).inRange := by
  have hr : satAdd Config.revenueLimit c.revenue charge ≤ 4294967295 := satAdd_le ..
  unfold Counts.inRange at h
  cases kind <;> simp [Counts.admitted, Counts.inRange, bump_le, hr, h]

@[simp] theorem admitted_onboard (kind : AdmissionKind) (charge : Nat) (c : Counts) :
    (c.admitted kind charge).onboard = c.onboard := by cases kind <;> rfl

@[simp] theorem admitted_holds (kind : AdmissionKind) (charge : Nat) (c : Counts) :
    (c.admitted kind charge).holds = c.holds + 1 := by cases kind <;> rfl

theorem TripEdit.counted {f : Trip → Trip} (hf : TripEdit f) {t : Trip} (h : Counted t.counts t.flags) :
    Counted (f t).counts (f t).flags := by
  cases hf with
  | report hf => exact hf.counted h
  | grant kind charge generation => exact h.congr (inRange_admitted h.1 ..) (admitted_onboard ..) rfl rfl
  | amend r => exact h

/-! ### The law of the counts -/

/-- A trip's counts, and those of the record it holds. -/
def CountedTrip (_ : Supervisor) (_ : BerthIx) (t : Trip) : Prop :=
  Counted t.counts t.flags ∧ ∀ r, t.record = some r → Counted r.counts r.flags

/-- A stored record's counts. -/
def CountedRecord (r : TripRecord) : Prop := Counted r.counts r.flags

theorem refill_counted {m : Nat} {t : Trip} (h : Counted t.counts t.flags) : Counted (t.refill m).counts (t.refill m).flags := by
  unfold Trip.refill
  split
  · exact h
  · exact h.congr h.1 rfl (latch_underflow ..) (latch_overflow ..)

/-- The counts of a trip that opens: aboard at open, clamped to a capacity of at most 600, and nothing else (R4, R5). -/
theorem openedTrip_counted {r : OpenRequest} (h : openInRange r = true) (s : State) :
    Counted (openedTrip r s).counts (openedTrip r s).flags := by
  obtain ⟨-, -, -, -, -, -, hcap, -⟩ := (openInRange_iff r).mp h
  have hon : min r.aboard r.capacity ≤ 999 := by omega
  simp [Counted, Counts.inRange, TripFlags.saturate, openedTrip, Counts.zero, TripFlags.clear, hon]

theorem countedTrip_rules : TripRules CountedTrip CountedRecord where
  supervised _ _ h := h
  records h hr := h.2 _ hr
  closes _ _ _ h := h
  departs _ h := ⟨h.1, fun r hr => by cases hr; exact h.1⟩
  edits {v b t f} hf h := by
    refine ⟨refill_counted (hf.counted h.1), fun r hr => h.2 r ?_⟩
    obtain ⟨-, -, hrecord, -⟩ := hf.keeps t
    rwa [refill_record, hrecord] at hr
  refuses h := by
    have hr := h.1.1
    unfold Counts.inRange at hr
    exact ⟨h.1.congr (by simp [Trip.refuse, Counts.inRange, bump_le, hr]) rfl rfl rfl, h.2⟩
  opens hin _ _ := ⟨openedTrip_counted hin _, nofun⟩

theorem countLaw_iff (s : State) : CountLaw s ↔ Holds CountedTrip CountedRecord s := Iff.rfl

/-- Holds is at most 8 where it counts the lanes that hold a hold (R29). -/
theorem holds_le {s : State} {b : BerthIx} {t : Trip} (hl : HoldLaw s) (ht : s.berth b = some t) : t.counts.holds ≤ 8 := by
  have hcount : t.counts.holds = s.lanesHolding b := by
    have h := hl.1 b
    rwa [ht] at h
  rw [hcount]
  exact List.length_filter_le ..

/-- Settles O37: every change of a trip keeps its counts in range (`countedTrip_rules`). -/
theorem countsStayInRange : Obligations.CountsStayInRange :=
  ⟨fun s t hc hl _ _ hs => (countLaw_iff t).mpr (((countLaw_iff s).mp hc).step countedTrip_rules hl hs),
    fun _ _ _ hl ht => holds_le hl ht⟩

end Sys2Proof.Machine
end

section
/-! SUPPORT. The closing conditions are acted on (R19, R20, R22): what the operations of a berth make of its own conditions, and that they
leave those of the other berths alone. -/

namespace Sys2Proof.Machine

open Sys2Proof

/-! ### The conditions of one berth -/

/-- No OPEN trip at this berth stands past its departure (R19). -/
def NotDue (s : State) (b : BerthIx) : Prop :=
  ∀ t, s.berth b = some t → t.phase = .opened → t.departureReached s.clock.time = false

/-- No OPEN trip at this berth stands full with the mechanism set (R20). -/
def NotFull (s : State) (b : BerthIx) : Prop := ∀ t, s.berth b = some t → t.phase = .opened → t.fullUp = false

/-- No CLOSING trip at this berth stands settled (R22). -/
def NotSettled (s : State) (b : BerthIx) : Prop := ∀ t, s.berth b = some t → t.phase = .closing → s.settled b t = false

/-- The closing conditions of a berth have been acted on. -/
structure ActedOn (s : State) (b : BerthIx) : Prop where
  due : NotDue s b
  full : NotFull s b
  settled : NotSettled s b

theorem fullUp_eq_false (t : Trip) :
    t.fullUp = false ↔ ¬(t.context.closeWhenFull = true ∧ t.context.capacity ≤ t.counts.onboard) := by
  simp [Trip.fullUp]

theorem closingLaw_iff (s : State) : ClosingLaw s ↔ ∀ b, ActedOn s b := by
  constructor
  · exact fun h b => ⟨fun t ht hp => ((h b t ht).1 hp).1, fun t ht hp => (fullUp_eq_false t).mpr ((h b t ht).1 hp).2,
      fun t ht => (h b t ht).2⟩
  · exact fun h b t ht => ⟨fun hp => ⟨(h b).due t ht hp, (fullUp_eq_false t).mp ((h b).full t ht hp)⟩, (h b).settled t ht⟩

theorem ActedOn.of_vacant {s : State} {b : BerthIx} (h : s.berth b = none) : ActedOn s b where
  due t ht := by rw [h] at ht; cases ht
  full t ht := by rw [h] at ht; cases ht
  settled t ht := by rw [h] at ht; cases ht

/-! ### What another berth's change leaves alone -/

section
variable {s u : State} {b c : BerthIx}

theorem NotDue.congr (h : NotDue s b) (hb : u.berth b = s.berth b) (ht : u.clock.time = s.clock.time) : NotDue u b :=
  fun t hu hp => ht ▸ h t (hb ▸ hu) hp

theorem NotFull.congr (h : NotFull s b) (hb : u.berth b = s.berth b) : NotFull u b := fun t hu hp => h t (hb ▸ hu) hp

/-- A berth that its lanes go on to hold back has not settled. -/
theorem settled_mono (hh : ∀ i, s.holdsBack b i = true → u.holdsBack b i = true) {t : Trip} (h : s.settled b t = false) :
    u.settled b t = false := by
  rw [Bool.eq_false_iff, Ne, settled_iff] at h ⊢
  refine fun ⟨hz, hu⟩ => h ⟨hz, fun i => ?_⟩
  rw [Bool.eq_false_iff]
  exact fun hi => Bool.false_ne_true ((hu i).symm.trans (hh i hi))

theorem NotSettled.congr (h : NotSettled s b) (hb : u.berth b = s.berth b)
    (hh : ∀ i, s.holdsBack b i = true → u.holdsBack b i = true) : NotSettled u b :=
  fun t hu hp => settled_mono hh (h t (hb ▸ hu) hp)

/-- A berth whose unit, time and lanes stand. -/
theorem ActedOn.congr (h : ActedOn s b) (hb : u.berth b = s.berth b) (hl : u.lanes = s.lanes) (ht : u.clock = s.clock) :
    ActedOn u b where
  due := h.due.congr hb (by rw [ht])
  full := h.full.congr hb
  settled := h.settled.congr hb fun i hi => by rwa [holdsBack_congr hl]

theorem ActedOn.quiet {o : Option BerthIx} (h : ActedOn s b) (hq : Quiet o s u) (hb : o ≠ some b) : ActedOn u b where
  due := h.due.congr (berth_congr hq.berths b) hq.time
  full := h.full.congr (berth_congr hq.berths b)
  settled := h.settled.congr (berth_congr hq.berths b) (hq.held b hb)

/-! ### What the operations of a berth make of its own conditions -/

theorem notSettled_settle (b : BerthIx) (s : State) : NotSettled (settle b s) b := fun t ht hp => by
  obtain ⟨he, hs⟩ := settle_settled ht hp
  rwa [he]

/-- The test of settlement leaves an OPEN berth as it was. -/
theorem settle_opened {t : Trip} (ht : (settle b s).berth b = some t) (hp : t.phase = .opened) : settle b s = s := by
  rcases settle_cases b s with ⟨he, -⟩ | ⟨t', -, -, hb | hb⟩
  · exact he
  · rw [State.berth, hb.1, PerBerth.get_set_self] at ht
    cases ht
  · rw [State.berth, hb.1, PerBerth.get_set_self] at ht
    cases ht
    cases hp

theorem actedOn_settle (hd : NotDue s b) (hf : NotFull s b) : ActedOn (settle b s) b where
  due t ht hp := by
    have he := settle_opened ht hp
    rw [he] at ht ⊢
    exact hd t ht hp
  full t ht hp := by
    rw [settle_opened ht hp] at ht
    exact hf t ht hp
  settled := notSettled_settle b s

theorem actedOn_closeBerth {t : Trip} {cause : CloseCause} (ht : s.berth b = some t) : ActedOn (closeBerth b cause s) b where
  due _ hu hp := absurd hp (closeBerth_not_opened ht hu)
  full _ hu hp := absurd hp (closeBerth_not_opened ht hu)
  settled := by
    rw [closeBerth_eq cause ht]
    exact notSettled_settle b _

theorem actedOn_closeAtDeparture (hf : NotFull s b) (hs : NotSettled s b) : ActedOn (closeAtDeparture b s) b := by
  rcases closeAtDeparture_eq b s with ⟨⟨t, ht, -, -⟩, he⟩ | ⟨hd, he⟩
  · rw [he]; exact actedOn_closeBerth ht
  · rw [he]; exact ⟨hd, hf, hs⟩

/-- The closing conditions of an OPEN berth, once evaluated, have been acted on. -/
theorem actedOn_closingConditions {t : Trip} (ht : s.berth b = some t) (hp : t.phase = .opened) :
    ActedOn (closeAtDeparture b (closeWhenFull b s)) b := by
  rcases closeWhenFull_eq b s with ⟨-, he⟩ | ⟨hf, he⟩
  · have hc : ActedOn (closeBerth b .full s) b := actedOn_closeBerth ht
    rw [he]
    exact actedOn_closeAtDeparture hc.full hc.settled
  · rw [he]
    exact actedOn_closeAtDeparture hf fun u hu hc => by
      cases ht.symm.trans hu
      rw [hp] at hc
      cases hc

theorem closeAtDeparture_berth_other (h : c ≠ b) (s : State) : (closeAtDeparture b s).berth c = s.berth c := by
  rcases closeAtDeparture_eq b s with ⟨-, he⟩ | ⟨-, he⟩
  · rw [he]; exact closeBerth_berth_other h s
  · rw [he]

theorem closeWhenFull_berth_other (h : c ≠ b) (s : State) : (closeWhenFull b s).berth c = s.berth c := by
  rcases closeWhenFull_eq b s with ⟨-, he⟩ | ⟨-, he⟩
  · rw [he]; exact closeBerth_berth_other h s
  · rw [he]

/-- What the reports leave of a trip's closing conditions: the context stands, and onboard rises at a forward step alone. -/
theorem LaneReport.conditions {fwd : Bool} {f : Trip → Trip} (hf : LaneReport fwd f) (t : Trip) :
    (f t).phase = t.phase ∧ (f t).context = t.context ∧ (fwd = false → (f t).counts.onboard ≤ t.counts.onboard) := by
  refine ⟨by rw [hf.keeps t], by rw [hf.keeps t], fun h => ?_⟩
  cases hf with
  | consumption => cases h
  | void => exact le_rfl
  | passage m eg =>
    cases m with
    | forward => cases h
    | reverse =>
      have hleft : ∀ t : Trip, t.leaveOne.counts.onboard ≤ t.counts.onboard := fun t => by
        rw [leaveOne_eq]
        unfold Trip.left
        dsimp only
        split <;> omega
      cases eg <;> exact hleft _
    | balk => exact le_rfl
    | ambiguous => exact le_rfl

theorem fullUp_mono {t u : Trip} (hc : u.context = t.context) (ho : u.counts.onboard ≤ t.counts.onboard)
    (h : t.fullUp = false) : u.fullUp = false := by
  rw [fullUp_eq_false] at h ⊢
  rw [hc]
  exact fun ⟨hm, hu⟩ => h ⟨hm, hu.trans ho⟩

/-- A lane's report is followed by the closing condition it can make true, or by the test of settlement (R11, R12, R13, R20, R22). -/
theorem actedOn_tripEvent {fwd : Bool} {f : Trip → Trip} (hf : LaneReport fwd f) (hd : NotDue s b) (hfull : NotFull s b) :
    ActedOn (tripEvent b fwd f s) b := by
  by_cases h : ∃ t, s.berth b = some t ∧ t.phase ≠ .departed
  · obtain ⟨t, ht, hp⟩ := h
    obtain ⟨hphase, hcontext, hon⟩ := hf.conditions t
    rw [tripEvent_eq ht hp (hf.shown t)]
    split
    · exact actedOn_closeBerth (refilled_berth_self ..)
    · next hn =>
      refine actedOn_settle (fun u hu hup => ?_) (fun u hu hup => ?_)
      · rw [refilled_berth_self] at hu
        cases hu
        rw [refill_phase, hphase] at hup
        have h := hd t ht hup
        rw [refill_departureReached, refilled_clock]
        unfold Trip.departureReached at h ⊢
        rwa [hcontext]
      · rw [refilled_berth_self] at hu
        cases hu
        rw [refill_phase] at hup
        rw [refill_fullUp]
        cases fwd with
        | true => simpa using fun hfu => hn ⟨rfl, hup, hfu⟩
        | false => exact fullUp_mono hcontext (hon rfl) (hfull t ht (hphase ▸ hup))
  · have hgone : ∀ t, s.berth b = some t → t.phase = .departed := fun t ht => by
      by_contra hp
      exact h ⟨t, ht, hp⟩
    rw [tripEvent_ignored hgone]
    exact ⟨hd, hfull, fun t ht hp => by rw [hgone t ht] at hp; cases hp⟩

theorem recomputeFill_changeTrip_other (h : c ≠ b) (f : Trip → Trip) (s : State) :
    (recomputeFill b (changeTrip b f s)).berth c = s.berth c := by
  rw [State.berth, recomputeFill_changeTrip_berths, PerBerth.get_set_other _ _ _ _ h, State.berth]

theorem tripEvent_berth_other (h : c ≠ b) (fwd : Bool) (f : Trip → Trip) (s : State) :
    (tripEvent b fwd f s).berth c = s.berth c := by
  unfold tripEvent
  split
  · rfl
  · split
    · rfl
    · dsimp only
      rw [settle_berth_other h]
      split
      · rw [closeWhenFull_berth_other h, recomputeFill_changeTrip_other h]
      · rw [recomputeFill_changeTrip_other h]

end

/-! ### The trigger of the clock (R157) -/

theorem mem_insertKeyed {α : Type} (x y : Nat × α) (l : List (Nat × α)) : y ∈ insertKeyed x l ↔ y = x ∨ y ∈ l := by
  induction l with
  | nil => simp [insertKeyed]
  | cons z l ih =>
    unfold insertKeyed
    split
    · simp
    · simp [ih, or_left_comm]

theorem mem_sortKeyed {α : Type} (y : Nat × α) (l : List (Nat × α)) : y ∈ sortKeyed l ↔ y ∈ l := by
  induction l with
  | nil => rfl
  | cons x l ih => simp [sortKeyed, mem_insertKeyed, ih]

theorem keyed_map_snd {α : Type} (draw k : Nat) (l : List α) : (keyed draw k l).map Prod.snd = l := by
  induction l generalizing k with
  | nil => rfl
  | cons x l ih => simp [keyed, ih]

/-- A free order holds the items it arranges, and no other (log 3). -/
theorem mem_freeOrder {α : Type} (x : α) (l : List α) (s : State) : x ∈ (freeOrder l s).1 ↔ x ∈ l := by
  have harrange : ∀ l : List α, x ∈ arrange s.draws l ↔ x ∈ l := fun l => by
    conv_rhs => rw [← keyed_map_snd s.draws 0 l]
    simp only [arrange, List.mem_map, mem_sortKeyed]
  unfold freeOrder
  split
  · rfl
  · rfl
  · exact harrange _

theorem mem_triggerTasks (s : State) (b : BerthIx) : .berth b ∈ s.triggerTasks ↔ s.departureDue b = true := by
  simp [State.triggerTasks]

theorem runTask_berth_other {x : TriggerTask} {b : BerthIx} (h : x ≠ .berth b) (s : State) :
    (runTask s x).berth b = s.berth b := by
  cases x with
  | berth c => exact closeAtDeparture_berth_other (fun e => h (congrArg _ e.symm)) s
  | tariff => exact berth_congr (effectiveTrigger_berths s) b

/-- The owners' tests at a trigger, one after another: a berth whose departure is reached and whose test is still to come is closed by it. -/
theorem actedOn_foldl_runTask (tasks : List TriggerTask) (s : State) (hf : ∀ c, NotFull s c) (hs : ∀ c, NotSettled s c)
    (hd : ∀ c, NotDue s c ∨ .berth c ∈ tasks) (b : BerthIx) : ActedOn (tasks.foldl runTask s) b := by
  induction tasks generalizing s with
  | nil => exact ⟨(hd b).resolve_right nofun, hf b, hs b⟩
  | cons x tasks ih =>
    have hself : ∀ c, x = .berth c → ActedOn (runTask s x) c := fun c hx => by
      subst hx
      exact actedOn_closeAtDeparture (hf c) (hs c)
    have hheld : ∀ c i, s.holdsBack c i = true → (runTask s x).holdsBack c i = true := fun c i h => by
      rwa [holdsBack_congr (runTask_lanes s x)]
    refine ih _ (fun c => ?_) (fun c => ?_) (fun c => ?_) <;> by_cases hx : x = .berth c
    · exact (hself c hx).full
    · exact (hf c).congr (runTask_berth_other hx s)
    · exact (hself c hx).settled
    · exact (hs c).congr (runTask_berth_other hx s) (hheld c)
    · exact .inl (hself c hx).due
    · exact (hd c).imp (fun h => h.congr (runTask_berth_other hx s) (by rw [runTask_clock]))
        fun h => (List.mem_cons.mp h).resolve_left (Ne.symm hx)

/-- After a setting or an advance the trigger acts on every berth whose departure is then reached (R19, R157). -/
theorem actedOn_giveTrigger {s : State} (hf : ∀ c, NotFull s c) (hs : ∀ c, NotSettled s c) (b : BerthIx) :
    ActedOn (giveTrigger s) b := by
  rw [giveTrigger_eq]
  have hberth : ∀ c, (freeOrder s.triggerTasks s).2.berth c = s.berth c := berth_congr (by simp)
  refine actedOn_foldl_runTask _ _ (fun c => (hf c).congr (hberth c))
    (fun c => (hs c).congr (hberth c) fun i h => by rwa [holdsBack_congr (freeOrder_lanes ..)]) (fun c => ?_) b
  rw [mem_freeOrder, mem_triggerTasks]
  by_cases hdue : s.departureDue c = true
  · exact .inr hdue
  · refine .inl fun t ht hp => ?_
    rw [hberth] at ht
    rw [freeOrder_clock]
    simpa [State.departureDue, ht, hp] using hdue

/-! ### The law (R19, R20, R22) -/

theorem serveWaiting_berth (s : State) (b : BerthIx) :
    (serveWaiting s).berth b = s.berth b ∨ (serveWaiting s).berth b = none := by
  rcases serveWaiting_cases s with ⟨hb, -⟩ | ⟨c, -, -, -, -, hb, -⟩
  · exact .inl (berth_congr hb b)
  · rw [State.berth, hb, PerBerth.get_set]
    split
    · exact .inr rfl
    · exact .inl rfl

/-- A grant's part at the berth: the trip takes a hold, which its closing conditions do not depend on, and has not settled (R10). -/
theorem actedOn_grant {s : State} {b : BerthIx} (h : ActedOn s b) (kind : AdmissionKind) (charge generation : Nat) :
    ActedOn (recomputeFill b (changeTrip b (Trip.takeHold kind charge generation) s)) b := by
  have hberth : ∀ u, (recomputeFill b (changeTrip b (Trip.takeHold kind charge generation) s)).berth b = some u →
      ∃ t, s.berth b = some t ∧
        (t.takeHold kind charge generation).refill s.supervisor.setup.defaultMargin = u := fun u hu => by
    rw [State.berth, recomputeFill_changeTrip_berths, PerBerth.get_set_self] at hu
    exact Option.map_eq_some_iff.mp hu
  refine ⟨fun u hu hp => ?_, fun u hu hp => ?_, fun u hu _ => ?_⟩ <;> obtain ⟨t, ht, rfl⟩ := hberth u hu
  · rw [refill_phase] at hp
    rw [refill_departureReached, recomputeFill_clock, changeTrip_clock]
    exact h.due t ht hp
  · rw [refill_phase] at hp
    rw [refill_fullUp]
    exact fullUp_mono (t := t) rfl (admitted_onboard ..).le (h.full t ht hp)
  · simp [State.settled, Trip.takeHold]

/-- A counted refusal leaves what the closing conditions read (R14). -/
theorem actedOn_refuse {s : State} {b : BerthIx} (h : ActedOn s b) : ActedOn (countRefusal b s) b := by
  have hberth : ∀ u, (countRefusal b s).berth b = some u → ∃ t, s.berth b = some t ∧ u.phase = t.phase ∧
      u.context = t.context ∧ u.counts.onboard = t.counts.onboard ∧ u.counts.holds = t.counts.holds := fun u hu => by
    rw [State.berth, countRefusal_berths, PerBerth.get_set_self] at hu
    obtain ⟨t, ht, rfl⟩ := Option.map_eq_some_iff.mp hu
    refine ⟨t, ht, ?_⟩
    split <;> exact ⟨rfl, rfl, rfl, rfl⟩
  refine ⟨fun u hu hp => ?_, fun u hu hp => ?_, fun u hu hp => ?_⟩ <;>
    obtain ⟨t, ht, hphase, hcontext, hon, hholds⟩ := hberth u hu <;> rw [hphase] at hp
  · have hd := h.due t ht hp
    rw [countRefusal_clock]
    unfold Trip.departureReached at hd ⊢
    rwa [hcontext]
  · exact fullUp_mono hcontext hon.le (h.full t ht hp)
  · have hs := settled_mono (u := countRefusal b s) (fun i hi => by rwa [holdsBack_congr (countRefusal_lanes b s)]) (h.settled t ht hp)
    unfold State.settled at hs ⊢
    rwa [hholds]

/-- Every move acts on the closing conditions, while trips stand only in service (R26). -/
theorem actedOn_move {s u : State} (hm : Move s u) (hl : ServiceLaw s) (h : ∀ b, ActedOn s b) (c : BerthIx) : ActedOn u c := by
  cases hm with
  | quiet hq => exact (h c).quiet hq nofun
  | @settles v b hq =>
    by_cases hc : c = b
    · subst hc
      exact actedOn_settle ((h c).due.congr (berth_congr hq.berths c) hq.time) ((h c).full.congr (berth_congr hq.berths c))
    · exact ((h c).quiet hq (by simpa using Ne.symm hc)).congr (settle_berth_other hc v) (by simp) (by simp)
  | @reports v b fwd f hq hf =>
    by_cases hc : c = b
    · subst hc
      exact actedOn_tripEvent hf ((h c).due.congr (berth_congr hq.berths c) hq.time)
        ((h c).full.congr (berth_congr hq.berths c))
    · exact ((h c).quiet hq (by simpa using Ne.symm hc)).congr (tripEvent_berth_other hc fwd f v) (by simp) (by simp)
  | grants b kind charge generation =>
    by_cases hc : c = b
    · subst hc
      exact actedOn_grant (h c) kind charge generation
    · exact (h c).congr (recomputeFill_changeTrip_other hc _ s) (by simp) (by simp)
  | refuses b =>
    by_cases hc : c = b
    · subst hc
      exact actedOn_refuse (h c)
    · refine (h c).congr ?_ (by simp) (by simp)
      rw [State.berth, countRefusal_berths, PerBerth.get_set_other _ _ _ _ hc, State.berth]
  | @opens b r hin hst hb hv =>
    rw [openBerth_eq]
    by_cases hc : c = b
    · subst hc
      exact actedOn_closingConditions (justOpened_berth_self ..) rfl
    · refine (h c).congr ?_ (by simp) (by simp)
      rw [closeAtDeparture_berth_other hc, closeWhenFull_berth_other hc, State.berth, justOpened_berths,
        PerBerth.get_set_other _ _ _ _ hc, State.berth]
  | @closes b t cause ht hp =>
    by_cases hc : c = b
    · subst hc
      exact actedOn_closeBerth ht
    · exact (h c).congr (closeBerth_berth_other hc s) (by simp) (by simp)
  | @amends b t r ht hp =>
    by_cases hc : c = b
    · subst hc
      rw [amend_eq ht]
      exact actedOn_closingConditions (refilled_berth_self ..) (by rw [refill_phase]; exact hp)
    · refine (h c).congr ?_ (by simp) (by simp)
      rw [closeAtDeparture_berth_other hc, closeWhenFull_berth_other hc, recomputeFill_changeTrip_other hc]
  | triggers hq =>
    exact actedOn_giveTrigger (fun e => (h e).full.congr (berth_congr hq.berths e))
      (fun e => (h e).settled.congr (berth_congr hq.berths e) (hq.held e nofun)) c
  | @releases r rest hrec =>
    rcases serveWaiting_berth { s with journal := { s.journal with records := rest } } c with hb | hb
    · exact (h c).congr hb (by simp) (by simp)
    · exact .of_vacant hb
  | vacant hv hj => exact .of_vacant (hv hl c)

/-- Settles O38: every move acts on the closing conditions (`actedOn_move`), and every step is a chain of moves. -/
theorem closingConditionsAreActedOn : Obligations.ClosingConditionsAreActedOn := by
  intro s t hc hl _ _ _ _ _ hs
  have hkept := (step_moves hs).keep (p := fun s => (∀ b, ActedOn s b) ∧ ServiceLaw s)
    (fun hm hu => ⟨actedOn_move hm hu.2 hu.1, serviceLaw_move hm hu.2⟩) ⟨(closingLaw_iff s).mp hc, hl⟩
  exact (closingLaw_iff t).mpr hkept.1

end Sys2Proof.Machine
end

section
/-! SUPPORT. The state right after a power-on reset, for any pin levels: its units, and the laws it keeps (R1, R27, R50, R58). -/

namespace Sys2Proof.Machine

open Sys2Proof

@[simp] theorem powerOn_berth (pins : Pins) (b : BerthIx) : (State.powerOn pins).berth b = none := by
  fin_cases b <;> rfl

@[simp] theorem powerOn_lane (pins : Pins) (i : LaneIx) :
    (State.powerOn pins).lane i = Lane.powerOn (pins.beamA.get i) (pins.beamB.get i) (pins.sense.get i) :=
  PerLane.get_tabulate ..

@[simp] theorem powerOn_lamp (pins : Pins) (i : LaneIx) : (State.powerOn pins).lamp i = Lamp.powerOn :=
  PerLane.get_tabulate ..

theorem reseated_pairOf (a b : Bool) :
    Decoder.reseated (pairOf .normal a b) =
      (match a, b with
        | false, false => ⟨.clear, none, none⟩
        | true, false => ⟨.outerOnly, some .unknown, some .outer⟩
        | true, true => ⟨.both, some .unknown, none⟩
        | false, true => ⟨.innerOnly, some .unknown, some .inner⟩) := by
  cases a <;> cases b <;> rfl

/-- Settles O3. -/
theorem powerOnResetGivesThePowerOnValues : Obligations.PowerOnResetGivesThePowerOnValues := by
  intro pins s
  refine ⟨powerOnReset pins s, rfl, rfl, rfl, rfl, rfl, rfl, rfl, rfl, rfl, powerOn_berth pins, fun i => ?_, rfl, rfl, rfl, rfl, rfl⟩
  have hlane : (powerOnReset pins s).lane i = Lane.powerOn (pins.beamA.get i) (pins.beamB.get i) (pins.sense.get i) :=
    powerOn_lane pins i
  have hlamp : (powerOnReset pins s).lamp i = Lamp.powerOn := powerOn_lamp pins i
  rw [hlane, hlamp]
  exact ⟨rfl, rfl, rfl, rfl, rfl, rfl, rfl, rfl, rfl, rfl, rfl, rfl, rfl, rfl, rfl, rfl, reseated_pairOf .., rfl, rfl⟩

/-! ### The laws -/

/-- A re-seated decoder stands on its pair, with the fields that the pair calls for (R52, R58). -/
theorem reseated_sound (p : PairState) : (Decoder.reseated p).pair = p ∧ (Decoder.reseated p).sound := by
  cases p <;> simp [Decoder.reseated, Decoder.sound, PairState.single]

theorem laneLaw_powerOn (pins : Pins) : LaneLaw (State.powerOn pins) := by
  intro i
  rw [powerOn_lane]
  obtain ⟨hpair, hsound⟩ := reseated_sound (pairOf .normal (pins.beamA.get i) (pins.beamB.get i))
  refine ⟨?_, ⟨hpair, hsound, nofun⟩, rfl, rfl, fun _ => ⟨rfl, rfl⟩⟩
  simp [Lane.coherent, Lane.powerOn]

theorem egressLaw_powerOn (pins : Pins) : EgressLaw (State.powerOn pins) := by
  refine ⟨fun h => absurd rfl h, ⟨nofun, ?_⟩, .inl rfl, fun i => ?_⟩
  · rintro (h | h) <;> cases h
  · rw [powerOn_lane]
    exact ⟨nofun, fun h => nomatch h.2⟩

theorem holdLaw_powerOn (pins : Pins) : HoldLaw (State.powerOn pins) := by
  refine ⟨fun b => ?_, fun i b h hb => ?_⟩
  · simp [holdsOf, State.lanesHolding, Lane.powerOn]
  · rw [powerOn_lane] at hb
    cases hb

theorem listLaw_powerOn (pins : Pins) : ListLaw (State.powerOn pins) := by
  refine ⟨by simp [State.powerOn], .nil, .nil, fun e he => (nomatch he), fun i h hh => ?_⟩
  rw [powerOn_lane] at hh
  cases hh

theorem linkLaws_powerOn (pins : Pins) :
    QueueLaw (State.powerOn pins) ∧ LineLaw (State.powerOn pins) ∧ FramerLaw (State.powerOn pins) := by
  refine ⟨?_, ⟨fun h => absurd rfl h, fun _ => ⟨rfl, rfl⟩⟩, ⟨fun _ => rfl, fun h => absurd rfl h⟩⟩
  simp [QueueLaw, State.powerOn, LinkStats.zero]

theorem berthLaws_powerOn (pins : Pins) :
    JournalLaw (State.powerOn pins) ∧ WaitingLaw (State.powerOn pins) ∧ CountLaw (State.powerOn pins) ∧
      ServiceLaw (State.powerOn pins) ∧ FillLaw (State.powerOn pins) ∧ ClosingLaw (State.powerOn pins) := by
  have hnone : ∀ b t, (State.powerOn pins).berth b ≠ some t := fun b t ht => by rw [powerOn_berth] at ht; cases ht
  refine ⟨⟨Nat.zero_le _, fun h => absurd rfl h, .nil, fun b t ht => absurd ht (hnone b t)⟩, fun b hb => (nomatch hb),
    ⟨fun b t ht => absurd ht (hnone b t), fun r hr => (nomatch hr)⟩, fun b hb => absurd (powerOn_berth pins b) hb,
    fun b t ht => absurd ht (hnone b t), fun b t ht => absurd ht (hnone b t)⟩

theorem clockLaws_powerOn (pins : Pins) :
    ClockLaw (State.powerOn pins) ∧ DayLaw (State.powerOn pins) ∧ TariffLaw (State.powerOn pins) :=
  ⟨⟨⟨fun _ => rfl, fun _ => rfl⟩, ⟨fun _ => rfl, fun _ => rfl⟩, nofun, nofun, nofun, nofun⟩, nofun, nofun⟩

theorem denyLaw_powerOn (pins : Pins) : DenyLaw (State.powerOn pins) := ⟨.nil, Nat.zero_le _, nofun⟩

/-- Settles O4: the laws hold right after a power-on reset at any pin levels, so at those of the reset state. -/
theorem resetMeetsTheLaws : Obligations.ResetMeetsTheLaws := by
  obtain ⟨hqueue, hline, hframer⟩ := linkLaws_powerOn Pins.atRest
  obtain ⟨hjournal, hwaiting, hcount, hservice, hfill, hclosing⟩ := berthLaws_powerOn Pins.atRest
  obtain ⟨hclock, hday, htariff⟩ := clockLaws_powerOn Pins.atRest
  exact ⟨denyLaw_powerOn _, hqueue, hline, hframer, hjournal, hwaiting, hcount, hservice, hfill, hclosing, laneLaw_powerOn _,
    hclock, hday, htariff, egressLaw_powerOn _, holdLaw_powerOn _, listLaw_powerOn _⟩

end Sys2Proof.Machine
end

section
/-! SUPPORT. What a step can do to the lanes and the berths, said once for every claim about them: a claim that each event and each owner
keeps is kept by every step. -/

namespace Sys2Proof.Machine

open Sys2Proof

/-- A claim about lanes, berths, journal and supervisor that each event and each owner of a request keeps. -/
structure StepRules (P : State → Prop) : Prop where
  frames : ∀ {s u : State}, u.lanes = s.lanes → u.berths = s.berths → u.journal = s.journal → u.supervisor = s.supervisor →
    P s → P u
  owner : ∀ {q s}, lengthFault q = none → P s → P (owner q s).1
  powerOnReset : ∀ pins s, P (powerOnReset pins s)
  beamRaw : ∀ i a b {s}, P s → P (beamRaw i a b s)
  beamAccepted : ∀ i {s}, P s → P (beamAccepted i s)
  senseChange : ∀ i o {s}, P s → P (senseChange i o s)
  barrierExpiry : ∀ i {s}, P s → P (barrierExpiry i s)
  passageExpiry : ∀ i {s}, P s → P (passageExpiry i s)
  clearExpiry : ∀ i {s}, P s → P (clearExpiry i s)
  serviceAdvance : ∀ {s}, P s → P (serviceAdvance s)
  lineRaw : ∀ raw {s}, P s → P (lineRaw raw s)
  lineAccepted : ∀ {s}, P s → P (lineAccepted s)

section
variable {P : State → Prop} {s : State}

theorem StepRules.link (hP : StepRules P) (h : P s) (f : Link → Link) : P (s.changeLink f) :=
  hP.frames (s := s) (u := s.changeLink f) rfl rfl rfl rfl h

theorem StepRules.takeRequest (hP : StepRules P) (h : P s) (q : RequestFrame) : P (takeRequest q s) := by
  have htaken : P (countTaken s) := by
    unfold countTaken State.count
    exact hP.link h _
  unfold Machine.takeRequest judgeRequest
  refine hP.link ?_ _
  split
  · exact htaken
  · next hl => exact hP.owner hl htaken

theorem StepRules.completeRequest (hP : StepRules P) (h : P s) (q : RequestFrame) : P (completeRequest q s) := by
  unfold Machine.completeRequest
  split
  · exact hP.link h _
  · split
    · exact hP.link h _
    · exact hP.takeRequest h q

theorem StepRules.endOfEvent (hP : StepRules P) (h : P s) : P (endOfEvent s) := by
  unfold Machine.endOfEvent arbitrate startAnswer startNotice
  dsimp only
  split
  · split
    · split
      · exact hP.link h _
      · exact hP.takeRequest (hP.link (hP.link h _) _) _
    · split
      · exact h
      · exact hP.link h _
  · exact h

theorem StepRules.discardFrame (hP : StepRules P) (h : P s) : P (discardFrame s) := by
  unfold Machine.discardFrame State.count State.setFramer
  exact hP.link (hP.link h _) _

theorem StepRules.frameGap (hP : StepRules P) (h : P s) : P (frameGap s) := by
  unfold Machine.frameGap
  split
  · exact hP.discardFrame h
  · exact h

theorem StepRules.transmitEnd (hP : StepRules P) (h : P s) : P (transmitEnd s) := by
  unfold Machine.transmitEnd
  split
  · exact h
  · exact hP.link h _

theorem StepRules.receive (hP : StepRules P) (h : P s) (c : Character) : P (receive c s) := by
  have hgap := hP.frameGap h
  unfold Machine.receive huntCharacter frameByte frameWhole State.count State.setFramer
  dsimp only
  split
  · split
    · exact hP.link hgap _
    · exact hP.link hgap _
  · split
    · exact hP.discardFrame hgap
    · split
      · exact hP.discardFrame hgap
      · split
        · split
          · exact hP.completeRequest (hP.link hgap _) _
          · exact hP.link (hP.link hgap _) _
        · exact hP.link hgap _

theorem StepRules.exec (hP : StepRules P) (h : P s) {c : Instr} {t : State} (hc : exec c s = .next t) : P t := by
  cases c
  all_goals obtain rfl := Host.Outcome.next.inj hc
  case powerOnReset pins => exact hP.powerOnReset pins s
  case receivedCharacter c => exact hP.endOfEvent (hP.receive h c)
  case frameGapTimeout => exact hP.endOfEvent (hP.frameGap h)
  case transmitFrameEnd => exact hP.endOfEvent (hP.transmitEnd h)
  case beamRawChange i a b => exact hP.endOfEvent (hP.beamRaw i a b h)
  case beamAcceptedChange i => exact hP.endOfEvent (hP.beamAccepted i h)
  case barrierSenseChange i o => exact hP.endOfEvent (hP.senseChange i o h)
  case barrierTimerExpiry i => exact hP.endOfEvent (hP.barrierExpiry i h)
  case passageTimerExpiry i => exact hP.endOfEvent (hP.passageExpiry i h)
  case clearTimerExpiry i => exact hP.endOfEvent (hP.clearExpiry i h)
  case lampPulseEnd i => exact hP.endOfEvent (hP.frames (by simp) (by simp) (by simp) (by simp) h)
  case serviceTimeAdvance => exact hP.endOfEvent (hP.serviceAdvance h)
  case markWindowExpiry => exact hP.endOfEvent (hP.frames (by simp) (by simp) (by simp) (by simp) h)
  case emergencyLineRawChange a => exact hP.endOfEvent (hP.lineRaw a h)
  case emergencyLineAcceptedChange => exact hP.endOfEvent (hP.lineAccepted h)
  all_goals exact hP.endOfEvent (hP.completeRequest h _)

/-- Every step keeps a claim that each event and each owner keeps. -/
theorem StepRules.step (hP : StepRules P) (h : P s) {t : State} (hs : step s = .next t) : P t := by
  unfold Machine.step at hs
  split at hs
  · obtain rfl := Host.Outcome.next.inj hs
    exact hP.frames (by simp [tick]) (by simp [tick]) (by simp [tick]) (by simp [tick]) h
  · next rest _ => exact hP.exec (hP.frames (s := s) (u := { s with pending := rest }) rfl rfl rfl rfl h) hs

end

end Sys2Proof.Machine
end

section
/-! SUPPORT. One lane unit under each change of its state, its beams and its setup: what the law of the lanes asks of it stands (R27 to R29,
R34, R36, R49, R52). -/

namespace Sys2Proof

@[simp] theorem PerLane.set_set {α : Type} (v : PerLane α) (i : LaneIx) (x y : α) : (v.set i x).set i y = v.set i y := by
  fin_cases i <;> rfl

end Sys2Proof

namespace Sys2Proof.Machine

open Sys2Proof

/-! ### The law of one lane -/

/-- A lane is coherent, and its filters and what its decoder remembers are sound; its decoder need not stand on the accepted levels yet. -/
structure Lane.Ready (l : Lane) : Prop where
  coherent : l.coherent
  decoder : l.decoder.sound
  remembered : ∀ c, l.lastChange = some c → c.before.sound
  beamA : l.beamA.measured
  beamB : l.beamB.measured

/-- A lane is ready and its decoder stands on the accepted levels (R52). -/
structure Lane.Sound (l : Lane) : Prop extends l.Ready where
  pair : l.decoder.pair = l.pair

/-- What the law of the lanes asks of one lane, by whether it is present. -/
structure Lane.Lawful (present : Bool) (l : Lane) : Prop where
  sound : l.Sound
  absent : present = false → l.state = .off ∧ l.berth = none

theorem laneLaw_iff (s : State) : LaneLaw s ↔ ∀ i, (s.lane i).Lawful (s.lanePresent i) :=
  forall_congr' fun _ =>
    ⟨fun ⟨hc, ⟨hp, hd, hr⟩, ha, hb, hoff⟩ => ⟨⟨⟨hc, hd, hr, ha, hb⟩, hp⟩, hoff⟩,
      fun h => ⟨h.sound.coherent, ⟨h.sound.pair, h.sound.decoder, h.sound.remembered⟩, h.sound.beamA, h.sound.beamB, h.absent⟩⟩

/-- A lane in another state than OFF is present. -/
theorem Lane.Lawful.present {p : Bool} {l : Lane} (h : l.Lawful p) (hl : l.state ≠ .off) : p = true := by
  cases p with
  | true => rfl
  | false => exact absurd (h.absent rfl).1 hl

theorem Lane.Sound.lawful {l : Lane} (h : l.Sound) {p : Bool} (hp : p = true) : l.Lawful p :=
  ⟨h, fun hf => absurd hp (by simp [hf])⟩

/-! ### Coherence by the lane's state -/

section
variable {l : Lane}

/-- A lane in another state than OPENING and OPEN holds nothing and has no expiry deferred. -/
theorem Lane.coherent.idle (h : l.coherent) (hs : ¬(l.state = .opening ∨ l.state = .opened)) :
    l.hold = none ∧ l.expiryPending = false := by
  obtain ⟨hhold, -, -, -, hexp, -⟩ := h
  refine ⟨not_not.mp (mt hhold.mp hs), Bool.eq_false_iff.mpr fun he => hs (.inr (hexp he).1)⟩

/-- A lane in another state than OPEN has no expiry deferred. -/
theorem Lane.coherent.prompt (h : l.coherent) (hs : l.state ≠ .opened) : l.expiryPending = false := by
  obtain ⟨-, -, -, -, hexp, -⟩ := h
  exact Bool.eq_false_iff.mpr fun he => hs (hexp he).1

theorem Lane.coherent.faultless (h : l.coherent) (hs : l.state ≠ .fault) : l.faultCause = none := by
  obtain ⟨-, -, -, -, -, hfault, -⟩ := h
  exact not_not.mp (mt hfault.mp hs)

/-- A lane with a hold is in OPENING or OPEN. -/
theorem Lane.coherent.holding (h : l.coherent) (hh : l.hold ≠ none) : l.state = .opening ∨ l.state = .opened := h.1.mp hh

/-- A lane in OPENING or OPEN has a hold and is assigned to a berth. -/
theorem Lane.coherent.held (h : l.coherent) (hs : l.state = .opening ∨ l.state = .opened) :
    ∃ k b, l.hold = some k ∧ l.berth = some b := by
  obtain ⟨hhold, -, -, -, -, -, hberth⟩ := h
  obtain ⟨k, hk⟩ := Option.ne_none_iff_exists'.mp (hhold.mpr hs)
  obtain ⟨b, hb⟩ := Option.ne_none_iff_exists'.mp (hberth (hhold.mpr hs))
  exact ⟨k, b, hk, hb⟩

theorem Lane.coherent.barrierTimer_state (h : l.coherent) (ht : l.barrierTimer ≠ none) :
    l.state = .opening ∨ l.state = .closing := h.2.1.mp ht

/-- A change of a lane that leaves its beams and its decoder alone keeps it sound where it keeps it coherent. -/
theorem Lane.Sound.of_coherent {l' : Lane} (h : l.Sound) (hc : l'.coherent) (ho : l'.beamOrder = l.beamOrder)
    (ha : l'.beamA = l.beamA) (hb : l'.beamB = l.beamB) (hd : l'.decoder = l.decoder) (hr : l'.lastChange = l.lastChange) :
    l'.Sound where
  coherent := hc
  decoder := hd ▸ h.decoder
  remembered := hr ▸ h.remembered
  beamA := ha ▸ h.beamA
  beamB := hb ▸ h.beamB
  pair := by rw [hd, h.pair, Lane.pair, Lane.pair, ho, ha, hb]

/-! ### Entering a lane state -/

theorem toClearing_coherent (hf : l.faultCause = none) (now : Nat) : (l.toClearing now).coherent := by
  simp [Lane.coherent, Lane.toClearing, Lane.stopTimers, hf]

theorem toClearing_sound (h : l.Sound) (hs : l.state ≠ .fault) (now : Nat) : (l.toClearing now).Sound :=
  h.of_coherent (toClearing_coherent (h.coherent.faultless hs) now) rfl rfl rfl rfl rfl

theorem toClosing_coherent (hh : l.hold = none) (he : l.expiryPending = false) (hf : l.faultCause = none) (now : Nat) :
    (l.toClosing now).coherent := by
  simp [Lane.coherent, Lane.toClosing, Lane.stopTimers, hh, he, hf]

theorem toFault_sound (h : l.Sound) (hs : l.state ≠ .opened) (c : LaneFaultCause) : (l.toFault c).Sound :=
  h.of_coherent (by simp [Lane.coherent, Lane.toFault, Lane.stopTimers, h.coherent.prompt hs]) rfl rfl rfl rfl rfl

theorem toOpen_sound (h : l.Sound) (hs : l.state = .opening) (now : Nat) : (l.toOpen now).Sound := by
  obtain ⟨k, b, hk, hb⟩ := h.coherent.held (.inl hs)
  have he := h.coherent.prompt (by simp [hs])
  have hf := h.coherent.faultless (by simp [hs])
  obtain ⟨-, -, -, hclear, -⟩ := h.coherent
  refine h.of_coherent ?_ rfl rfl rfl rfl rfl
  simp [Lane.coherent, Lane.toOpen, hk, hb, he, hf]
  simpa [hs] using hclear

theorem toOpening_sound (h : l.Sound) (hs : l.state = .opened) (now : Nat) : (l.toOpening now).Sound := by
  obtain ⟨k, b, hk, hb⟩ := h.coherent.held (.inr hs)
  have hf := h.coherent.faultless (by simp [hs])
  obtain ⟨-, -, -, hclear, -⟩ := h.coherent
  refine h.of_coherent ?_ rfl rfl rfl rfl rfl
  simp [Lane.coherent, Lane.toOpening, hk, hb, hf]
  simpa [hs] using hclear

/-- A CLOSED lane that receives a hold (R30). -/
theorem granted_sound (h : l.Sound) (hs : l.state = .closed) (hb : l.berth ≠ none) (k : Hold) (now : Nat) :
    ({ l.toOpening now with hold := some k } : Lane).Sound := by
  have hf := h.coherent.faultless (by simp [hs])
  obtain ⟨-, -, -, hclear, -⟩ := h.coherent
  refine h.of_coherent ?_ rfl rfl rfl rfl rfl
  simp [Lane.coherent, Lane.toOpening, hb, hf]
  simpa [hs] using hclear

theorem toEgress_sound (h : l.Sound) : l.toEgress.Sound :=
  h.of_coherent (by simp [Lane.coherent, Lane.toEgress, Lane.stopTimers]) rfl rfl rfl rfl rfl

theorem toOff_sound (h : l.Sound) : l.toOff.Sound :=
  h.of_coherent (by simp [Lane.coherent, Lane.toOff, Lane.stopTimers]) rfl rfl rfl rfl rfl

/-- A lane whose closing has completed, in CLOSED or OFF (R37). -/
theorem closingDone_sound (h : l.Sound) (hs : l.state = .closing) {last : LaneState} (hl : last = .off ∨ last = .closed) :
    ({ l with state := last, barrierTimer := none, returning := false } : Lane).Sound := by
  obtain ⟨hhold, hexp⟩ := h.coherent.idle (by simp [hs])
  have hf := h.coherent.faultless (by simp [hs])
  obtain ⟨-, -, hpass, hclear, -⟩ := h.coherent
  refine h.of_coherent ?_ rfl rfl rfl rfl rfl
  rcases hl with rfl | rfl <;> simpa [Lane.coherent, hhold, hexp, hf, hs] using And.intro hpass hclear

/-- A CLEARING or FAULT lane that starts to close (R36, R39). -/
theorem closing_sound (h : l.Sound) (hs : l.state = .clearing ∨ l.state = .fault) (returning : Bool) (now : Nat) :
    (({ l with faultCause := none, returning := returning } : Lane).toClosing now).Sound := by
  obtain ⟨hhold, hexp⟩ := h.coherent.idle (by rcases hs with hs | hs <;> simp [hs])
  exact h.of_coherent (toClosing_coherent (l := { l with faultCause := none, returning := returning }) hhold hexp rfl now)
    rfl rfl rfl rfl rfl

/-- A lane in OFF that service brings to CLOSED (R41). -/
theorem started_sound (h : l.Sound) (hs : l.state = .off) : ({ l with state := .closed } : Lane).Sound :=
  h.of_coherent (by simpa [Lane.coherent, hs] using h.coherent) rfl rfl rfl rfl rfl

/-- The passage timer of an OPEN lane runs out with a beam blocked (R34). -/
theorem deferred_sound (h : l.Sound) (hs : l.state = .opened) (hp : l.decoder.pair ≠ .clear) :
    ({ l with expiryPending := true, passageTimer := none } : Lane).Sound := by
  obtain ⟨hhold, hbarrier, -, hclear, -, hfault, hberth⟩ := h.coherent
  exact h.of_coherent ⟨hhold, hbarrier, by simp, hclear, fun _ => ⟨hs, hp⟩, hfault, hberth⟩ rfl rfl rfl rfl rfl

theorem sense_sound (h : l.Sound) (o : Bool) : ({ l with sense := o } : Lane).Sound :=
  h.of_coherent h.coherent rfl rfl rfl rfl rfl

/-- A lane without a hold changes its assignment (R45). -/
theorem assigned_sound (h : l.Sound) (hh : l.hold = none) (b : Option BerthIx) : ({ l with berth := b } : Lane).Sound := by
  obtain ⟨hhold, hbarrier, hpass, hclear, hexp, hfault, -⟩ := h.coherent
  exact h.of_coherent ⟨hhold, hbarrier, hpass, hclear, hexp, hfault, fun hn => absurd hh hn⟩ rfl rfl rfl rfl rfl

/-! ### Re-seating the decoder (R44, R51, R58) -/

theorem pairOf_clear_iff (o : BeamOrder) (a b : Bool) : pairOf o a b = .clear ↔ a = false ∧ b = false := by
  cases o <;> cases a <;> cases b <;> simp [pairOf, PairState.ofSides]

/-- Re-seating a decoder on the accepted levels, whatever the beam order, keeps a lane sound. -/
theorem reseat_sound (h : l.Sound) (order : BeamOrder) : ({ l with beamOrder := order } : Lane).reseat.Sound := by
  obtain ⟨hpair, hsound⟩ := reseated_sound ({ l with beamOrder := order } : Lane).pair
  have hclear : (Decoder.reseated ({ l with beamOrder := order } : Lane).pair).pair = .clear ↔ l.decoder.pair = .clear := by
    rw [hpair, h.pair, Lane.pair, Lane.pair, pairOf_clear_iff, pairOf_clear_iff]
  obtain ⟨hhold, hbarrier, hpass, hclearT, hexp, hfault, hberth⟩ := h.coherent
  refine ⟨⟨⟨hhold, hbarrier, hpass, ?_, fun he => ?_, hfault, hberth⟩, hsound, nofun, h.beamA, h.beamB⟩, hpair⟩
  · exact hclearT.trans (and_congr_right' hclear.symm)
  · exact (hexp he).imp_right (mt hclear.mp)

theorem takeRecord_sound (h : l.Sound) (r : LaneRecord) : (l.takeRecord r).Sound := by
  unfold Lane.takeRecord
  dsimp only
  generalize (BeamOrder.ofCode r.beamOrder).getD l.beamOrder = order
  split
  · next ho =>
    subst ho
    exact h.of_coherent h.coherent rfl rfl rfl rfl rfl
  · exact (reseat_sound h order).of_coherent (reseat_sound h order).coherent rfl rfl rfl rfl rfl

theorem offIfFault_sound (h : l.Sound) : l.offIfFault.Sound := by
  unfold Lane.offIfFault
  split
  · exact toOff_sound h
  · exact h

/-! ### Filters and the decoder (R49, R52 to R57) -/

theorem rawChange_measured {b : Beam} (h : b.measured) (code now : Nat) (raw : Bool) : (b.rawChange code now raw).measured := by
  unfold Beam.rawChange
  split
  · exact h
  · split
    · rfl
    · split
      · next he => exact he
      · next hne => exact ⟨rfl, hne⟩

theorem accept_measured {b : Beam} (h : b.measured) (now : Nat) : (b.accept now).measured := by
  unfold Beam.accept
  split
  · exact h
  · next m hm =>
    split
    · unfold Beam.measured at h
      rw [hm] at h
      exact h.1.symm
    · exact h

/-- A lane whose beams have changed is ready for its decoder. -/
theorem Lane.Ready.beams (h : l.Ready) {a b : Beam} (ha : a.measured) (hb : b.measured) :
    ({ l with beamA := a, beamB := b } : Lane).Ready :=
  ⟨h.coherent, h.decoder, h.remembered, ha, hb⟩

theorem acceptDue_ready (h : l.Ready) (now : Nat) : (l.acceptDue now).Ready :=
  h.beams (accept_measured h.beamA now) (accept_measured h.beamB now)

theorem acceptWaiting_ready (h : l.Ready) (now : Nat) (w : Option (Bool × Bool)) (old : Lane) :
    (l.acceptWaiting now w old).Ready := by
  unfold Lane.acceptWaiting
  split
  · exact h
  · split
    · exact h
    · split
      · exact h.beams h.beamA (rawChange_measured h.beamB ..)
      · split
        · exact h.beams (rawChange_measured h.beamA ..) h.beamB
        · exact h

theorem take_sound {d : Decoder} (h : d.sound) (p : PairState) : (d.take p).1.pair = p ∧ (d.take p).1.sound := by
  obtain ⟨hentry, hlast⟩ := h
  unfold Decoder.take
  split
  · next hp => exact ⟨hp.symm, hentry, hlast⟩
  · next hp =>
    split
    · next hc =>
      refine ⟨rfl, ?_, rfl⟩
      rw [hc] at hp
      cases p <;> simp [PairState.entryFrom] at hp ⊢
    · next hc =>
      split
      · next hn => exact ⟨hn.symm, by simp, rfl⟩
      · next hn => exact ⟨rfl, by simp [hn, hentry, hc], rfl⟩

theorem opposite_ne (p : PairState) : p.opposite ≠ p := by cases p <;> simp [PairState.opposite]

theorem joined_some {now : Nat} {d : Decoder} (h : l.joined now = some d) :
    (∃ c, l.lastChange = some c ∧ c.before = d) ∧ l.pair ≠ d.pair := by
  unfold Lane.joined at h
  split at h
  · cases h
  · next c hc =>
    split at h
    · next hj =>
      cases h
      exact ⟨⟨c, hc, rfl⟩, fun e => opposite_ne _ (hj.2.symm.trans e)⟩
    · cases h

/-- A pair that returns to CLEAR hands over a class, unless the decoder stood on CLEAR (R57). -/
theorem takePair_clear {now : Nat} (hn : (l.takePair now).2 = none) (hp : l.pair = .clear) : l.decoder.pair = .clear := by
  unfold Lane.takePair at hn
  cases hj : l.joined now with
  | none =>
    rw [hj, hp] at hn
    by_contra hd
    simp [Decoder.take, hd, Ne.symm hd] at hn
  | some d =>
    have hne := (joined_some hj).2
    rw [hj, hp] at hn
    rw [hp] at hne
    simp [Decoder.take, hne, Ne.symm hne] at hn

/-- What the decoder of a ready lane makes of the lane's accepted levels stands on them, with the fields the pair calls for. -/
theorem takePair_decoded (h : l.Ready) (now : Nat) :
    (l.takePair now).1.decoder.pair = l.pair ∧ (l.takePair now).1.decoder.sound ∧
      ∀ c, (l.takePair now).1.lastChange = some c → c.before.sound := by
  have hbefore : ((l.joined now).getD l.decoder).sound := by
    cases hj : l.joined now with
    | none => exact h.decoder
    | some d =>
      obtain ⟨⟨c, hc, rfl⟩, -⟩ := joined_some hj
      exact h.remembered c hc
  obtain ⟨hpair, hsound⟩ := take_sound hbefore l.pair
  refine ⟨hpair, hsound, fun c hc => ?_⟩
  unfold Lane.takePair at hc
  dsimp only at hc
  split at hc
  · cases hc
    exact h.decoder
  · cases hc

/-- The clear timer of a lane in CLEARING as it follows the beams (R36). -/
def Lane.followed (now : Nat) (l : Lane) : Lane :=
  if l.state = .clearing then
    if l.decoder.pair = .clear then
      if l.clearTimer = none then { l with clearTimer := some (now + Config.clearInterval) } else l
    else { l with clearTimer := none }
  else l

/-- A lane whose decoder has taken the accepted levels is sound once its clear timer has followed, if no deferred expiry stands with both
beams clear. -/
theorem followed_sound (h : l.Ready) (now : Nat) (he : (l.takePair now).1.decoder.pair = .clear → l.expiryPending = false) :
    ((l.takePair now).1.followed now).Sound := by
  obtain ⟨hpair, hsound, hrem⟩ := takePair_decoded h now
  obtain ⟨hhold, hbarrier, hpass, hclear, hexp, hfault, hberth⟩ := h.coherent
  have hkeep : ∀ t : Option Nat, (t ≠ none ↔ l.state = .clearing ∧ (l.takePair now).1.decoder.pair = .clear) →
      ({ (l.takePair now).1 with clearTimer := t } : Lane).Sound := fun t ht =>
    { coherent := ⟨hhold, hbarrier, hpass, ht, fun hp => ⟨(hexp hp).1, fun hc => absurd hp (Bool.eq_false_iff.mp (he hc))⟩, hfault, hberth⟩
      decoder := hsound
      remembered := hrem
      beamA := h.beamA
      beamB := h.beamB
      pair := hpair }
  have hstate : (l.takePair now).1.state = l.state := rfl
  have htimer : (l.takePair now).1.clearTimer = l.clearTimer := rfl
  unfold Lane.followed
  split
  · next hs =>
    split
    · next hc =>
      split
      · exact hkeep _ (by simpa [← hstate, hs] using hc)
      · next ht => exact hkeep l.clearTimer (iff_of_true (htimer ▸ ht) ⟨hs, hc⟩)
    · next hc => exact hkeep none (by simp [hc])
  · next hs =>
    have hnone : l.clearTimer = none := not_not.mp (mt hclear.mp fun h => hs h.1)
    exact hkeep l.clearTimer (iff_of_false (not_not.mpr hnone) fun h => hs h.1)

/-- A lane that its movement brings to CLEARING (R33, R34, R36). -/
theorem cleared_sound (h : l.Ready) (hh : l.hold ≠ none) (now : Nat) :
    (((l.takePair now).1.toClearing now).followed now).Sound := by
  obtain ⟨hpair, hsound, hrem⟩ := takePair_decoded h now
  have hf : l.faultCause = none := h.coherent.faultless (by rcases h.coherent.holding hh with hs | hs <;> simp [hs])
  have hfollowed : ((l.takePair now).1.toClearing now).followed now = (l.takePair now).1.toClearing now := by
    by_cases hc : (l.takePair now).1.decoder.pair = .clear <;>
      simp [Lane.followed, Lane.toClearing, Lane.stopTimers, hc]
  rw [hfollowed]
  exact ⟨⟨toClearing_coherent (l := (l.takePair now).1) hf now, hsound, hrem, h.beamA, h.beamB⟩, hpair⟩

end

end Sys2Proof.Machine
end

section
/-! SUPPORT. The law of the lanes under each event and each request (R27 to R29, R34, R36, R49, R52). -/

namespace Sys2Proof.Machine

open Sys2Proof

/-! ### What the lane units are after each operation -/

@[simp] theorem setLane_lanes (i : LaneIx) (f : Lane → Lane) (s : State) :
    (setLane i f s).lanes = s.lanes.set i (f (s.lane i)) := rfl

@[simp] theorem changeLane_lanes (i : LaneIx) (f : Lane → Lane) (s : State) :
    (changeLane i f s).lanes = s.lanes.set i (f (s.lane i)) := rfl

@[simp] theorem lane_of_set {s u : State} {i : LaneIx} {l : Lane} (h : u.lanes = s.lanes.set i l) : u.lane i = l := by
  rw [State.lane, h, PerLane.get_set_self]

theorem lane_of_set_other {s u : State} {i j : LaneIx} {l : Lane} (h : u.lanes = s.lanes.set i l) (hj : j ≠ i) :
    u.lane j = s.lane j := by
  rw [State.lane, h, PerLane.get_set_other _ _ _ _ hj, State.lane]

theorem lanes_set_lane (s : State) (i : LaneIx) : s.lanes.set i (s.lane i) = s.lanes := PerLane.set_get ..

theorem faultLane_lanes (i : LaneIx) (c : LaneFaultCause) (s : State) :
    (faultLane i c s).lanes = s.lanes.set i ((s.lane i).toFault c) := by simp [faultLane]

theorem reportTo_lanes {i : LaneIx} {f : BerthIx → State → State} (hf : ∀ b s, (f b s).lanes = s.lanes) (s : State) :
    (reportTo i f s).lanes = s.lanes := by
  unfold reportTo
  split
  · rfl
  · exact hf _ s

theorem dropHold_lanes (i : LaneIx) (c : VoidCause) (h : Hold) (next : Lane → Lane) (s : State) :
    (dropHold i c h next s).lanes = s.lanes.set i { next (s.lane i) with hold := none } := by simp [dropHold]

theorem voidHold_lanes (i : LaneIx) (c : VoidCause) (h : Hold) (next : Lane → Lane) (s : State) :
    (voidHold i c h next s).lanes = s.lanes.set i { next (s.lane i) with hold := none } :=
  (reportTo_lanes (by simp) _).trans (dropHold_lanes ..)

theorem consumeHold_lanes (i : LaneIx) (h : Hold) (s : State) :
    (consumeHold i h s).lanes = s.lanes.set i ((s.lane i).toClearing s.runTime) :=
  reportTo_lanes (by simp) _

theorem takeHold_lanes (i : LaneIx) (h : Hold) (s : State) :
    (takeHold i h s).lanes = s.lanes.set i
      (if (s.lane i).sense then ({ (s.lane i).toOpening s.runTime with hold := some h } : Lane).toOpen s.runTime
        else { (s.lane i).toOpening s.runTime with hold := some h }) := by
  have hopening : (raiseEvent .admission i (changeLane i (fun l => { l.toOpening s.runTime with hold := some h }) s)).lanes =
      s.lanes.set i { (s.lane i).toOpening s.runTime with hold := some h } :=
    (raiseEvent_lanes ..).trans (changeLane_lanes ..)
  have hsense : ({ (s.lane i).toOpening s.runTime with hold := some h } : Lane).sense = (s.lane i).sense := rfl
  unfold takeHold
  dsimp only
  rw [lane_of_set hopening, hsense]
  split
  · rw [changeLane_lanes, lane_of_set hopening, hopening, PerLane.set_set, raiseEvent_runTime, changeLane_runTime]
    rfl
  · exact hopening

theorem completeClosing_lanes (i : LaneIx) (s : State) :
    (completeClosing i s).lanes = s.lanes.set i { s.lane i with
      state := if s.supervisor.state = .outOfService then .off else .closed, barrierTimer := none, returning := false } := by
  unfold completeClosing
  dsimp only
  rw [settleBerthOf_lanes]
  split <;> simp

theorem startClosing_lanes (i : LaneIx) (f : Lane → Lane) (s : State) :
    (startClosing i f s).lanes = s.lanes.set i
      (if (f (s.lane i)).sense then (f (s.lane i)).toClosing s.runTime
        else { (f (s.lane i)).toClosing s.runTime with
          state := if s.supervisor.state = .outOfService then .off else .closed, barrierTimer := none, returning := false }) := by
  have hlanes : (settleBerthOf i (changeLane i (fun l => (f l).toClosing s.runTime) s)).lanes =
      s.lanes.set i ((f (s.lane i)).toClosing s.runTime) := by simp
  have hsense : ((f (s.lane i)).toClosing s.runTime).sense = (f (s.lane i)).sense := rfl
  unfold startClosing
  dsimp only
  rw [lane_of_set hlanes, hsense]
  split
  · exact hlanes
  · rw [completeClosing_lanes, lane_of_set hlanes, hlanes, PerLane.set_set, settleBerthOf_supervisor, changeLane_supervisor]
    rfl

theorem followClear_lanes (i : LaneIx) (s : State) :
    (followClear i s).lanes = s.lanes.set i ((s.lane i).followed s.runTime) := by
  unfold followClear Lane.followed
  dsimp only
  split
  · split
    · split
      · rfl
      · exact (lanes_set_lane s i).symm
    · rfl
  · exact (lanes_set_lane s i).symm

/-- A movement leaves the lane units alone or brings its lane, which held a hold, to CLEARING. It does so at a present lane where an
expiry was deferred (R33, R34, R40). -/
theorem takeMovement_lanes (i : LaneIx) (m : Movement) (entry : EntrySide) (s : State) :
    ((takeMovement i m entry s).lanes = s.lanes ∧ (s.lanePresent i = true → (s.lane i).deferredHold = none)) ∨
    ((takeMovement i m entry s).lanes = s.lanes.set i ((s.lane i).toClearing s.runTime) ∧ (s.lane i).hold ≠ none) := by
  unfold takeMovement
  dsimp only
  generalize hc : (if m = .forward then (s.lane i).consumable else none) = consumed
  generalize passageNotice s i m entry consumed = n
  have hlane : (postOpt n s).lane i = s.lane i := lane_congr (postOpt_lanes n s) i
  split
  · cases consumed with
    | some h =>
      refine .inr ⟨by simp [consumeHold_lanes, hlane], ?_⟩
      unfold Lane.consumable at hc
      split at hc
      · split at hc
        · simp [hc]
        · cases hc
      · cases hc
    | none =>
      dsimp only
      rw [hlane]
      split
      · next hd => exact .inl ⟨by simp [reportPassage_lanes], fun _ => hd⟩
      · next h hd =>
        refine .inr ⟨?_, ?_⟩
        · rw [reportTo_lanes (by simp), reportPassage_lanes, dropHold_lanes, hlane]
          simp
          rfl
        · unfold Lane.deferredHold at hd
          split at hd
          · simp [hd]
          · cases hd
  · next hp => exact .inl ⟨rfl, fun h => absurd h hp⟩

theorem followed_state_berth (now : Nat) (l : Lane) :
    (l.followed now).state = l.state ∧ (l.followed now).berth = l.berth := by
  unfold Lane.followed
  repeat' split
  all_goals exact ⟨rfl, rfl⟩

/-- What the accepted levels make of their lane: its decoder takes them, a movement that ends a hold brings the lane to CLEARING, and then
its clear timer follows. A movement at a present lane that does not is one where no expiry was deferred (R33, R34, R36, R57). -/
theorem takeBeams_lanes (i : LaneIx) (u : State) :
    ((takeBeams i u).lanes = u.lanes.set i (((u.lane i).takePair u.runTime).1.followed u.runTime) ∧
        (((u.lane i).takePair u.runTime).2 ≠ none → u.lanePresent i = true → (u.lane i).deferredHold = none)) ∨
    ((takeBeams i u).lanes =
          u.lanes.set i ((((u.lane i).takePair u.runTime).1.toClearing u.runTime).followed u.runTime) ∧
        (u.lane i).hold ≠ none) := by
  have hset := setLane_lanes i (fun _ => ((u.lane i).takePair u.runTime).1) u
  unfold takeBeams
  dsimp only
  cases hx : ((u.lane i).takePair u.runTime).2 with
  | none =>
    dsimp only
    rw [followClear_lanes, lane_of_set hset, hset, PerLane.set_set]
    exact .inl ⟨rfl, fun hn => absurd rfl hn⟩
  | some x =>
    obtain ⟨m, entry⟩ := x
    dsimp only
    rcases takeMovement_lanes i m entry (setLane i (fun _ => ((u.lane i).takePair u.runTime).1) u) with ⟨hm, hd⟩ | ⟨hm, hh⟩
    · rw [followClear_lanes, lane_of_set (hm.trans hset), hm, hset, PerLane.set_set, takeMovement_runTime]
      rw [lane_of_set hset] at hd
      exact .inl ⟨rfl, fun _ => hd⟩
    · rw [followClear_lanes, lane_of_set hm, hm, lane_of_set hset, hset, PerLane.set_set, PerLane.set_set, takeMovement_runTime]
      rw [lane_of_set hset] at hh
      exact .inr ⟨rfl, hh⟩

/-! ### The law after a change of one lane -/

section
variable {s u : State} {i : LaneIx} {l : Lane}

theorem LaneLaw.frames (h : LaneLaw s) (hv : u.supervisor.setup = s.supervisor.setup) (hl : u.lanes = s.lanes) :
    LaneLaw u := by
  rw [laneLaw_iff] at h ⊢
  intro j
  have hp : u.lanePresent j = s.lanePresent j := by rw [State.lanePresent, hv, State.lanePresent]
  rw [lane_congr hl, hp]
  exact h j

theorem LaneLaw.set (h : LaneLaw s) (hv : u.supervisor.setup = s.supervisor.setup) (hl : u.lanes = s.lanes.set i l)
    (hlaw : l.Lawful (s.lanePresent i)) : LaneLaw u := by
  rw [laneLaw_iff] at h ⊢
  intro j
  have hp : u.lanePresent j = s.lanePresent j := by rw [State.lanePresent, hv, State.lanePresent]
  rw [hp]
  by_cases hj : j = i
  · rw [hj, lane_of_set hl]
    exact hlaw
  · rw [lane_of_set_other hl hj]
    exact h j

theorem LaneLaw.lawful (h : LaneLaw s) (i : LaneIx) : (s.lane i).Lawful (s.lanePresent i) := (laneLaw_iff s).mp h i

theorem LaneLaw.sound (h : LaneLaw s) (i : LaneIx) : (s.lane i).Sound := (h.lawful i).sound

/-- A present lane takes another sound form. -/
theorem LaneLaw.turn (h : LaneLaw s) (hv : u.supervisor.setup = s.supervisor.setup) (hl : u.lanes = s.lanes.set i l)
    (hp : s.lanePresent i = true) (hsound : l.Sound) : LaneLaw u :=
  h.set hv hl (hsound.lawful hp)

theorem LaneLaw.present (h : LaneLaw s) (hs : (s.lane i).state ≠ .off) : s.lanePresent i = true := (h.lawful i).present hs

/-! ### Beams (R33, R34, R36, R49 to R57) -/

/-- A lane whose beams have changed takes them and is lawful again. -/
theorem takeBeams_laneLaw (h : LaneLaw s) (hv : u.supervisor.setup = s.supervisor.setup) (hl : u.lanes = s.lanes.set i l)
    (hready : l.Ready) (hstate : l.state = (s.lane i).state) (hberth : l.berth = (s.lane i).berth) :
    LaneLaw (takeBeams i u) := by
  have hp : u.lanePresent i = s.lanePresent i := by rw [State.lanePresent, hv, State.lanePresent]
  have hon : l.state ≠ .off → s.lanePresent i = true := fun hs => h.present (hstate ▸ hs)
  have hset : ∀ l', (takeBeams i u).lanes = u.lanes.set i l' → (takeBeams i u).lanes = s.lanes.set i l' :=
    fun l' hl' => by rw [hl', hl, PerLane.set_set]
  rcases takeBeams_lanes i u with ⟨hlanes, hd⟩ | ⟨hlanes, hh⟩ <;> rw [lane_of_set hl] at *
  · refine h.set (by simp [hv]) (hset _ hlanes) ⟨followed_sound hready _ fun hc => ?_, fun hf => ?_⟩
    · by_contra he
      obtain ⟨hopen, hne⟩ := hready.coherent.2.2.2.2.1 (by simpa using he)
      obtain ⟨k, -, hk, -⟩ := hready.coherent.held (.inr hopen)
      have hmoved : (l.takePair u.runTime).2 ≠ none := fun hx =>
        hne (takePair_clear hx ((takePair_decoded hready _).1.symm.trans hc))
      have hnone := hd hmoved (hp.trans (hon (by simp [hopen])))
      simp [Lane.deferredHold, he, hk] at hnone
    · obtain ⟨hs, hb⟩ := followed_state_berth u.runTime (l.takePair u.runTime).1
      rw [hs, hb]
      exact hstate ▸ hberth ▸ (h.lawful i).absent hf
  · refine h.turn (by simp [hv]) (hset _ hlanes) (hon ?_) (cleared_sound hready hh _)
    rcases hready.coherent.holding hh with hs | hs <;> simp [hs]

theorem takeAccepted_laneLaw (h : LaneLaw s) (hv : u.supervisor.setup = s.supervisor.setup) (hl : u.lanes = s.lanes.set i l)
    (hready : l.Ready) (hstate : l.state = (s.lane i).state) (hberth : l.berth = (s.lane i).berth) (old : Lane) :
    LaneLaw (takeAccepted i old u) := by
  unfold takeAccepted
  dsimp only
  refine takeBeams_laneLaw h (by simp [hv]) (l := (l.acceptDue u.runTime).acceptWaiting u.runTime
    (waitingRaw i (u.lane i).beamA.raw (u.lane i).beamB.raw u.pending) old) ?_ (acceptWaiting_ready (acceptDue_ready hready _) ..)
    ?_ ?_
  · simp [hl, lane_of_set hl]
  · rw [acceptWaiting_state]
    exact hstate
  · rw [acceptWaiting_berth]
    exact hberth

theorem beamRaw_laneLaw (i : LaneIx) (a b : Bool) (h : LaneLaw s) : LaneLaw (beamRaw i a b s) := by
  have ha := rawChange_measured (h.sound i).beamA (s.lane i).filterCode s.runTime a
  have hb := rawChange_measured (h.sound i).beamB (s.lane i).filterCode s.runTime b
  unfold beamRaw
  dsimp only
  generalize (s.lane i).beamA.rawChange (s.lane i).filterCode s.runTime a = a at ha ⊢
  generalize (s.lane i).beamB.rawChange (s.lane i).filterCode s.runTime b = b at hb ⊢
  have hready : ({ s.lane i with beamA := a, beamB := b } : Lane).Ready := (h.sound i).beams ha hb
  have hlanes := setLane_lanes i (fun l => { l with beamA := a, beamB := b }) s
  have hv := setLane_supervisor i (fun l => { l with beamA := a, beamB := b }) s
  generalize setLane i (fun l => { l with beamA := a, beamB := b }) s = u at hlanes hv ⊢
  have hset := congrArg Supervisor.setup hv
  split
  · next he =>
    have hpair : (s.lane i).decoder.pair = ({ s.lane i with beamA := a, beamB := b } : Lane).pair := by
      rw [(h.sound i).pair, Lane.pair, Lane.pair, he.1, he.2]
    exact h.set hset hlanes ⟨⟨hready, hpair⟩, (h.lawful i).absent⟩
  · exact takeAccepted_laneLaw h hset hlanes hready rfl rfl _

theorem beamAccepted_laneLaw (i : LaneIx) (h : LaneLaw s) : LaneLaw (beamAccepted i s) := by
  unfold beamAccepted
  split
  · exact takeAccepted_laneLaw h rfl (lanes_set_lane s i).symm (h.sound i).toReady rfl rfl _
  · exact h

/-! ### Barrier events and timers (R31, R32, R34, R36 to R38) -/

theorem faultLane_laneLaw (h : LaneLaw s) (hp : s.lanePresent i = true) (hs : (s.lane i).state ≠ .opened) (c : LaneFaultCause) :
    LaneLaw (faultLane i c s) :=
  h.turn (by simp) (faultLane_lanes ..) hp (toFault_sound (h.sound i) hs c)

theorem completeClosing_laneLaw (h : LaneLaw s) (hs : (s.lane i).state = .closing) : LaneLaw (completeClosing i s) :=
  h.turn (by simp) (completeClosing_lanes ..) (h.present (by simp [hs]))
    (closingDone_sound (h.sound i) hs (by split <;> simp))

theorem startClosing_laneLaw (h : LaneLaw s) (hs : (s.lane i).state = .clearing ∨ (s.lane i).state = .fault) (returning : Bool) :
    LaneLaw (startClosing i (fun l => { l with faultCause := none, returning := returning }) s) := by
  have hsound := closing_sound (h.sound i) hs returning s.runTime
  refine h.turn (by simp) (startClosing_lanes ..) (h.present (by rcases hs with hs | hs <;> simp [hs])) ?_
  split
  · exact hsound
  · exact closingDone_sound hsound rfl (by split <;> simp)

theorem senseChange_laneLaw (i : LaneIx) (o : Bool) (h : LaneLaw s) : LaneLaw (senseChange i o s) := by
  unfold senseChange
  dsimp only
  have hset : LaneLaw (setLane i (fun l => { l with sense := o }) s) :=
    h.set rfl rfl ⟨sense_sound (h.sound i) o, (h.lawful i).absent⟩
  split
  · exact h
  · generalize setLane i (fun l => { l with sense := o }) s = u at hset ⊢
    split
    · next hs _ =>
      exact hset.turn (by simp) ((settleBerthOf_lanes ..).trans (changeLane_lanes ..)) (hset.present (by simp [hs])) (toOpen_sound (hset.sound i) hs _)
    · next hs _ =>
      exact hset.turn (by simp) ((settleBerthOf_lanes ..).trans (changeLane_lanes ..)) (hset.present (by simp [hs])) (toOpening_sound (hset.sound i) hs _)
    · next hs _ => exact faultLane_laneLaw hset (hset.present (by simp [hs])) (by simp [hs]) _
    · next hs _ => exact completeClosing_laneLaw hset hs
    · next hs _ => exact faultLane_laneLaw hset (hset.present (by simp [hs])) (by simp [hs]) _
    · exact hset

theorem barrierExpiry_laneLaw (i : LaneIx) (h : LaneLaw s) : LaneLaw (barrierExpiry i s) := by
  unfold barrierExpiry
  split
  · split
    · next hs =>
      split
      · refine h.turn (i := i) (l := (s.lane i).toFault .openTimeout) ?_ ?_ (h.present (by simp [hs]))
          (toFault_sound (h.sound i) (by simp [hs]) _)
        · unfold reportTo; split <;> simp
        · rw [reportTo_lanes (by simp), post_lanes, dropHold_lanes]
          rfl
      · exact faultLane_laneLaw h (h.present (by simp [hs])) (by simp [hs]) _
    · next hs => exact faultLane_laneLaw h (h.present (by simp [hs])) (by simp [hs]) _
    · exact h
  · exact h

theorem passageExpiry_laneLaw (i : LaneIx) (h : LaneLaw s) : LaneLaw (passageExpiry i s) := by
  unfold passageExpiry
  split
  · next hs =>
    have hp : s.lanePresent i = true := h.present (by simp [hs.1])
    have hclear := toClearing_sound (h.sound i) (by simp [hs.1]) s.runTime
    split
    · split
      · exact h.turn (by simp) (voidHold_lanes ..) hp hclear
      · exact h.turn (by simp) (by simp) hp hclear
    · next hc => exact h.turn rfl rfl hp (deferred_sound (h.sound i) hs.1 hc)
  · exact h

theorem clearExpiry_laneLaw (i : LaneIx) (h : LaneLaw s) : LaneLaw (clearExpiry i s) := by
  unfold clearExpiry
  split
  · next hs =>
    have hp : s.lanePresent i = true := h.present (by simp [hs.1])
    split
    · have hf := (h.sound i).coherent.faultless (by simp [hs.1])
      have hid : startClosing i id s =
          startClosing i (fun l => { l with faultCause := none, returning := (s.lane i).returning }) s := by
        unfold startClosing changeLane setLane
        simp [← hf]
      rw [hid]
      exact startClosing_laneLaw h (.inl hs.1) _
    · exact h.turn (by simp) (by simp) hp (toOff_sound (h.sound i))
    · exact h
  · exact h

/-! ### Service and egress (R41 to R43, R187, R189) -/

theorem laneAtStart_laneLaw (h : LaneLaw s) (i : LaneIx) : LaneLaw (laneAtStart s i) := by
  unfold laneAtStart
  split
  · next hs =>
    split
    · exact faultLane_laneLaw h hs.1 (by simp [hs.2]) _
    · exact h.turn (by simp) (changeLane_lanes ..) hs.1 (started_sound (h.sound i) hs.2)
  · exact h

theorem laneAtStop_laneLaw (h : LaneLaw s) (i : LaneIx) : LaneLaw (laneAtStop s i) := by
  unfold laneAtStop
  split
  · next hp =>
    have hoff := toOff_sound (h.sound i)
    exact h.turn (by simp) (changeLane_lanes ..) hp (hoff.of_coherent hoff.coherent rfl rfl rfl rfl rfl)
  · exact h

theorem laneToEgress_laneLaw (h : LaneLaw s) (i : LaneIx) : LaneLaw (laneToEgress s i) := by
  unfold laneToEgress
  split
  · next hs =>
    have hegress := toEgress_sound (h.sound i)
    split
    · exact h.turn (by simp) (voidHold_lanes ..) hs.1 hegress
    · exact h.turn (by simp) (by simp) hs.1 hegress
  · exact h

theorem laneFromEgress_laneLaw (h : LaneLaw s) (i : LaneIx) : LaneLaw (laneFromEgress s i) := by
  unfold laneFromEgress
  split
  · next hs =>
    exact h.turn (i := i) (l := (s.lane i).toClearing s.runTime) (by simp) (by simp) (h.present (by simp [hs]))
      (toClearing_sound (h.sound i) (by simp [hs]) _)
  · exact h

/-- A fold over the lanes keeps what each lane's turn keeps. -/
theorem foldl_lanes {P : State → Prop} {f : State → LaneIx → State} (hf : ∀ {s}, P s → ∀ i, P (f s i)) (h : P s) :
    P (allLanes.foldl f s) :=
  List.foldlRecOn allLanes f h fun _ hs i _ => hf hs i

theorem setPontoon_laneLaw (h : LaneLaw s) (st : PontoonState) (ret : Option PontoonState) (c : PontoonCause) :
    LaneLaw (setPontoon st ret c s) :=
  h.frames (by simp [setPontoon]) (by simp [setPontoon])

theorem enterEgress_laneLaw (h : LaneLaw s) (changed : Option EgressCause) : LaneLaw (enterEgress changed s) := by
  have hstate := setPontoon_laneLaw h .egress (some s.supervisor.state) .egressBegin
  unfold enterEgress
  exact foldl_lanes (P := LaneLaw) laneToEgress_laneLaw (hstate.frames (by simp) (by simp))

theorem leaveEgress_laneLaw (h : LaneLaw s) (c : EgressCause) : LaneLaw (leaveEgress c s) := by
  have hstate := setPontoon_laneLaw h (s.supervisor.returnState.getD .outOfService) none .egressEnd
  unfold leaveEgress
  exact foldl_lanes (P := LaneLaw) laneFromEgress_laneLaw (hstate.frames (by simp) (by simp))

theorem demandEvent_laneLaw (h : LaneLaw s) (before : Bool) (c : EgressCause) : LaneLaw (demandEvent before c s) := by
  have hpost : ∀ n, LaneLaw (post n s) := fun n => h.frames (by simp) (by simp)
  unfold demandEvent
  split
  · exact h
  · split
    · split
      · exact enterEgress_laneLaw h _
      · exact enterEgress_laneLaw h _
      · exact hpost _
    · split
      · exact leaveEgress_laneLaw h _
      · exact hpost _

/-! ### Requests (R30, R39, R44, R45, R182, R185, R191) -/

/-- A fold whose turn at each lane changes that lane alone, and by a change of its own, applies each change once. -/
theorem foldl_lane_eq {f : State → LaneIx → State} {g : LaneIx → Lane → Lane}
    (hf : ∀ s i, (f s i).lanes = s.lanes.set i (g i (s.lane i))) {is : List LaneIx} (hn : is.Nodup) (s : State) (j : LaneIx) :
    (is.foldl f s).lane j = if j ∈ is then g j (s.lane j) else s.lane j := by
  induction is generalizing s with
  | nil => simp
  | cons i is ih =>
    obtain ⟨hi, hn⟩ := List.nodup_cons.mp hn
    rw [List.foldl_cons, ih hn (f s i)]
    by_cases hj : j = i
    · subst hj
      simp [hi, lane_of_set (hf s j)]
    · simp [hj, lane_of_set_other (hf s i) hj]

/-- What a SETUP makes of one lane (R44, R182). -/
def Lane.setUp (wasPresent : Nat) (r : SetupRequest) (i : LaneIx) (l : Lane) : Lane :=
  match r.lanes[i.val]? with
  | some rec => l.takeRecord rec
  | none => if i.val < wasPresent then l.toAbsent else l

theorem setupLane_lanes (wasPresent : Nat) (r : SetupRequest) (s : State) (i : LaneIx) :
    (setupLane wasPresent r s i).lanes = s.lanes.set i ((s.lane i).setUp wasPresent r i) := by
  unfold setupLane Lane.setUp
  cases r.lanes[i.val]? with
  | some rec => rfl
  | none =>
    dsimp only
    split
    · rfl
    · exact (lanes_set_lane s i).symm

/-- A lane is lawful under the number of lanes that a SETUP with as many lane records makes present. -/
theorem setUp_lawful {wasPresent : Nat} {r : SetupRequest} (h : l.Lawful (decide (i.val < wasPresent)))
    (hr : r.lanes.length = r.lanesPresent) : (l.setUp wasPresent r i).Lawful (decide (i.val < r.lanesPresent)) := by
  unfold Lane.setUp
  split
  · next rec hrec =>
    have hi := (List.getElem?_eq_some_iff.mp hrec).1
    exact (takeRecord_sound h.sound rec).lawful (by simpa [hr] using hi)
  · split
    · have hoff := toOff_sound h.sound
      exact ⟨assigned_sound hoff rfl none, fun _ => ⟨rfl, rfl⟩⟩
    · next hi => exact ⟨h.sound, fun _ => h.absent (by simpa using hi)⟩

theorem ownSetup_laneLaw (h : LaneLaw s) {r : SetupRequest} (hr : r.lanes.length = r.lanesPresent) : LaneLaw (ownSetup r s).1 := by
  unfold ownSetup
  split
  · exact h
  · split
    · exact h
    · dsimp only
      have hset : LaneLaw (allLanes.foldl (setupLane s.supervisor.setup.lanesPresent r)
          { s with supervisor := { s.supervisor with setup := setupValues r } }) := by
        rw [laneLaw_iff]
        intro i
        rw [foldl_lane_eq (setupLane_lanes _ r) nodup_allLanes, if_pos (mem_allLanes i)]
        rw [State.lanePresent, foldl_setupLane_supervisor]
        exact setUp_lawful (h.lawful i) hr
      generalize allLanes.foldl (setupLane s.supervisor.setup.lanesPresent r)
        { s with supervisor := { s.supervisor with setup := setupValues r } } = u at hset ⊢
      have hout : LaneLaw (if decide (s.supervisor.state = .config) = true then setPontoon .outOfService none .setup u else u) := by
        split
        · exact setPontoon_laneLaw hset .outOfService none .setup
        · exact hset
      generalize (if decide (s.supervisor.state = .config) = true then setPontoon .outOfService none .setup u else u) = v at hout ⊢
      have hwindow : LaneLaw (if (setupValues r).markWindow = s.supervisor.setup.markWindow then v else windowExpiry v) := by
        split
        · exact hout
        · exact hout.frames (by simp) (by simp)
      generalize (if (setupValues r).markWindow = s.supervisor.setup.markWindow then v else windowExpiry v) = w at hwindow ⊢
      split
      · exact enterEgress_laneLaw hwindow none
      · exact hwindow

theorem laneAtRestart_laneLaw (h : LaneLaw s) (i : LaneIx) : LaneLaw (laneAtRestart s i) := by
  have hsound : (s.lane i).offIfFault.reseat.Sound := reseat_sound (offIfFault_sound (h.sound i)) (s.lane i).offIfFault.beamOrder
  refine h.set rfl (changeLane_lanes ..) ⟨hsound, fun hp => ?_⟩
  obtain ⟨hs, hb⟩ := (h.lawful i).absent hp
  have hno : (s.lane i).offIfFault = s.lane i := if_neg (by simp [hs])
  exact ⟨by rw [hno]; exact hs, by rw [hno]; exact hb⟩

theorem ownRestart_laneLaw (h : LaneLaw s) : LaneLaw (ownRestart s).1 := by
  unfold ownRestart
  split
  · exact h
  · dsimp only
    have hlanes : LaneLaw (allLanes.foldl laneAtRestart
        { s with link := { s.link with queue := [], lost := 0, stats := LinkStats.zero }, recent := [] }) :=
      foldl_lanes (P := LaneLaw) laneAtRestart_laneLaw (h.frames rfl rfl)
    exact hlanes.frames (by simp) (by simp)

/-- A lane request past its checks acts at a present lane (R39, R45, R48). -/
theorem atLane_keeps {P : State → Prop} (h : P s) {n : Nat} {f : LaneIx → State × Reply}
    (hf : ∀ i, s.lanePresent i = true → P (f i).1) : P (atLane n s f).1 := by
  unfold atLane State.lane?
  split
  · exact h
  · by_cases h8 : n < 8 <;> by_cases hp : n < s.supervisor.setup.lanesPresent <;>
      simp only [h8, hp, if_pos, if_neg, dif_pos, dif_neg, not_false_eq_true]
    · exact hf ⟨n, h8⟩ (by simpa [State.lanePresent] using hp)
    all_goals exact h

theorem ownLaneAssign_laneLaw (h : LaneLaw s) (n : Nat) (b : Option Nat) : LaneLaw (ownLaneAssign n b s).1 := by
  refine atLane_keeps h fun i hp => ?_
  split
  · exact h
  · next b _ =>
    split
    · exact h
    · next hs =>
      have hhold := ((h.sound i).coherent.idle (by rintro (he | he) <;> simp [he, LaneState.busy] at hs)).1
      unfold assignLane settleOpt
      dsimp only
      split
      · exact h
      · refine h.turn (i := i) (l := { s.lane i with berth := b }) ?_ ?_ hp (assigned_sound (h.sound i) hhold b)
        all_goals repeat' split
        all_goals simp

theorem ownLaneReturn_laneLaw (h : LaneLaw s) (n : Nat) : LaneLaw (ownLaneReturn n s).1 := by
  refine atLane_keeps h fun i _ => ?_
  split
  · exact h
  · next hs => exact startClosing_laneLaw h (.inr (not_not.mp hs)) true

/-- A lane state that gives no refusal is CLOSED (R90). -/
theorem refusal_none {st : LaneState} (h : st.refusal = none) : st = .closed := by
  cases st <;> simp [LaneState.refusal] at h ⊢

/-- The checks on the lane and its berth refuse, or hand the card's checks a CLOSED lane and the OPEN trip of its berth (R88 to R91). -/
theorem judge_cases (s : State) (lane : Nat) (c : Credential) :
    (∃ r, judge s lane c = .refuse r none none) ∨
    ∃ i b t, s.lane? lane = some i ∧ (s.lane i).berth = some b ∧ (s.lane i).state = .closed ∧ s.berth b = some t ∧
      t.phase = .opened ∧ judge s lane c = judgeCard s i b t c := by
  unfold judge
  split
  · exact .inl ⟨_, rfl⟩
  · split
    · exact .inl ⟨_, rfl⟩
    · next i hi =>
      split
      · exact .inl ⟨_, rfl⟩
      · next b hb =>
        split
        · exact .inl ⟨_, rfl⟩
        · split
          · exact .inl ⟨_, rfl⟩
          · next hs =>
            split
            · exact .inl ⟨_, rfl⟩
            · next t ht =>
              split
              · exact .inl ⟨_, rfl⟩
              · next hp => exact .inr ⟨i, b, t, hi, hb, refusal_none hs, ht, not_not.mp hp, rfl⟩

/-- The checks on the card refuse or admit at the lane and berth they are handed (R92 to R98). -/
theorem judgeCard_cases (s : State) (i : LaneIx) (b : BerthIx) (t : Trip) (c : Credential) :
    (∃ r slot d, judgeCard s i b t c = .refuse r slot d) ∨ (∃ d, judgeCard s i b t c = .courtesy i b t d) ∨
      ∃ x g p pay, judgeCard s i b t c = .pays i b t x g p pay := by
  have hfare : (∃ r slot d, judgeFare s i b t c = .refuse r slot d) ∨ ∃ x g p pay, judgeFare s i b t c = .pays i b t x g p pay := by
    unfold judgeFare
    dsimp only
    split
    · split
      · exact .inr ⟨_, _, _, _, rfl⟩
      · exact .inl ⟨_, _, _, rfl⟩
    · exact .inl ⟨_, _, _, rfl⟩
  have hplace : (∃ r slot d, judgePlace s i b t c = .refuse r slot d) ∨ (∃ d, judgePlace s i b t c = .courtesy i b t d) ∨
      ∃ x g p pay, judgePlace s i b t c = .pays i b t x g p pay := by
    unfold judgePlace
    split
    · split
      · exact .inr (.inl ⟨_, rfl⟩)
      · exact .inl ⟨_, _, _, rfl⟩
    · split
      · exact hfare.imp_right .inr
      · exact .inl ⟨_, _, _, rfl⟩
  unfold judgeCard
  split
  · exact .inl ⟨_, _, _, rfl⟩
  · split
    · exact .inl ⟨_, _, _, rfl⟩
    · split
      · exact .inl ⟨_, _, _, rfl⟩
      · split
        · exact .inl ⟨_, _, _, rfl⟩
        · split
          · exact .inl ⟨_, _, _, rfl⟩
          · exact hplace

theorem applyGrant_lanes (i : LaneIx) (b : BerthIx) (ref card : Nat) (kind : AdmissionKind) (charge : Nat)
    (exhausted : Option Notice) (s : State) :
    (applyGrant i b ref card kind charge exhausted s).lanes = (takeHold i ⟨card, ref, charge, kind⟩ s).lanes := by
  simp [applyGrant]

theorem applyGrant_laneLaw (h : LaneLaw s) (hs : (s.lane i).state = .closed) {b : BerthIx} (hb : (s.lane i).berth = some b)
    (ref card : Nat) (kind : AdmissionKind) (charge : Nat) (exhausted : Option Notice) :
    LaneLaw (applyGrant i b ref card kind charge exhausted s) := by
  have hgranted := granted_sound (h.sound i) hs (by simp [hb]) ⟨card, ref, charge, kind⟩ s.runTime
  refine h.turn (by simp) ((applyGrant_lanes ..).trans (takeHold_lanes ..)) (h.present (by simp [hs])) ?_
  split
  · exact toOpen_sound hgranted rfl _
  · exact hgranted

theorem ownPresent_laneLaw (h : LaneLaw s) (lane : Nat) (c : Credential) : LaneLaw (ownPresent lane c s).1 := by
  have hrefused : LaneLaw (applyRefusal lane s) := h.frames (by simp) (by simp)
  unfold ownPresent
  rcases judge_cases s lane c with ⟨r, hj⟩ | ⟨i, b, t, -, hb, hs, -, -, hj⟩
  · rw [hj]
    exact hrefused
  · rw [hj]
    rcases judgeCard_cases s i b t c with ⟨r, slot, d, hc⟩ | ⟨d, hc⟩ | ⟨x, g, p, pay, hc⟩ <;> rw [hc]
    · exact hrefused
    · exact applyGrant_laneLaw h hs hb _ _ _ _ _
    · exact applyGrant_laneLaw h hs hb _ _ _ _ _

theorem ownServiceStart_laneLaw (h : LaneLaw s) (freeRun : Option ServiceTime) : LaneLaw (ownServiceStart freeRun s).1 := by
  have hfree : LaneLaw (applyFreeRun freeRun s) := h.frames (by simp) (by simp)
  have hstarted := foldl_lanes (P := LaneLaw) laneAtStart_laneLaw (setPontoon_laneLaw hfree .inService none .start)
  unfold ownServiceStart
  split
  · exact h
  · split
    · exact h
    · split
      · exact h
      · split
        · exact h
        · dsimp only
          exact hstarted

theorem ownServiceStop_laneLaw (h : LaneLaw s) : LaneLaw (ownServiceStop s).1 := by
  unfold ownServiceStop
  split
  · exact h
  · split
    · exact h
    · dsimp only
      exact foldl_lanes (P := LaneLaw) laneAtStop_laneLaw (setPontoon_laneLaw h .outOfService none .stop)

theorem setLatch_laneLaw (h : LaneLaw s) (v : Bool) : LaneLaw (setLatch v s) :=
  demandEvent_laneLaw (h.frames (u := { s with supervisor := { s.supervisor with latch := v } }) rfl rfl) _ _

theorem ownEgressBegin_laneLaw (h : LaneLaw s) : LaneLaw (ownEgressBegin s).1 := by
  unfold ownEgressBegin egressReply
  split
  · exact h
  · exact setLatch_laneLaw h true

theorem ownEgressEnd_laneLaw (h : LaneLaw s) : LaneLaw (ownEgressEnd s).1 := by
  unfold ownEgressEnd egressReply
  split
  · exact setLatch_laneLaw h false
  · exact h

theorem owner_laneLaw {q : Request} (hq : lengthFault q = none) (h : LaneLaw s) : LaneLaw (owner q s).1 := by
  cases q with
  | setup r => exact ownSetup_laneLaw h (by simpa [lengthFault] using hq)
  | serviceStart t => exact ownServiceStart_laneLaw h t
  | serviceStop => exact ownServiceStop_laneLaw h
  | egressBegin => exact ownEgressBegin_laneLaw h
  | egressEnd => exact ownEgressEnd_laneLaw h
  | restart => exact ownRestart_laneLaw h
  | laneAssign n b => exact ownLaneAssign_laneLaw h n b
  | laneReturn n => exact ownLaneReturn_laneLaw h n
  | present n c => exact ownPresent_laneLaw h n c
  | _ => exact h.frames (by simp [owner]) (by simp [owner])

/-- The law of the lanes is kept by every event and every request. -/
theorem laneLaw_rules : StepRules LaneLaw where
  frames hl _ _ hv h := h.frames (congrArg Supervisor.setup hv) hl
  owner hq h := owner_laneLaw hq h
  powerOnReset pins s := (laneLaw_powerOn pins).frames rfl rfl
  beamRaw i a b _ h := beamRaw_laneLaw i a b h
  beamAccepted i _ h := beamAccepted_laneLaw i h
  senseChange i o _ h := senseChange_laneLaw i o h
  barrierExpiry i _ h := barrierExpiry_laneLaw i h
  passageExpiry i _ h := passageExpiry_laneLaw i h
  clearExpiry i _ h := clearExpiry_laneLaw i h
  serviceAdvance h := h.frames (by simp) (by simp)
  lineRaw raw _ h := h.frames (by unfold lineRaw; dsimp only; split <;> rfl) (by simp)
  lineAccepted {s} h := by
    unfold lineAccepted
    split
    · exact demandEvent_laneLaw (h.frames (u := { s with supervisor := { s.supervisor with
        line := ⟨s.supervisor.line.raw, s.supervisor.line.raw, none⟩ } }) rfl rfl) _ _
    · exact h

/-- Settles O45: each event and each request keeps the law of the lanes (`laneLaw_rules`), whatever the supervisor does. -/
theorem lanesStayCoherent : Obligations.LanesStayCoherent :=
  fun _ _ h _ _ hs => laneLaw_rules.step h hs

end

end Sys2Proof.Machine
end

section
/-! SUPPORT. The holds of every berth are those of its lanes (R29), also while a lane's report of an ended hold is still on its way to the
berth: what the operations of the berths and of the lanes make of this. -/

namespace Sys2Proof.Machine

open Sys2Proof

/-! ### The holds of the lanes and of the berths -/

/-- The law of the holds, where the berth `o` has not yet taken the report of one hold that has ended. Each hold is placed: its lane is
OPENING or OPEN and assigned to a berth. -/
structure Owing (o : Option BerthIx) (s : State) : Prop where
  counts : ∀ b, holdsOf (s.berth b) = s.lanesHolding b + (if o = some b then 1 else 0)
  trips : ∀ i b h, (s.lane i).berth = some b → (s.lane i).hold = some h →
    ∃ t, s.berth b = some t ∧ t.phase ≠ .departed ∧ h.tripRef = t.context.tripRef
  debt : ∀ b, o = some b → ∃ t, s.berth b = some t ∧ t.phase ≠ .departed
  placed : ∀ i, (s.lane i).hold ≠ none →
    ((s.lane i).state = .opening ∨ (s.lane i).state = .opened) ∧ (s.lane i).berth ≠ none

theorem Owing.of_laws {s : State} (h : HoldLaw s) (hl : LaneLaw s) : Owing none s where
  counts b := h.1 b
  trips := h.2
  debt b hb := nomatch hb
  placed i hi := by
    obtain ⟨hhold, -, -, -, -, -, hberth⟩ := (hl.sound i).coherent
    exact ⟨hhold.mp hi, hberth hi⟩

theorem Owing.holdLaw {s : State} (h : Owing none s) : HoldLaw s := ⟨h.counts, h.trips⟩

/-- Whether a lane holds a hold for a berth. -/
def Lane.holdsFor (b : BerthIx) (l : Lane) : Bool := decide (l.berth = some b) && l.hold.isSome

theorem lanesHolding_eq (s : State) (b : BerthIx) : s.lanesHolding b = allLanes.countP fun i => (s.lane i).holdsFor b := by
  rw [List.countP_eq_length_filter]
  rfl

/-- Two counts over items that differ in one item alone. -/
theorem countP_update {α : Type} {p q : α → Bool} {x : α} (h : ∀ y, y ≠ x → q y = p y) {l : List α} (hn : l.Nodup) (hx : x ∈ l) :
    l.countP q + (p x).toNat = l.countP p + (q x).toNat := by
  induction l with
  | nil => cases hx
  | cons y l ih =>
    obtain ⟨hy, hn⟩ := List.nodup_cons.mp hn
    rw [List.countP_cons, List.countP_cons]
    by_cases hxy : y = x
    · subst hxy
      have hrest : l.countP q = l.countP p := List.countP_congr fun z hz => by rw [h z fun e => hy (e ▸ hz)]
      rw [hrest]
      cases p y <;> cases q y <;> simp
    · have := ih hn ((List.mem_cons.mp hx).resolve_left (Ne.symm hxy))
      rw [h y hxy]
      omega

section
variable {s u : State} {i : LaneIx} {l : Lane} {b : BerthIx} {o : Option BerthIx}

/-- The lanes that hold for a berth after a change of one lane. -/
theorem lanesHolding_set (hl : u.lanes = s.lanes.set i l) (b : BerthIx) :
    u.lanesHolding b + ((s.lane i).holdsFor b).toNat = s.lanesHolding b + (l.holdsFor b).toNat := by
  have h := countP_update (p := fun j => (s.lane j).holdsFor b) (q := fun j => (u.lane j).holdsFor b) (x := i)
    (fun j hj => by rw [lane_of_set_other hl hj]) nodup_allLanes (mem_allLanes i)
  simpa only [lanesHolding_eq, lane_of_set hl] using h

theorem lanesHolding_congr (hl : u.lanes = s.lanes) (b : BerthIx) : u.lanesHolding b = s.lanesHolding b := by
  unfold State.lanesHolding
  rw [funext fun j => lane_congr hl j]

theorem holdsFor_of_hold (hl : l.hold = none) (b : BerthIx) : l.holdsFor b = false := by simp [Lane.holdsFor, hl]

/-- With no lane holding for a berth, its lanes have no hold. -/
theorem hold_of_lanesHolding (h : s.lanesHolding b = 0) (hb : (s.lane i).berth = some b) : (s.lane i).hold = none := by
  rw [lanesHolding_eq, List.countP_eq_zero] at h
  simpa [Lane.holdsFor, hb] using h i (mem_allLanes i)

/-- A DEPARTED trip has no holds. -/
theorem Owing.departed (h : Owing none s) {t : Trip} (ht : s.berth b = some t) (hp : t.phase = .departed) :
    s.lanesHolding b = 0 := by
  rw [lanesHolding_eq, List.countP_eq_zero]
  intro j _ hj
  simp only [Lane.holdsFor, Bool.and_eq_true, decide_eq_true_eq, Option.isSome_iff_exists] at hj
  obtain ⟨hb, k, hk⟩ := hj
  obtain ⟨t', ht', hp', -⟩ := h.trips j b k hb hk
  cases ht.symm.trans ht'
  exact hp' hp

/-- With no trips there are no holds. -/
theorem Owing.holdless (h : Owing none s) (hv : ∀ b, s.berth b = none) (i : LaneIx) : (s.lane i).hold = none := by
  by_contra hi
  obtain ⟨k, hk⟩ := Option.ne_none_iff_exists'.mp hi
  obtain ⟨b, hb⟩ := Option.ne_none_iff_exists'.mp (h.placed i hi).2
  obtain ⟨t, ht, -⟩ := h.trips i b k hb hk
  rw [hv b] at ht
  cases ht

theorem Owing.of_vacant (hv : ∀ b, u.berth b = none) (hh : ∀ i, (u.lane i).hold = none) : Owing none u where
  counts b := by
    rw [hv b, lanesHolding_eq, List.countP_eq_zero.mpr fun j _ => by simp [holdsFor_of_hold (hh j)]]
    rfl
  trips j b k _ hk := by rw [hh j] at hk; cases hk
  debt b hb := nomatch hb
  placed j hj := absurd (hh j) hj

/-! ### Changes of one lane -/

theorem Owing.frames (h : Owing o s) (hl : u.lanes = s.lanes) (hb : u.berths = s.berths) : Owing o u where
  counts b := by rw [berth_congr hb, lanesHolding_congr hl]; exact h.counts b
  trips j b k := by rw [lane_congr hl, berth_congr hb]; exact h.trips j b k
  debt b := by rw [berth_congr hb]; exact h.debt b
  placed j := by rw [lane_congr hl]; exact h.placed j

/-- A lane changes but for its hold, keeping the place of a hold that it has. -/
theorem Owing.lane (h : Owing o s) (hl : u.lanes = s.lanes.set i l) (hb : u.berths = s.berths)
    (hh : l.hold = (s.lane i).hold)
    (hk : l.hold ≠ none → (l.state = .opening ∨ l.state = .opened) ∧ l.berth = (s.lane i).berth) : Owing o u := by
  have hsame : ∀ b, l.holdsFor b = (s.lane i).holdsFor b := fun b => by
    by_cases hn : l.hold = none
    · rw [holdsFor_of_hold hn, holdsFor_of_hold (hh ▸ hn)]
    · rw [Lane.holdsFor, Lane.holdsFor, hh, (hk hn).2]
  refine ⟨fun b => ?_, fun j b k hj hjk => ?_, fun b => ?_, fun j hj => ?_⟩
  · have hset := lanesHolding_set hl b
    rw [hsame b, Nat.add_right_cancel_iff] at hset
    rw [berth_congr hb, hset]
    exact h.counts b
  · rw [berth_congr hb]
    by_cases he : j = i
    · subst he
      rw [lane_of_set hl] at hj hjk
      exact h.trips j b k ((hk (by simp [hjk])).2 ▸ hj) (hh ▸ hjk)
    · rw [lane_of_set_other hl he] at hj hjk
      exact h.trips j b k hj hjk
  · rw [berth_congr hb]
    exact h.debt b
  · by_cases he : j = i
    · subst he
      rw [lane_of_set hl] at hj ⊢
      exact ⟨(hk hj).1, (hk hj).2 ▸ (h.placed j (hh ▸ hj)).2⟩
    · rw [lane_of_set_other hl he] at hj ⊢
      exact h.placed j hj

/-- A lane without a hold changes and takes none. -/
theorem Owing.idle_lane (h : Owing o s) (hl : u.lanes = s.lanes.set i l) (hb : u.berths = s.berths)
    (hs : (s.lane i).hold = none) (hn : l.hold = none) : Owing o u :=
  h.lane hl hb (hn.trans hs.symm) fun hk => absurd hn hk

/-- A lane in another state than OPENING and OPEN holds nothing. -/
theorem Owing.hold_none (h : Owing o s) (hs : ¬((s.lane i).state = .opening ∨ (s.lane i).state = .opened)) :
    (s.lane i).hold = none := by
  by_contra hi
  exact hs (h.placed i hi).1

/-- A lane loses its hold: its berth is owed the report. -/
theorem Owing.drop (h : Owing none s) (hl : u.lanes = s.lanes.set i l) (hb : u.berths = s.berths) {k : Hold}
    (hk : (s.lane i).hold = some k) (hib : (s.lane i).berth = some b) (hn : l.hold = none) : Owing (some b) u := by
  refine ⟨fun c => ?_, fun j c k' hj hjk => ?_, fun c hc => ?_, fun j hj => ?_⟩
  · have hset := lanesHolding_set hl c
    have hcount := h.counts c
    rw [holdsFor_of_hold hn] at hset
    simp only [Lane.holdsFor, hk, hib, Option.isSome_some, Bool.and_true] at hset
    rw [berth_congr hb, hcount]
    by_cases hc : b = c <;> simp [hc] at hset ⊢ <;> omega
  · rw [berth_congr hb]
    by_cases he : j = i
    · subst he
      rw [lane_of_set hl, hn] at hjk
      cases hjk
    · rw [lane_of_set_other hl he] at hj hjk
      exact h.trips j c k' hj hjk
  · cases hc
    obtain ⟨t, ht, hp, -⟩ := h.trips i b k hib hk
    exact ⟨t, (berth_congr hb b).trans ht, hp⟩
  · by_cases he : j = i
    · subst he
      rw [lane_of_set hl] at hj
      exact absurd hn hj
    · rw [lane_of_set_other hl he] at hj ⊢
      exact h.placed j hj

/-! ### Changes of one berth -/

/-- One berth changes and keeps the holds of its trip, which stays OPEN or CLOSING, or it had no holds and has none. -/
theorem Owing.berth {x : Berth} (h : Owing o s) (hl : u.lanes = s.lanes) (hb : u.berths = s.berths.set b x)
    (hx : (holdsOf (s.berth b) = 0 ∧ holdsOf x = 0) ∨
      ∃ t t', s.berth b = some t ∧ x = some t' ∧ t'.counts.holds = t.counts.holds ∧
        t'.context.tripRef = t.context.tripRef ∧ (t.phase ≠ .departed → t'.phase ≠ .departed)) : Owing o u := by
  have hself : u.berth b = x := by rw [State.berth, hb, PerBerth.get_set_self]
  have hother : ∀ c, c ≠ b → u.berth c = s.berth c := fun c hc => by
    rw [State.berth, hb, PerBerth.get_set_other _ _ _ _ hc, State.berth]
  have hkeep : ∀ t, s.berth b = some t → t.phase ≠ .departed → 0 < holdsOf (s.berth b) →
      ∃ t', u.berth b = some t' ∧ t'.phase ≠ .departed ∧ t'.context.tripRef = t.context.tripRef := fun t ht hp hpos => by
    rcases hx with ⟨hz, -⟩ | ⟨t₁, t', ht₁, hx, -, href, hphase⟩
    · omega
    · cases ht.symm.trans ht₁
      exact ⟨t', hself.trans hx, hphase hp, href⟩
  refine ⟨fun c => ?_, fun j c k hj hjk => ?_, fun c hc => ?_, fun j => by rw [lane_congr hl]; exact h.placed j⟩
  · rw [lanesHolding_congr hl, ← h.counts c]
    by_cases hc : c = b
    · subst hc
      rw [hself]
      rcases hx with ⟨hz, hz'⟩ | ⟨t, t', ht, hx, hh, -, -⟩
      · rw [hz, hz']
      · rw [ht, hx]
        exact hh
    · rw [hother c hc]
  · rw [lane_congr hl] at hj hjk
    obtain ⟨t, ht, hp, href⟩ := h.trips j c k hj hjk
    by_cases hc : c = b
    · subst hc
      have hpos : 0 < holdsOf (s.berth c) := by
        rw [h.counts c]
        refine Nat.add_pos_left (Nat.pos_of_ne_zero fun hz => ?_) _
        rw [hold_of_lanesHolding hz hj] at hjk
        cases hjk
      obtain ⟨t', ht', hp', href'⟩ := hkeep t ht hp hpos
      exact ⟨t', ht', hp', href.trans href'.symm⟩
    · exact ⟨t, (hother c hc).trans ht, hp, href⟩
  · obtain ⟨t, ht, hp⟩ := h.debt c hc
    by_cases he : c = b
    · subst he
      have hpos : 0 < holdsOf (s.berth c) := by
        rw [h.counts c, if_pos hc]
        omega
      obtain ⟨t', ht', hp', -⟩ := hkeep t ht hp hpos
      exact ⟨t', ht', hp'⟩
    · exact ⟨t, (hother c he).trans ht, hp⟩

/-- The berth takes the report it is owed. -/
theorem Owing.paid {t t' : Trip} (h : Owing (some b) s) (hl : u.lanes = s.lanes) (hb : u.berths = s.berths.set b (some t'))
    (ht : s.berth b = some t) (hh : t'.counts.holds = t.counts.holds - 1) (href : t'.context.tripRef = t.context.tripRef)
    (hp : t'.phase = t.phase) : Owing none u := by
  have hself : u.berth b = some t' := by rw [State.berth, hb, PerBerth.get_set_self]
  have hother : ∀ c, c ≠ b → u.berth c = s.berth c := fun c hc => by
    rw [State.berth, hb, PerBerth.get_set_other _ _ _ _ hc, State.berth]
  refine ⟨fun c => ?_, fun j c k hj hjk => ?_, fun _ hc => (nomatch hc), fun j => by rw [lane_congr hl]; exact h.placed j⟩
  · have hcount := h.counts c
    rw [lanesHolding_congr hl]
    by_cases hc : c = b
    · subst hc
      rw [ht] at hcount
      rw [hself]
      simp only [holdsOf, Option.elim_some, if_true, reduceCtorEq, if_false] at hcount ⊢
      omega
    · rw [hother c hc, hcount]
      simp [Ne.symm hc]
  · rw [lane_congr hl] at hj hjk
    obtain ⟨t₁, ht₁, hp₁, href₁⟩ := h.trips j c k hj hjk
    by_cases hc : c = b
    · subst hc
      cases ht.symm.trans ht₁
      exact ⟨t', hself, hp ▸ hp₁, href₁.trans href.symm⟩
    · exact ⟨t₁, (hother c hc).trans ht₁, hp₁, href₁⟩

/-- A lane and its berth take a hold for the berth's trip (R10, R30). -/
theorem Owing.grant {t t' : Trip} {k : Hold} (h : Owing none s) (hl : u.lanes = s.lanes.set i l)
    (hb : u.berths = s.berths.set b (some t')) (hn : (s.lane i).hold = none) (hk : l.hold = some k) (hlb : l.berth = some b)
    (hls : l.state = .opening ∨ l.state = .opened) (ht : s.berth b = some t) (hp : t.phase ≠ .departed)
    (hp' : t'.phase = t.phase) (hh : t'.counts.holds = t.counts.holds + 1) (href : t'.context.tripRef = t.context.tripRef)
    (hkr : k.tripRef = t.context.tripRef) : Owing none u := by
  have hself : u.berth b = some t' := by rw [State.berth, hb, PerBerth.get_set_self]
  have hother : ∀ c, c ≠ b → u.berth c = s.berth c := fun c hc => by
    rw [State.berth, hb, PerBerth.get_set_other _ _ _ _ hc, State.berth]
  refine ⟨fun c => ?_, fun j c k' hj hjk => ?_, fun _ hc => (nomatch hc), fun j hj => ?_⟩
  · have hset := lanesHolding_set hl c
    have hcount := h.counts c
    rw [holdsFor_of_hold hn] at hset
    simp only [Lane.holdsFor, hk, hlb, Option.isSome_some, Bool.and_true] at hset
    by_cases hc : c = b
    · subst hc
      rw [ht] at hcount
      rw [hself]
      simp only [holdsOf, Option.elim_some, reduceCtorEq, if_false, decide_true, Bool.toNat_true, Bool.toNat_false] at hcount hset ⊢
      omega
    · rw [hother c hc, hcount]
      simp [Ne.symm hc] at hset ⊢
      omega
  · by_cases he : j = i
    · subst he
      rw [lane_of_set hl] at hj hjk
      cases hlb.symm.trans hj
      cases hk.symm.trans hjk
      exact ⟨t', hself, hp' ▸ hp, hkr.trans href.symm⟩
    · rw [lane_of_set_other hl he] at hj hjk
      obtain ⟨t₁, ht₁, hp₁, href₁⟩ := h.trips j c k' hj hjk
      by_cases hc : c = b
      · subst hc
        cases ht.symm.trans ht₁
        exact ⟨t', hself, hp' ▸ hp₁, href₁.trans href.symm⟩
      · exact ⟨t₁, (hother c hc).trans ht₁, hp₁, href₁⟩
  · by_cases he : j = i
    · subst he
      rw [lane_of_set hl]
      exact ⟨hls, by simp [hlb]⟩
    · rw [lane_of_set_other hl he] at hj ⊢
      exact h.placed j hj

end

end Sys2Proof.Machine
end

section
/-! SUPPORT. The holds of the lanes and of the berths under each operation of a berth and each event of a lane (R10 to R12, R22, R29 to
R43). -/

namespace Sys2Proof.Machine

open Sys2Proof

section
variable {s u : State} {i : LaneIx} {b : BerthIx} {o : Option BerthIx}

/-! ### Settlement and closing -/

/-- A berth departs with no holds, and leaves none. -/
theorem settle_holdless (b : BerthIx) (s : State) :
    settle b s = s ∨ ∃ x, (settle b s).berths = s.berths.set b x ∧ holdsOf (s.berth b) = 0 ∧ holdsOf x = 0 := by
  by_cases h : ∃ t, s.berth b = some t ∧ t.phase = .closing ∧ s.settled b t = true
  · obtain ⟨t, ht, hp, hs⟩ := h
    have hz : t.counts.holds = 0 := ((settled_iff s b t).mp hs).1
    rw [settle_of_settled ht hp hs, ht]
    right
    by_cases hr : s.journal.records.length < 8
    · exact ⟨none, by rw [depart_of_room hr]; simp, hz, rfl⟩
    · exact ⟨some (t.departedAt b s.clock.time), by rw [depart_of_full (by omega)]; simp, hz, hz⟩
  · refine .inl (settle_of_unsettled fun t ht hp => ?_)
    simpa using fun hs => h ⟨t, ht, hp, hs⟩

theorem Owing.settle (h : Owing o s) (b : BerthIx) : Owing o (settle b s) := by
  rcases settle_holdless b s with he | ⟨x, hb, hz, hx⟩
  · rw [he]
    exact h
  · exact h.berth (by simp) hb (.inl ⟨hz, hx⟩)

theorem Owing.settleBerthOf (h : Owing o s) (i : LaneIx) : Owing o (settleBerthOf i s) := by
  unfold Machine.settleBerthOf
  split
  · exact h
  · exact h.settle _

theorem Owing.settleOpt (h : Owing o s) (b : Option BerthIx) : Owing o (settleOpt b s) := by
  cases b with
  | none => exact h
  | some b => exact h.settle b

theorem Owing.post (h : Owing o s) (n : Notice) : Owing o (post n s) := h.frames (by simp) (by simp)

theorem Owing.postOpt (h : Owing o s) (n : Option Notice) : Owing o (postOpt n s) := h.frames (by simp) (by simp)

/-- A trip changes but for its holds, its reference and its phase. -/
theorem Owing.trip (h : Owing o s) {t t' : Trip} (hl : u.lanes = s.lanes) (hb : u.berths = s.berths.set b (some t'))
    (ht : s.berth b = some t) (hh : t'.counts.holds = t.counts.holds) (href : t'.context.tripRef = t.context.tripRef)
    (hp : t'.phase = t.phase) : Owing o u :=
  h.berth hl hb (.inr ⟨t, t', ht, rfl, hh, href, fun hn => hp ▸ hn⟩)

theorem Owing.closeBerth (h : Owing o s) {t : Trip} (ht : s.berth b = some t) (cause : CloseCause) :
    Owing o (closeBerth b cause s) := by
  rw [closeBerth_eq cause ht]
  exact Owing.settle (h.berth (closed_lanes ..) (closed_berths ..) (.inr ⟨t, _, ht, rfl, rfl, rfl, fun _ => nofun⟩)) b

theorem Owing.closeWhenFull (h : Owing o s) (b : BerthIx) : Owing o (closeWhenFull b s) := by
  rcases closeWhenFull_eq b s with ⟨⟨t, ht, -, -⟩, he⟩ | ⟨-, he⟩ <;> rw [he]
  · exact h.closeBerth ht _
  · exact h

theorem Owing.closeAtDeparture (h : Owing o s) (b : BerthIx) : Owing o (closeAtDeparture b s) := by
  rcases closeAtDeparture_eq b s with ⟨⟨t, ht, -, -⟩, he⟩ | ⟨-, he⟩ <;> rw [he]
  · exact h.closeBerth ht _
  · exact h

/-! ### What a lane reports -/

theorem countPassage_holds (m : Movement) (eg : Bool) (t : Trip) : (t.countPassage m eg).counts.holds = t.counts.holds := by
  cases m <;> cases eg <;> simp [Trip.countPassage, boardOne_eq, leaveOne_eq]

theorem consume_holds (t : Trip) : t.consume.counts.holds = t.counts.holds - 1 := by simp [Trip.consume, boardOne_eq]

/-- What the evaluation of the closing condition or of the settlement after a report keeps. -/
theorem Owing.afterReport (h : Owing o u) {t : Trip} (ht : u.berth b = some t) (p : Prop) [Decidable p] :
    Owing o (if p then Machine.closeBerth b .full u else Machine.settle b u) := by
  split
  · exact h.closeBerth ht _
  · exact h.settle b

/-- A report that ends no hold (R13). -/
theorem Owing.report (h : Owing o s) {fwd : Bool} {f : Trip → Trip} (hf : LaneReport fwd f)
    (hh : ∀ t, (f t).counts.holds = t.counts.holds) (b : BerthIx) : Owing o (tripEvent b fwd f s) := by
  by_cases hd : ∃ t, s.berth b = some t ∧ t.phase ≠ .departed
  · obtain ⟨t, ht, hp⟩ := hd
    have hkeeps := hf.keeps t
    rw [tripEvent_eq ht hp (hf.shown t)]
    refine Owing.afterReport ?_ (refilled_berth_self ..) _
    refine h.trip (refilled_lanes ..) (refilled_berths ..) ht ?_ ?_ ?_
    · rw [refill_counts, hh]
    · rw [refill_context, hkeeps]
    · rw [refill_phase, hkeeps]
  · rw [tripEvent_ignored fun t ht => by_contra fun hp => hd ⟨t, ht, hp⟩]
    exact h

/-- The report of the hold that the berth is owed (R11, R12). -/
theorem Owing.pay (h : Owing (some b) s) {fwd : Bool} {f : Trip → Trip} (hf : LaneReport fwd f)
    (hh : ∀ t, (f t).counts.holds = t.counts.holds - 1) : Owing none (tripEvent b fwd f s) := by
  obtain ⟨t, ht, hp⟩ := h.debt b rfl
  have hkeeps := hf.keeps t
  rw [tripEvent_eq ht hp (hf.shown t)]
  refine Owing.afterReport ?_ (refilled_berth_self ..) _
  refine h.paid (refilled_lanes ..) (refilled_berths ..) ht ?_ ?_ ?_
  · rw [refill_counts, hh]
  · rw [refill_context, hkeeps]
  · rw [refill_phase, hkeeps]

theorem Owing.payVoid (h : Owing (some b) s) (hb : (s.lane i).berth = some b) : Owing none (reportTo i berthVoid s) := by
  unfold reportTo
  rw [hb]
  exact h.pay .void fun _ => rfl

theorem Owing.payConsumption (h : Owing (some b) s) (hb : (s.lane i).berth = some b) :
    Owing none (reportTo i berthConsumption s) := by
  unfold reportTo
  rw [hb]
  exact h.pay .consumption consume_holds

theorem Owing.reportPassage (h : Owing o s) (i : LaneIx) (m : Movement) (eg : Bool) : Owing o (reportPassage i m eg s) := by
  unfold Machine.reportPassage reportTo
  split
  · exact h
  · split
    · exact h
    · exact h.report (.passage m eg) (countPassage_holds m eg) _

/-! ### Trips of the requests and triggers -/

theorem Owing.countRefusal (h : Owing o s) (b : BerthIx) : Owing o (countRefusal b s) := by
  cases ht : s.berth b with
  | none => exact h.frames (by simp) (by simp [countRefusal_berths, ht, set_berth ht])
  | some t =>
    refine h.trip (t' := if t.phase = .opened then t.refuse else t) (by simp) (by simp [countRefusal_berths, ht]) ht ?_ ?_ ?_
    all_goals split <;> rfl

theorem Owing.openBerth (h : Owing o s) (hv : s.berth b = none) (r : OpenRequest) : Owing o (openBerth b r s) := by
  rw [openBerth_eq]
  refine Owing.closeAtDeparture (Owing.closeWhenFull ?_ b) b
  exact h.berth (justOpened_lanes ..) (justOpened_berths ..) (.inl ⟨by rw [hv]; rfl, rfl⟩)

theorem Owing.amend (h : Owing o s) {t : Trip} (ht : s.berth b = some t) (r : AmendRequest) :
    Owing o (Machine.closeAtDeparture b (Machine.closeWhenFull b (recomputeFill b (changeTrip b (Trip.amend r) s)))) := by
  rw [amend_eq ht]
  refine Owing.closeAtDeparture (Owing.closeWhenFull ?_ b) b
  exact h.trip (refilled_lanes ..) (refilled_berths ..) ht (by rw [refill_counts]; rfl) (by rw [refill_context]; rfl)
    (by rw [refill_phase]; rfl)

theorem Owing.giveTrigger (h : Owing o s) : Owing o (giveTrigger s) := by
  rw [giveTrigger_eq]
  refine List.foldlRecOn _ _ (h.frames (by simp) (by simp)) fun u hu task _ => ?_
  cases task with
  | berth b => exact hu.closeAtDeparture b
  | tariff => exact hu.frames (by simp [runTask]) (by simp [runTask])

/-- A trip's record stands only while it is DEPARTED. -/
def Recorded (_ : Supervisor) (_ : BerthIx) (t : Trip) : Prop := t.record ≠ none → t.phase = .departed

theorem recorded_rules : TripRules Recorded fun _ => True where
  supervised _ _ h := h
  records _ _ := trivial
  closes _ _ hp h hr := absurd (h hr) (by simp [hp])
  departs _ _ _ := rfl
  edits {v b t f} hf h := by
    obtain ⟨hphase, -, hrecord, -⟩ := hf.keeps t
    rw [Recorded, refill_record, refill_phase, hphase, hrecord]
    exact h
  refuses h := h
  opens _ _ _ h := absurd rfl h

/-- The berth whose record is stored has no holds: its trip is DEPARTED. -/
theorem Owing.serveWaiting (h : Owing none s) (hr : Holds Recorded (fun _ => True) s) : Owing none (serveWaiting s) := by
  rcases serveWaiting_cases s with ⟨hb, -⟩ | ⟨b, t, r, ht, hrec, hb, -⟩
  · exact h.frames (by simp) hb
  · have hdeparted : t.phase = .departed := hr.1 b t ht (by simp [hrec])
    have hz : holdsOf (s.berth b) = 0 := (h.counts b).trans (h.departed ht hdeparted)
    exact h.berth (by simp) hb (.inl ⟨hz, rfl⟩)

/-! ### Holds of one lane -/

/-- A lane without a hold takes another form without one, and its berth tests its settlement. -/
theorem Owing.turn (h : Owing none s) (hs : (s.lane i).hold = none) {f : Lane → Lane} (hf : (f (s.lane i)).hold = none) :
    Owing none (Machine.settleBerthOf i (changeLane i f s)) :=
  Owing.settleBerthOf (h.idle_lane (changeLane_lanes ..) (by simp) hs hf) i

theorem Owing.faultLane (h : Owing none s) (hs : (s.lane i).hold = none) (c : LaneFaultCause) : Owing none (faultLane i c s) :=
  Owing.settleBerthOf (Owing.post (h.idle_lane (changeLane_lanes ..) (by simp) hs rfl) _) i

theorem Owing.completeClosing (h : Owing none s) (hs : (s.lane i).hold = none) : Owing none (completeClosing i s) := by
  have hclosed := h.idle_lane (u := changeLane i (fun l => { l with
    state := if s.supervisor.state = .outOfService then .off else .closed, barrierTimer := none, returning := false }) s)
    (changeLane_lanes ..) (by simp) hs hs
  unfold Machine.completeClosing
  dsimp only
  split
  · exact (hclosed.post _).settleBerthOf i
  · exact hclosed.settleBerthOf i

theorem Owing.startClosing (h : Owing none s) {f : Lane → Lane} (hs : (s.lane i).hold = none) (hf : (f (s.lane i)).hold = none) :
    Owing none (startClosing i f s) := by
  have hclosing : Owing none (Machine.settleBerthOf i (changeLane i (fun l => (f l).toClosing s.runTime) s)) :=
    h.turn (f := fun l => (f l).toClosing s.runTime) hs hf
  unfold Machine.startClosing
  dsimp only
  split
  · exact hclosing
  · refine hclosing.completeClosing ?_
    rw [lane_of_set (s := s) ((settleBerthOf_lanes ..).trans (changeLane_lanes ..))]
    exact hf

/-- A lane's hold is dropped: its berth is owed the report of its void. -/
theorem Owing.dropHold (h : Owing none s) {k : Hold} (hk : (s.lane i).hold = some k) {c : VoidCause} {next : Lane → Lane} :
    ∃ b, (s.lane i).berth = some b ∧ Owing (some b) (dropHold i c k next s) := by
  obtain ⟨b, hb⟩ := Option.ne_none_iff_exists'.mp (h.placed i (by simp [hk])).2
  exact ⟨b, hb, h.drop (dropHold_lanes ..) (by simp [Machine.dropHold]) hk hb rfl⟩

theorem Owing.voidHold (h : Owing none s) {k : Hold} (hk : (s.lane i).hold = some k) {c : VoidCause} {next : Lane → Lane}
    (hn : (next (s.lane i)).berth = (s.lane i).berth) : Owing none (voidHold i c k next s) := by
  obtain ⟨b, hb, hdrop⟩ := h.dropHold hk (c := c) (next := next)
  refine hdrop.payVoid ?_
  rw [dropHold_lane_self]
  exact hn.trans hb

theorem Owing.consumeHold (h : Owing none s) {k : Hold} (hk : (s.lane i).hold = some k) : Owing none (consumeHold i k s) := by
  obtain ⟨b, hb⟩ := Option.ne_none_iff_exists'.mp (h.placed i (by simp [hk])).2
  have hdrop : Owing (some b) (endEntry k .passed (changeLane i (Lane.toClearing s.runTime) s)) :=
    h.drop (l := (s.lane i).toClearing s.runTime) (by simp) (by simp) hk hb rfl
  refine hdrop.payConsumption ?_
  rw [lane_congr (endEntry_lanes ..), changeLane_lane_self]
  exact hb

/-! ### Beams and passages (R33, R34, R40) -/

theorem consumable_some {l : Lane} {k : Hold} (h : l.consumable = some k) : l.hold = some k := by
  unfold Lane.consumable at h
  split at h
  · exact h
  · cases h

theorem deferredHold_some {l : Lane} {k : Hold} (h : l.deferredHold = some k) : l.hold = some k := by
  unfold Lane.deferredHold at h
  split at h
  · exact h
  · cases h

theorem Owing.takeMovement (h : Owing none s) (i : LaneIx) (m : Movement) (entry : EntrySide) :
    Owing none (takeMovement i m entry s) := by
  unfold Machine.takeMovement
  dsimp only
  generalize hc : (if m = .forward then (s.lane i).consumable else none) = consumed
  have hposted := h.postOpt (passageNotice s i m entry consumed)
  have hlane : (Machine.postOpt (passageNotice s i m entry consumed) s).lane i = s.lane i := lane_congr (postOpt_lanes ..) i
  generalize Machine.postOpt (passageNotice s i m entry consumed) s = u at hposted hlane ⊢
  split
  · cases consumed with
    | some k =>
      refine hposted.consumeHold ?_
      rw [hlane]
      split at hc
      · exact consumable_some hc
      · cases hc
    | none =>
      dsimp only
      split
      · exact hposted.reportPassage ..
      · next k hk =>
        obtain ⟨b, hb, hdrop⟩ := hposted.dropHold (deferredHold_some hk) (c := .timeout) (next := Lane.toClearing u.runTime)
        refine (hdrop.reportPassage i m _).payVoid ?_
        rw [lane_congr (reportPassage_lanes ..), dropHold_lane_self]
        exact hb
  · exact h

/-- A lane changes but for its state, its assignment and its hold. -/
theorem Owing.setLane (h : Owing none s) {f : Lane → Lane} (hs : (f (s.lane i)).state = (s.lane i).state)
    (hb : (f (s.lane i)).berth = (s.lane i).berth) (hh : (f (s.lane i)).hold = (s.lane i).hold) : Owing none (setLane i f s) :=
  h.lane (setLane_lanes ..) (by simp) hh fun hn => ⟨hs ▸ (h.placed i (hh ▸ hn)).1, hb⟩

theorem Owing.followClear (h : Owing none s) (i : LaneIx) : Owing none (followClear i s) := by
  unfold Machine.followClear
  dsimp only
  split
  · split
    · split
      · exact h.setLane rfl rfl rfl
      · exact h
    · exact h.setLane rfl rfl rfl
  · exact h

theorem Owing.takeBeams (h : Owing none s) (i : LaneIx) : Owing none (takeBeams i s) := by
  have hset : Owing none (Machine.setLane i (fun _ => ((s.lane i).takePair s.runTime).1) s) := h.setLane rfl rfl rfl
  unfold Machine.takeBeams
  dsimp only
  refine Owing.followClear ?_ i
  split
  · exact hset
  · exact hset.takeMovement ..

theorem acceptWaiting_hold (now : Nat) (w : Option (Bool × Bool)) (l old : Lane) :
    (l.acceptWaiting now w old).hold = l.hold := by
  unfold Lane.acceptWaiting
  repeat' split
  all_goals rfl

theorem Owing.takeAccepted (h : Owing none s) (i : LaneIx) (old : Lane) : Owing none (takeAccepted i old s) := by
  have hset : ∀ w, Owing none (Machine.setLane i (fun l => (l.acceptDue s.runTime).acceptWaiting s.runTime w old) s) := fun w =>
    h.setLane (acceptWaiting_state ..) (acceptWaiting_berth ..) (acceptWaiting_hold ..)
  unfold Machine.takeAccepted
  dsimp only
  exact (hset _).takeBeams i

theorem Owing.beamRaw (h : Owing none s) (i : LaneIx) (a b : Bool) : Owing none (beamRaw i a b s) := by
  have hset : ∀ a b, Owing none (Machine.setLane i (fun l => { l with beamA := a, beamB := b }) s) := fun a b =>
    h.setLane rfl rfl rfl
  unfold Machine.beamRaw
  dsimp only
  split
  · exact hset ..
  · exact (hset ..).takeAccepted ..

theorem Owing.beamAccepted (h : Owing none s) (i : LaneIx) : Owing none (beamAccepted i s) := by
  unfold Machine.beamAccepted
  split
  · exact h.takeAccepted ..
  · exact h

/-! ### Barrier events and timers (R31, R32, R34, R36 to R38) -/

/-- A lane in another state than OPENING and OPEN has no hold. -/
theorem Owing.none_of_state (h : Owing o s) {st : LaneState} (hs : (s.lane i).state = st)
    (hst : st ≠ .opening ∧ st ≠ .opened) : (s.lane i).hold = none :=
  h.hold_none (by rw [hs]; exact fun hn => hn.elim hst.1 hst.2)

theorem Owing.senseChange (h : Owing none s) (i : LaneIx) (isOpen : Bool) : Owing none (senseChange i isOpen s) := by
  have hset : Owing none (Machine.setLane i (fun l => { l with sense := isOpen }) s) := h.setLane rfl rfl rfl
  unfold Machine.senseChange
  dsimp only
  split
  · exact h
  · generalize Machine.setLane i (fun l => { l with sense := isOpen }) s = u at hset ⊢
    split
    · exact Owing.settleBerthOf (hset.lane (l := (u.lane i).toOpen u.runTime) (changeLane_lanes ..) (by simp) rfl
        fun _ => ⟨.inr rfl, rfl⟩) i
    · exact Owing.settleBerthOf (hset.lane (l := (u.lane i).toOpening u.runTime) (changeLane_lanes ..) (by simp) rfl
        fun _ => ⟨.inl rfl, rfl⟩) i
    · next hs _ => exact hset.faultLane (hset.none_of_state hs (by simp)) _
    · next hs _ => exact hset.completeClosing (hset.none_of_state hs (by simp))
    · next hs _ => exact hset.faultLane (hset.none_of_state hs (by simp)) _
    · exact hset

theorem Owing.barrierExpiry (h : Owing none s) (i : LaneIx) : Owing none (barrierExpiry i s) := by
  unfold Machine.barrierExpiry
  split
  · split
    · split
      · next k hk =>
        obtain ⟨b, hb, hdrop⟩ := h.dropHold hk (c := .fault) (next := Lane.toFault .openTimeout)
        refine (hdrop.post _).payVoid ?_
        rw [post_lane, dropHold_lane_self]
        exact hb
      · next hk => exact h.faultLane hk _
    · next hs => exact h.faultLane (h.none_of_state hs (by simp)) _
    · exact h
  · exact h

theorem Owing.passageExpiry (h : Owing none s) (i : LaneIx) : Owing none (passageExpiry i s) := by
  unfold Machine.passageExpiry
  split
  · split
    · split
      · next k hk => exact h.voidHold hk rfl
      · next hk => exact h.turn hk rfl
    · exact h.setLane rfl rfl rfl
  · exact h

theorem Owing.clearExpiry (h : Owing none s) (i : LaneIx) : Owing none (clearExpiry i s) := by
  unfold Machine.clearExpiry
  split
  · next hs =>
    have hn := h.none_of_state hs.1 (by simp)
    split
    · exact h.startClosing hn hn
    · exact h.turn hn rfl
    · exact h
  · exact h

/-! ### Service and egress at one lane (R41 to R43) -/

theorem Owing.laneAtStart (h : Owing none s) (i : LaneIx) : Owing none (laneAtStart s i) := by
  unfold Machine.laneAtStart
  split
  · next hs =>
    have hn := h.none_of_state hs.2 (by simp)
    split
    · exact h.faultLane hn _
    · exact h.idle_lane (changeLane_lanes ..) (by simp) hn hn
  · exact h

theorem Owing.laneToEgress (h : Owing none s) (i : LaneIx) : Owing none (laneToEgress s i) := by
  unfold Machine.laneToEgress
  split
  · split
    · next k hk => exact h.voidHold hk rfl
    · next hk => exact h.turn hk rfl
  · exact h

theorem Owing.laneFromEgress (h : Owing none s) (i : LaneIx) : Owing none (laneFromEgress s i) := by
  unfold Machine.laneFromEgress
  split
  · next hs => exact h.turn (h.none_of_state hs (by simp)) rfl
  · exact h

end

end Sys2Proof.Machine
end

section
/-! SUPPORT. The law of the holds under each event and each request (R29). -/

namespace Sys2Proof.Machine

open Sys2Proof

section
variable {s u : State}

/-! ### The supervisor (R177 to R191) -/

theorem Owing.setPontoon (h : Owing none s) (st : PontoonState) (ret : Option PontoonState) (c : PontoonCause) :
    Owing none (setPontoon st ret c s) :=
  h.frames (by simp [Machine.setPontoon]) (by simp)

theorem Owing.enterEgress (h : Owing none s) (changed : Option EgressCause) : Owing none (enterEgress changed s) := by
  unfold Machine.enterEgress
  exact foldl_lanes (P := Owing none) Owing.laneToEgress ((h.setPontoon .egress (some s.supervisor.state) .egressBegin).postOpt _)

theorem Owing.leaveEgress (h : Owing none s) (c : EgressCause) : Owing none (leaveEgress c s) := by
  unfold Machine.leaveEgress
  exact foldl_lanes (P := Owing none) Owing.laneFromEgress
    ((h.setPontoon (s.supervisor.returnState.getD .outOfService) none .egressEnd).post _)

theorem Owing.demandEvent (h : Owing none s) (before : Bool) (c : EgressCause) : Owing none (demandEvent before c s) := by
  unfold Machine.demandEvent
  split
  · exact h
  · split
    · split
      · exact h.enterEgress _
      · exact h.enterEgress _
      · exact h.post _
    · split
      · exact h.leaveEgress _
      · exact h.post _

theorem Owing.setLatch (h : Owing none s) (v : Bool) : Owing none (setLatch v s) :=
  (h.frames (u := { s with supervisor := { s.supervisor with latch := v } }) rfl rfl).demandEvent _ _

theorem setUp_hold {wasPresent : Nat} {r : SetupRequest} {i : LaneIx} {l : Lane} (h : l.hold = none) :
    (l.setUp wasPresent r i).hold = none := by
  unfold Lane.setUp
  split
  · unfold Lane.takeRecord
    dsimp only
    split <;> exact h
  · split
    · rfl
    · exact h

/-- A fold over the lanes that leaves the berths alone, and no lane a hold that had none, while no berth holds a trip. -/
theorem Owing.lanes_of_vacant {f : State → LaneIx → State} {g : LaneIx → Lane → Lane} (h : Owing none s)
    (hv : ∀ b, s.berth b = none) (hl : u.lanes = s.lanes) (hb : u.berths = s.berths)
    (hf : ∀ s i, (f s i).lanes = s.lanes.set i (g i (s.lane i))) (hfb : (allLanes.foldl f u).berths = u.berths)
    (hg : ∀ {i l}, l.hold = none → (g i l).hold = none) : Owing none (allLanes.foldl f u) := by
  refine .of_vacant (fun b => (berth_congr (hfb.trans hb) b).trans (hv b)) fun i => ?_
  rw [foldl_lane_eq hf nodup_allLanes, if_pos (mem_allLanes i), lane_congr hl]
  exact hg (h.holdless hv i)

theorem Owing.ownSetup (h : Owing none s) (hl : ServiceLaw s) (r : SetupRequest) : Owing none (ownSetup r s).1 := by
  unfold Machine.ownSetup
  split
  · exact h
  · next hidle =>
    split
    · exact h
    · dsimp only
      have hset := h.lanes_of_vacant (vacant_of_idle hidle hl) (f := setupLane s.supervisor.setup.lanesPresent r)
        (u := { s with supervisor := { s.supervisor with setup := setupValues r } }) rfl rfl (setupLane_lanes _ r) (by simp)
        setUp_hold
      generalize allLanes.foldl (setupLane s.supervisor.setup.lanesPresent r)
        { s with supervisor := { s.supervisor with setup := setupValues r } } = u at hset ⊢
      have hout : Owing none
          (if decide (s.supervisor.state = .config) = true then Machine.setPontoon .outOfService none .setup u else u) := by
        split
        · exact hset.setPontoon ..
        · exact hset
      generalize (if decide (s.supervisor.state = .config) = true then Machine.setPontoon .outOfService none .setup u else u) = v
        at hout ⊢
      have hwindow : Owing none (if (setupValues r).markWindow = s.supervisor.setup.markWindow then v else windowExpiry v) := by
        split
        · exact hout
        · exact hout.frames (by simp) (by simp)
      generalize (if (setupValues r).markWindow = s.supervisor.setup.markWindow then v else windowExpiry v) = w at hwindow ⊢
      split
      · exact hwindow.enterEgress none
      · exact hwindow

theorem Owing.ownRestart (h : Owing none s) (hl : ServiceLaw s) : Owing none (ownRestart s).1 := by
  unfold Machine.ownRestart
  split
  · exact h
  · next hidle =>
    dsimp only
    have hlanes := h.lanes_of_vacant (vacant_of_idle hidle hl) (f := laneAtRestart) (g := fun _ l => l.offIfFault.reseat)
      (u := { s with link := { s.link with queue := [], lost := 0, stats := LinkStats.zero }, recent := [] }) rfl rfl
      (fun s i => changeLane_lanes ..) (by simp) fun {i l} hn => by
        unfold Lane.offIfFault
        split
        · rfl
        · exact hn
    exact hlanes.frames (by simp) (by simp)

theorem laneAtStop_lanes (s : State) (i : LaneIx) :
    (laneAtStop s i).lanes = s.lanes.set i (if s.lanePresent i then (s.lane i).toOffAtStop else s.lane i) := by
  unfold laneAtStop
  split
  · exact changeLane_lanes ..
  · exact (lanes_set_lane s i).symm

theorem Owing.laneAtStop (h : Owing none s) (hv : ∀ b, s.berth b = none) (i : LaneIx) : Owing none (laneAtStop s i) := by
  have hn := h.holdless hv i
  refine h.idle_lane (laneAtStop_lanes s i) (by simp) hn ?_
  split
  · rfl
  · exact hn

theorem Owing.ownServiceStop (h : Owing none s) (hl : ServiceLaw s) : Owing none (ownServiceStop s).1 := by
  unfold Machine.ownServiceStop
  split
  · exact h
  · split
    · exact h
    · next hactive =>
      have hv := vacant_of_inactive (not_not.mp hactive) hl
      have hfold := foldl_lanes (P := fun u => Owing none u ∧ ∀ b, u.berth b = none) (f := Machine.laneAtStop)
        (fun hu i => ⟨hu.1.laneAtStop hu.2 i, fun b => (berth_congr (by simp) b).trans (hu.2 b)⟩)
        ⟨h.setPontoon .outOfService none .stop, fun b => (berth_congr (by simp) b).trans (hv b)⟩
      dsimp only
      exact hfold.1

/-! ### Service time (R149, R151, R156, R157) -/

theorem Owing.ownTimeMark (h : Owing none s) (t : ServiceTime) : Owing none (ownTimeMark t s).1 := by
  unfold Machine.ownTimeMark
  split
  · exact h
  · exact Owing.giveTrigger (h.frames (by simp) (by simp))

theorem Owing.serviceAdvance (h : Owing none s) : Owing none (serviceAdvance s) := by
  unfold Machine.serviceAdvance
  dsimp only
  split
  · split
    · exact h.frames rfl rfl
    · split
      · exact h.frames rfl rfl
      · exact Owing.giveTrigger (h.frames rfl rfl)
  · exact h

theorem Owing.freeRunStart (h : Owing none s) (t : ServiceTime) : Owing none (freeRunStart t s) := by
  unfold Machine.freeRunStart
  split
  · exact h
  · exact Owing.giveTrigger (h.frames (by simp) (by simp))
  · exact Owing.giveTrigger (h.frames (by simp) (by simp))
  · split
    · exact Owing.giveTrigger (h.frames (by simp) (by simp))
    · exact h

theorem Owing.ownServiceStart (h : Owing none s) (freeRun : Option ServiceTime) : Owing none (ownServiceStart freeRun s).1 := by
  have hfree : Owing none (applyFreeRun freeRun s) := by
    unfold applyFreeRun
    split
    · exact h
    · split
      · exact h.freeRunStart _
      · exact h
  have hstarted := foldl_lanes (P := Owing none) Owing.laneAtStart (hfree.setPontoon .inService none .start)
  unfold Machine.ownServiceStart
  split
  · exact h
  · split
    · exact h
    · split
      · exact h
      · split
        · exact h
        · dsimp only
          exact hstarted

/-! ### The berth and lane requests (R4, R15, R16, R39, R45) -/

/-- A berth request past its checks acts at one berth (R3). -/
theorem atBerth_keeps {P : State → Prop} (h : P s) {n : Nat} {f : BerthIx → State × Reply} (hf : ∀ b, P (f b).1) :
    P (atBerth n s f).1 := by
  unfold atBerth
  split
  · exact h
  · split
    · exact h
    · exact hf _

theorem Owing.ownBerthOpen (h : Owing none s) (r : OpenRequest) : Owing none (ownBerthOpen r s).1 := by
  refine atBerth_keeps h fun b => ?_
  dsimp only
  split
  · exact h
  · split
    · exact h
    · split
      · exact h
      · next hv =>
        split
        · exact h
        · exact h.openBerth (not_not.mp hv) r

theorem Owing.ownBerthClose (h : Owing none s) (n : Nat) : Owing none (ownBerthClose n s).1 := by
  refine atBerth_keeps h fun b => ?_
  split
  · exact h
  · next ht =>
    split
    · exact h.closeBerth ht _
    · exact h
    · exact h

theorem Owing.ownBerthAmend (h : Owing none s) (r : AmendRequest) : Owing none (ownBerthAmend r s).1 := by
  refine atBerth_keeps h fun b => ?_
  dsimp only
  split
  · exact h
  · split
    · exact h
    · next hst =>
      obtain ⟨t, ht, -⟩ := (berthStateOf_opened _).mp (not_not.mp hst)
      exact h.amend ht r

theorem Owing.ownLaneAssign (h : Owing none s) (n : Nat) (b : Option Nat) : Owing none (ownLaneAssign n b s).1 := by
  refine atLane_keeps h fun i _ => ?_
  split
  · exact h
  · next b _ =>
    split
    · exact h
    · next hs =>
      have hn : (s.lane i).hold = none := h.hold_none (by rintro (he | he) <;> simp [he, LaneState.busy] at hs)
      unfold assignLane
      dsimp only
      split
      · exact h
      · exact ((h.idle_lane (changeLane_lanes i (fun l => { l with berth := b }) s) (by simp) hn hn).settleOpt _).settleOpt _

theorem Owing.ownLaneReturn (h : Owing none s) (n : Nat) : Owing none (ownLaneReturn n s).1 := by
  refine atLane_keeps h fun i _ => ?_
  split
  · exact h
  · next hs =>
    have hn := h.none_of_state (not_not.mp hs) (by simp)
    exact h.startClosing hn hn

/-! ### Admissions (R10, R14, R30) -/

/-- A grant at a CLOSED lane and the OPEN trip of its berth. -/
theorem Owing.applyGrant (h : Owing none s) {i : LaneIx} {b : BerthIx} {t : Trip} (hs : (s.lane i).state = .closed)
    (hb : (s.lane i).berth = some b) (ht : s.berth b = some t) (hp : t.phase = .opened) (card : Nat) (kind : AdmissionKind)
    (charge : Nat) (exhausted : Option Notice) :
    Owing none (applyGrant i b t.context.tripRef card kind charge exhausted s) := by
  have htaken : (takeHold i ⟨card, t.context.tripRef, charge, kind⟩ s).berth b = some t :=
    (berth_congr (takeHold_berths ..) b).trans ht
  have hedit := recomputeFill_changeTrip_berths b (Trip.takeHold kind charge s.activeGeneration)
    (takeHold i ⟨card, t.context.tripRef, charge, kind⟩ s)
  rw [htaken, takeHold_berths] at hedit
  have hgrant : Owing none (recomputeFill b (changeTrip b (Trip.takeHold kind charge s.activeGeneration)
      (takeHold i ⟨card, t.context.tripRef, charge, kind⟩ s))) := by
    refine h.grant (k := ⟨card, t.context.tripRef, charge, kind⟩) (by rw [recomputeFill_lanes, changeTrip_lanes, takeHold_lanes]) hedit
      (h.none_of_state hs (by simp)) ?_ ?_ ?_ ht (by simp [hp]) (by simp [Trip.takeHold]) ?_ (by simp [Trip.takeHold]) rfl
    · split <;> rfl
    · split <;> exact hb
    · split
      · exact .inr rfl
      · exact .inl rfl
    · simp [Trip.takeHold]
  unfold Machine.applyGrant
  dsimp only
  generalize recomputeFill b (changeTrip b (Trip.takeHold kind charge s.activeGeneration)
    (takeHold i ⟨card, t.context.tripRef, charge, kind⟩ s)) = u at hgrant ⊢
  refine Owing.postOpt ?_ _
  exact hgrant.frames rfl rfl

theorem Owing.applyRefusal (h : Owing none s) (lane : Nat) : Owing none (applyRefusal lane s) := by
  unfold Machine.applyRefusal reportTo
  split
  · exact h
  · refine Owing.frames (s := _) ?_ (raiseEvent_lanes ..) (raiseEvent_berths ..)
    split
    · exact h
    · exact h.countRefusal _

theorem Owing.ownPresent (h : Owing none s) (lane : Nat) (c : Credential) : Owing none (ownPresent lane c s).1 := by
  unfold Machine.ownPresent
  rcases judge_cases s lane c with ⟨r, hj⟩ | ⟨i, b, t, -, hb, hs, ht, hp, hj⟩
  · rw [hj]
    exact h.applyRefusal lane
  · rw [hj]
    rcases judgeCard_cases s i b t c with ⟨r, slot, d, hc⟩ | ⟨d, hc⟩ | ⟨x, g, p, pay, hc⟩ <;> rw [hc]
    · exact h.applyRefusal lane
    · exact h.applyGrant hs hb ht hp c.card .courtesy 0 none
    · exact h.applyGrant hs hb ht hp c.card pay.kind pay.charge (exhaustedNotice x c.card p pay)

/-! ### The step -/

theorem Owing.ownJournalRelease (h : Owing none s) (hr : Holds Recorded (fun _ => True) s) (ref : Nat) :
    Owing none (ownJournalRelease ref s).1 := by
  unfold Machine.ownJournalRelease
  split
  · exact h
  · split
    · exact h
    · next rest _ =>
      split
      · exact h
      · have hreleased : Owing none { s with journal := { s.journal with records := rest } } := h.frames rfl rfl
        exact hreleased.serveWaiting ⟨hr.1, fun _ _ => trivial⟩

theorem Owing.owner (h : Owing none s) (hl : ServiceLaw s) (hr : Holds Recorded (fun _ => True) s) (q : Request) :
    Owing none (owner q s).1 := by
  cases q with
  | setup r => exact h.ownSetup hl r
  | serviceStart t => exact h.ownServiceStart t
  | serviceStop => exact h.ownServiceStop hl
  | egressBegin =>
    unfold Machine.owner ownEgressBegin egressReply
    dsimp only
    split
    · exact h
    · exact h.setLatch true
  | egressEnd =>
    unfold Machine.owner ownEgressEnd egressReply
    dsimp only
    split
    · exact h.setLatch false
    · exact h
  | restart => exact h.ownRestart hl
  | timeMark t => exact h.ownTimeMark t
  | berthOpen r => exact h.ownBerthOpen r
  | berthClose n => exact h.ownBerthClose n
  | berthAmend r => exact h.ownBerthAmend r
  | laneAssign n b => exact h.ownLaneAssign n b
  | laneReturn n => exact h.ownLaneReturn n
  | present n c => exact h.ownPresent n c
  | journalRelease ref => exact h.ownJournalRelease hr ref
  | _ => exact h.frames (by simp [Machine.owner]) (by simp [Machine.owner])

/-- The law of the holds with the claims about trips that its steps need: trips stand only in service (R26), and a record only in a
DEPARTED trip (R23). -/
structure Settled (s : State) : Prop where
  owing : Owing none s
  service : ServiceLaw s
  recorded : Holds Recorded (fun _ => True) s

/-- Trips follow the moves of an event, so that only the holds are left to show. -/
theorem Settled.moves (h : Settled s) (hm : Moves s u) (ho : Owing none u) : Settled u :=
  ⟨ho, hm.keep (p := ServiceLaw) serviceLaw_move h.service,
    (hm.keep (p := fun s => Holds Recorded (fun _ => True) s ∧ ServiceLaw s)
      (fun hm hu => ⟨hu.1.move recorded_rules hu.2 hm, serviceLaw_move hm hu.2⟩) ⟨h.recorded, h.service⟩).1⟩

theorem Settled.of_vacant (hv : ∀ b, s.berth b = none) (hh : ∀ i, (s.lane i).hold = none) : Settled s where
  owing := .of_vacant hv hh
  service b hb := absurd (hv b) hb
  recorded := ⟨fun b t ht => absurd ht (by simp [hv b]), fun _ _ => trivial⟩

theorem settled_rules : StepRules Settled where
  frames hl hb hj hv h := by
    have hjr := congrArg Journal.records hj
    exact ⟨h.owing.frames hl hb, (serviceLaw_iff _).mpr (((serviceLaw_iff _).mp h.service).congr hv hb hjr),
      h.recorded.congr hv hb hjr⟩
  owner _ h := h.moves (owner_moves ..) (h.owing.owner h.service h.recorded _)
  powerOnReset pins s := .of_vacant (fun b => by fin_cases b <;> rfl) fun i => by fin_cases i <;> rfl
  beamRaw i a b _ h := h.moves (beamRaw_moves ..) (h.owing.beamRaw i a b)
  beamAccepted i _ h := h.moves (beamAccepted_moves ..) (h.owing.beamAccepted i)
  senseChange i o _ h := h.moves (senseChange_moves ..) (h.owing.senseChange i o)
  barrierExpiry i _ h := h.moves (barrierExpiry_moves ..) (h.owing.barrierExpiry i)
  passageExpiry i _ h := h.moves (passageExpiry_moves ..) (h.owing.passageExpiry i)
  clearExpiry i _ h := h.moves (clearExpiry_moves ..) (h.owing.clearExpiry i)
  serviceAdvance h := h.moves (serviceAdvance_moves _) h.owing.serviceAdvance
  lineRaw raw _ h := h.moves (lineRaw_moves ..)
    (h.owing.frames (by simp) (by unfold lineRaw; dsimp only; split <;> rfl))
  lineAccepted {s} h := h.moves (lineAccepted_moves s) (by
    unfold lineAccepted
    split
    · exact (h.owing.frames (u := { s with supervisor := { s.supervisor with
        line := ⟨s.supervisor.line.raw, s.supervisor.line.raw, none⟩ } }) rfl rfl).demandEvent _ _
    · exact h.owing)

/-- Settles O52: each event and each request keeps the law of the holds (`settled_rules`); a hold that ends is owed to its berth until the
berth takes the lane's report (`Owing`). -/
theorem holdsEqualTheLanesThatHold : Obligations.HoldsEqualTheLanesThatHold := by
  intro s t hh hl hv _ hj hs
  have hrecorded : Holds Recorded (fun _ => True) s :=
    ⟨fun b t ht hr => ((hj.2.2.2 b t ht).2).mpr hr, fun _ _ => trivial⟩
  exact (settled_rules.step ⟨.of_laws hh hl, hv, hrecorded⟩ hs).owing.holdLaw

end

end Sys2Proof.Machine
end

section
/-! SUPPORT. The operations of one lane as plain record updates: lamps that cannot rise (R46), the tests of settlement and the reports to
the lane's berth, and the checks that the lane requests share (R39, R45, R48). -/

namespace Sys2Proof.Machine

open Sys2Proof

/-! ### Putting a lane -/

/-- The state with one lane unit replaced and no lamp changed. -/
def State.putLane (i : LaneIx) (l : Lane) (s : State) : State := { s with lanes := s.lanes.set i l }

@[simp] theorem putLane_runTime (i : LaneIx) (l : Lane) (s : State) : (s.putLane i l).runTime = s.runTime := rfl
@[simp] theorem putLane_supervisor (i : LaneIx) (l : Lane) (s : State) : (s.putLane i l).supervisor = s.supervisor := rfl
@[simp] theorem putLane_lamp (i j : LaneIx) (l : Lane) (s : State) : (s.putLane i l).lamp j = s.lamp j := rfl
@[simp] theorem putLane_lane_self (i : LaneIx) (l : Lane) (s : State) : (s.putLane i l).lane i = l := PerLane.get_set_self ..

theorem putLane_lane_other {i j : LaneIx} (h : j ≠ i) (l : Lane) (s : State) : (s.putLane i l).lane j = s.lane j :=
  PerLane.get_set_other _ _ _ _ h

@[simp] theorem putLane_putLane (i : LaneIx) (l m : Lane) (s : State) : (s.putLane i l).putLane i m = s.putLane i m := by
  simp [State.putLane]

theorem setLane_eq (i : LaneIx) (f : Lane → Lane) (s : State) : setLane i f s = s.putLane i (f (s.lane i)) := rfl

theorem changeLane_rescan (i : LaneIx) (f : Lane → Lane) (s : State) :
    changeLane i f s = rescanLamps s (s.putLane i (f (s.lane i))) := rfl

section
variable {s u : State} {i : LaneIx} {f : Lane → Lane}

/-! ### Lamps that do not rise -/

/-- A lane that keeps its assignment and enters neither FAULT nor EGRESS, nor OPENING or OPEN from another state, sees no condition rise,
unless it leaves OFF or EGRESS (R46, R189). -/
theorem levelRises_lane (hb : (f (s.lane i)).berth = (s.lane i).berth)
    (hfrom : (s.lane i).state ≠ .off ∧ (s.lane i).state ≠ .egress)
    (hto : (f (s.lane i)).state ≠ .fault ∧ (f (s.lane i)).state ≠ .egress)
    (hopen : (f (s.lane i)).state = .opening ∨ (f (s.lane i)).state = .opened →
      (s.lane i).state = .opening ∨ (s.lane i).state = .opened) :
    levelRises s (setLane i f s) i = false := by
  have htrip : (setLane i f s).boardingTrip i = s.boardingTrip i := by
    unfold State.boardingTrip
    rw [setLane_lane_self, hb]
    rfl
  have hlevel : (setLane i f s).level i = true → s.level i = true := by
    unfold State.level
    rw [htrip, setLane_lamp, setLane_lane_self]
    dsimp only
    rw [if_neg hfrom.1]
    split
    · exact nofun
    · cases (s.lamp i).condition <;> simp only [Bool.or_eq_true, decide_eq_true_eq, imp_self]
      case laneOpen => exact hopen
      case fault => exact fun h => absurd h hto.1
      case egress => exact fun h => absurd h hto.2
  unfold levelRises
  cases h : (setLane i f s).level i with
  | false => rfl
  | true => simp [hlevel h, hfrom.2]

/-- A change of such a lane is a plain record update. -/
theorem changeLane_still (hb : (f (s.lane i)).berth = (s.lane i).berth)
    (hfrom : (s.lane i).state ≠ .off ∧ (s.lane i).state ≠ .egress)
    (hto : (f (s.lane i)).state ≠ .fault ∧ (f (s.lane i)).state ≠ .egress)
    (hopen : (f (s.lane i)).state = .opening ∨ (f (s.lane i)).state = .opened →
      (s.lane i).state = .opening ∨ (s.lane i).state = .opened) :
    changeLane i f s = s.putLane i (f (s.lane i)) :=
  changeLane_quiet (levelRises_lane hb hfrom hto hopen)

/-- A lane that enters OFF raises no lamp (R46). -/
theorem changeLane_off (h : (f (s.lane i)).state = .off) : changeLane i f s = s.putLane i (f (s.lane i)) :=
  changeLane_quiet (levelRises_off (by rw [setLane_lane_self]; exact h))

/-- Changes of fields that no condition reads commute with the rises. -/
theorem endEntry_rescanLamps (h : Hold) (st : EntryState) (s u : State) :
    endEntry h st (rescanLamps s u) = rescanLamps s (endEntry h st u) := rfl

/-! ### The lane's berth -/

theorem settleBerthOf_eq {o : Option BerthIx} (ho : (s.lane i).berth = o) :
    settleBerthOf i s = o.elim s fun b => settle b s := by
  unfold settleBerthOf
  rw [ho]
  cases o <;> rfl

theorem reportTo_some {b : BerthIx} (hb : (s.lane i).berth = some b) (f : BerthIx → State → State) : reportTo i f s = f b s := by
  unfold reportTo
  rw [hb]

theorem reportTo_eq {o : Option BerthIx} (ho : (s.lane i).berth = o) (f : BerthIx → State → State) :
    reportTo i f s = o.elim s fun b => f b s := by
  unfold reportTo
  rw [ho]
  cases o <;> rfl

/-! ### The list entry of a hold that ends (R108, R109) -/

theorem markEntry_eq (card ref : Nat) (st : EntryState) (now : Nat) (es : List Entry) :
    markEntry card ref st now es = es.map fun e =>
      if e.card = card ∧ e.tripRef = ref ∧ e.state = .held then { e with state := st, changedAt := now } else e := by
  unfold markEntry Entry.isFor
  refine List.map_congr_left fun e _ => ?_
  simp only [Bool.and_eq_true, decide_eq_true_eq, and_assoc]

/-- The recent admissions once a hold has ended. -/
def State.ended (h : Hold) (st : EntryState) (s : State) : List Entry := s.recent.map fun e =>
  if e.card = h.card ∧ e.tripRef = h.tripRef ∧ e.state = .held then { e with state := st, changedAt := s.runTime } else e

theorem endEntry_eq (h : Hold) (st : EntryState) (s : State) : endEntry h st s = { s with recent := s.ended h st } := by
  rw [endEntry, markEntry_eq]
  rfl

/-! ### Timers (log 4) -/

theorem timerDue_of_early {now : Nat} {t : Option Nat} (h : ∀ d, t = some d → now < d) : timerDue now t = false := by
  cases t with
  | none => rfl
  | some d => simpa [timerDue] using h d rfl

theorem timerDue_of_due {now d : Nat} {t : Option Nat} (ht : t = some d) (hd : d ≤ now) : timerDue now t = true := by
  subst ht
  simpa [timerDue] using hd

/-! ### Lane requests -/

theorem atLane_config {n : Nat} {f : LaneIx → State × Reply} (hc : s.supervisor.state = .config) :
    atLane n s f = (s, .code .state) := if_pos hc

theorem atLane_absent {n : Nat} {f : LaneIx → State × Reply} (hc : s.supervisor.state ≠ .config)
    (hn : 8 ≤ n ∨ s.supervisor.setup.lanesPresent ≤ n) : atLane n s f = (s, .code .range) := by
  have hnone : s.lane? n = none := by
    unfold State.lane?
    split
    · exact if_neg (by omega)
    · rfl
  rw [atLane, if_neg hc, hnone]

theorem lane?_present (hi : i.val < s.supervisor.setup.lanesPresent) : s.lane? i.val = some i := by
  simp [State.lane?, hi]

theorem atLane_present {f : LaneIx → State × Reply} (hc : s.supervisor.state ≠ .config)
    (hi : i.val < s.supervisor.setup.lanesPresent) : atLane i.val s f = f i := by
  rw [atLane, if_neg hc, lane?_present hi]

end

end Sys2Proof.Machine
end

section
/-! SUPPORT. LANE_ASSIGN and LANE_RETURN (R39, R45). -/

namespace Sys2Proof.Machine

open Sys2Proof

/-! ### LANE_ASSIGN (R45) -/

theorem exec_laneAssign {tag : Byte} {n : Nat} {b : Option Nat} {s u : State} {p : Reply} (hs : s.slotFree)
    (ho : ownLaneAssign n b (countTaken s) = (u, p)) : exec (.laneAssign tag n b) s = .next (State.answering 0x28 tag p u) :=
  exec_of_owner (q := .laneAssign n b) hs rfl rfl ho

theorem berth?_absent {s : State} {k : Nat} (h : 4 ≤ k ∨ s.supervisor.setup.berthsPresent ≤ k) : s.berth? k = none := by
  unfold State.berth?
  split
  · exact if_neg (by omega)
  · rfl

theorem berth?_present {s : State} {b : BerthIx} (h : b.val < s.supervisor.setup.berthsPresent) : s.berth? b.val = some b := by
  simp [State.berth?, h]

theorem assignTarget_present {s : State} {b : Option BerthIx} (h : ∀ k, b = some k → k.val < s.supervisor.setup.berthsPresent) :
    assignTarget s (b.map Fin.val) = some b := by
  cases b with
  | none => rfl
  | some k => simp [assignTarget, berth?_present (h k rfl)]

/-- A lane or berth that is not present refuses with RANGE (R45). -/
theorem ownLaneAssign_absent {s : State} {n : Nat} {b : Option Nat} (hc : s.supervisor.state ≠ .config)
    (h : 8 ≤ n ∨ s.supervisor.setup.lanesPresent ≤ n ∨
      ∃ k, b = some k ∧ (4 ≤ k ∨ s.supervisor.setup.berthsPresent ≤ k)) :
    ownLaneAssign n b s = (s, .code .range) := by
  rw [← or_assoc] at h
  rcases h with hn | ⟨k, rfl, hk⟩
  · exact atLane_absent hc hn
  · unfold ownLaneAssign atLane
    rw [if_neg hc]
    cases s.lane? n with
    | none => rfl
    | some i => simp [assignTarget, berth?_absent hk]

/-- What LANE_ASSIGN does past its range checks, by the lane's state (R45). -/
theorem ownLaneAssign_present {s : State} {i : LaneIx} {b : Option BerthIx} (hc : s.supervisor.state ≠ .config)
    (hi : i.val < s.supervisor.setup.lanesPresent) (hb : ∀ k, b = some k → k.val < s.supervisor.setup.berthsPresent) :
    ownLaneAssign i.val (b.map Fin.val) s =
      if (s.lane i).state.busy then (s, .code .busy) else (assignLane i b s, .laneAssign i.val b) := by
  unfold ownLaneAssign
  rw [atLane_present hc hi]
  simp only [assignTarget_present hb]

theorem settleOpt_eq (o : Option BerthIx) (s : State) : settleOpt o s = o.elim s fun b => settle b s := by
  cases o <;> rfl

/-- Settles O39: past its checks the request is `assignLane`, the change of the lane and then the two tests of settlement. -/
theorem laneAssignReplacesTheAssignment : Obligations.LaneAssignReplacesTheAssignment := by
  intro tag s hs
  refine ⟨fun hc n b => exec_laneAssign hs (atLane_config (s := countTaken s) hc), fun hc n b h => ?_,
    fun i b hc hi hb => ⟨fun hbusy => ?_, fun hfree => ?_⟩⟩
  · exact exec_laneAssign hs (ownLaneAssign_absent (s := countTaken s) hc h)
  · have ho := ownLaneAssign_present (s := countTaken s) hc hi hb
    have hb' : (s.lane i).state.busy = true := (LaneState.busy_iff _).mpr (by simpa using hbusy)
    rw [countTaken_lane, if_pos hb'] at ho
    exact exec_laneAssign hs ho
  · have ho := ownLaneAssign_present (s := countTaken s) hc hi hb
    have hn : ¬(s.lane i).state.busy = true := by
      simp only [List.mem_cons, List.not_mem_nil, or_false] at hfree
      rcases hfree with h | h | h <;> simp [h, LaneState.busy]
    rw [countTaken_lane, if_neg hn] at ho
    refine ⟨fun he => ?_, fun hne => ⟨_, _, _, rfl, rfl, rfl, ?_⟩⟩
    · rw [assignLane, countTaken_lane, if_pos he] at ho
      exact exec_laneAssign hs ho
    · rw [assignLane, countTaken_lane, if_neg hne, settleOpt_eq, settleOpt_eq, changeLane_rescan, rescanLamps_countTaken] at ho
      exact exec_laneAssign hs ho

/-! ### LANE_RETURN (R39) -/

theorem exec_laneReturn {tag : Byte} {n : Nat} {s u : State} {p : Reply} (hs : s.slotFree)
    (ho : ownLaneReturn n (countTaken s) = (u, p)) : exec (.laneReturn tag n) s = .next (State.answering 0x29 tag p u) :=
  exec_of_owner (q := .laneReturn n) hs rfl rfl ho

/-- What LANE_RETURN does past its range checks, by the lane's state (R39). -/
theorem ownLaneReturn_present {s : State} {i : LaneIx} (hc : s.supervisor.state ≠ .config)
    (hi : i.val < s.supervisor.setup.lanesPresent) :
    ownLaneReturn i.val s =
      if (s.lane i).state ≠ .fault then (s, .code .state)
      else (startClosing i (fun l => { l with faultCause := none, returning := true }) s, .code .ok) := by
  unfold ownLaneReturn
  rw [atLane_present hc hi]

section
variable {s : State} {i : LaneIx} {f : Lane → Lane}

theorem post_if (p : Prop) [Decidable p] (n : Notice) (s : State) :
    (if p then post n s else s) = State.posting (if p then [n] else []) s := by
  split <;> rfl

/-- The lane as its closing completes (R37). -/
def Lane.closedAt (st : LaneState) (l : Lane) : Lane := { l with state := st, barrierTimer := none, returning := false }

/-- A closing completes: no lamp rises, LANE_RETURNED is posted for a return, and then the lane's berth tests its settlement (R37). -/
theorem completeClosing_eq {o : Option BerthIx} {u : State} (hs : (s.lane i).state = .closing) (ho : (s.lane i).berth = o)
    (hu : u = State.posting (if (s.lane i).returning then [.laneReturned i] else [])
      (s.putLane i ((s.lane i).closedAt (if s.supervisor.state = .outOfService then .off else .closed)))) :
    completeClosing i s = o.elim u fun b => settle b u := by
  subst hu
  unfold completeClosing
  dsimp only
  rw [changeLane_still rfl (by simp [hs]) (by dsimp only; split <;> simp) (by dsimp only; split <;> simp), post_if]
  exact settleBerthOf_eq (by rw [posting_lane, putLane_lane_self]; exact ho)

/-- A lane enters CLOSING with no lamp rising, and holds back its berth (R36, R39). -/
theorem startClosing_eq {l : Lane} (hl : f (s.lane i) = l) (hb : l.berth = (s.lane i).berth)
    (hfrom : (s.lane i).state ≠ .off ∧ (s.lane i).state ≠ .egress) :
    startClosing i f s =
      if l.sense then s.putLane i (l.toClosing s.runTime) else completeClosing i (s.putLane i (l.toClosing s.runTime)) := by
  subst hl
  have hstill : changeLane i (fun l => (f l).toClosing s.runTime) s = s.putLane i ((f (s.lane i)).toClosing s.runTime) :=
    changeLane_still (f := fun l => (f l).toClosing s.runTime) hb hfrom ⟨nofun, nofun⟩ fun h => by rcases h with h | h <;> cases h
  unfold startClosing
  dsimp only
  rw [hstill, settleBerthOf_of_busy (by rw [putLane_lane_self]; rfl), putLane_lane_self]
  rfl

end

/-- Settles O40: a faulted lane starts its closing, and completes it when the sense shows closed (`startClosing_eq`,
`completeClosing_eq`). -/
theorem laneReturnClosesAFaultedLane : Obligations.LaneReturnClosesAFaultedLane := by
  intro tag s hs
  refine ⟨fun hc n => exec_laneReturn hs (atLane_config (s := countTaken s) hc),
    fun hc n h => exec_laneReturn hs (atLane_absent (s := countTaken s) hc h), fun i hc hi => ?_⟩
  have ho := ownLaneReturn_present (s := countTaken s) hc hi
  rw [countTaken_lane] at ho
  refine ⟨fun hf => exec_laneReturn hs (ho.trans (if_pos hf)), fun hf => ?_⟩
  rw [if_neg (not_not.mpr hf), startClosing_eq (s := countTaken s) (l := { s.lane i with faultCause := none, returning := true })
    rfl rfl (by simp [hf])] at ho
  refine ⟨fun hopen => ?_, fun hclosed u hu => ?_⟩
  · rw [if_pos hopen] at ho
    exact exec_laneReturn hs ho
  · rw [if_neg (by simp [hclosed])] at ho
    refine exec_laneReturn hs (ho.trans (congrArg (·, _) ?_))
    refine completeClosing_eq (by rw [putLane_lane_self]; rfl) (by rw [putLane_lane_self]; rfl) (hu.trans ?_)
    rw [putLane_lane_self, putLane_putLane]
    rfl

end Sys2Proof.Machine
end

section
/-! SUPPORT. LANE_LAMP, the end of a pulse, and what lamps and drives show (R28, R46 to R48). -/

namespace Sys2Proof

/-- The distance of two numbers, as the search for the nearest value forms it. -/
theorem max_sub_min (v n : Nat) : max v n - min v n = ((n : Int) - v).natAbs := by omega

end Sys2Proof

namespace Sys2Proof.Machine

open Sys2Proof

/-! ### The nearest allowed value (R44, R48) -/

/-- `x` is at least as near to `n` as `v`, and at the same distance it is the larger. -/
def Nearer (n x v : Nat) : Prop :=
  ((n : Int) - x).natAbs ≤ ((n : Int) - v).natAbs ∧ (((n : Int) - x).natAbs = ((n : Int) - v).natAbs → v ≤ x)

theorem nearestFrom_mem (n best : Nat) (xs : List Nat) : nearestFrom n best xs ∈ best :: xs := by
  induction xs generalizing best with
  | nil => exact List.mem_singleton_self best
  | cons x xs ih =>
    unfold nearestFrom
    split
    · exact List.mem_cons_of_mem _ (ih x)
    · exact List.cons_subset_cons best (List.subset_cons_self x xs) (ih best)

/-- Of ascending values the search finds the nearest, and midway the larger. -/
theorem nearestFrom_nearer (n best : Nat) (xs : List Nat) (h : (best :: xs).Pairwise (· < ·)) :
    ∀ v ∈ best :: xs, Nearer n (nearestFrom n best xs) v := by
  induction xs generalizing best with
  | nil => simp [nearestFrom, Nearer]
  | cons x xs ih =>
    have hlt : best < x := List.rel_of_pairwise_cons h List.mem_cons_self
    have hbest : (best :: xs).Pairwise (· < ·) := h.sublist (List.cons_sublist_cons.mpr (List.sublist_cons_self x xs))
    have hx := ih x h.of_cons
    have hb := ih best hbest
    unfold nearestFrom
    rw [max_sub_min, max_sub_min]
    intro v hv
    split
    · next hle =>
      rcases List.mem_cons.mp hv with rfl | hv
      · have hself := hx x List.mem_cons_self
        unfold Nearer at hself ⊢
        omega
      · exact hx v hv
    · next hgt =>
      rcases List.mem_cons.mp hv with rfl | hv
      · exact hb v List.mem_cons_self
      · rcases List.mem_cons.mp hv with rfl | hv
        · have hself := hb best List.mem_cons_self
          unfold Nearer at hself ⊢
          omega
        · exact hb v (List.mem_cons_of_mem _ hv)

/-- The pulse width that a selection takes is the one nearest allowed value (R48). -/
theorem nearestPulse_eq {n pw : Nat} (hmem : pw ∈ [100, 250, 500, 1000, 2000])
    (h : ∀ v ∈ [(100 : Int), 250, 500, 1000, 2000],
      ((n : Int) - pw).natAbs ≤ ((n : Int) - v).natAbs ∧ (((n : Int) - pw).natAbs = ((n : Int) - v).natAbs → v ≤ pw)) :
    nearestPulse n = pw := by
  have hfound := nearestFrom_mem n 100 [250, 500, 1000, 2000]
  have hcast : (nearestFrom n 100 [250, 500, 1000, 2000] : Int) ∈ [(100 : Int), 250, 500, 1000, 2000] := by
    simp only [List.mem_cons, List.not_mem_nil, or_false] at hfound ⊢
    omega
  have hpw := nearestFrom_nearer n 100 [250, 500, 1000, 2000] (by decide) pw hmem
  have hn := h _ hcast
  unfold Nearer at hpw
  unfold nearestPulse
  omega

/-! ### LANE_LAMP (R48) -/

theorem exec_laneLamp {tag : Byte} {r : LampRequest} {s u : State} {p : Reply} (hs : s.slotFree)
    (ho : ownLaneLamp r (countTaken s) = (u, p)) : exec (.laneLamp tag r) s = .next (State.answering 0x2A tag p u) :=
  exec_of_owner (q := .laneLamp r) hs rfl rfl ho

theorem conditionOf_high {n : Nat} (h : 9 < n) : LampCondition.ofCode n = none := by
  obtain ⟨k, rfl⟩ := Nat.exists_eq_add_of_le' h
  rfl

theorem widthOf_high {n : Nat} (h : 2 < n) : LampWidth.ofCode n = none := by
  obtain ⟨k, rfl⟩ := Nat.exists_eq_add_of_le' h
  rfl

/-- A lane that is not present, or a code without a meaning, refuses with RANGE (R48). -/
theorem ownLaneLamp_range {s : State} {r : LampRequest} (hc : s.supervisor.state ≠ .config)
    (h : 8 ≤ r.lane ∨ s.supervisor.setup.lanesPresent ≤ r.lane ∨ 9 < r.condition ∨ 2 < r.width) :
    ownLaneLamp r s = (s, .code .range) := by
  rw [← or_assoc] at h
  rcases h with hn | h
  · exact atLane_absent hc hn
  · unfold ownLaneLamp atLane
    rw [if_neg hc]
    cases s.lane? r.lane with
    | none => rfl
    | some i =>
      dsimp only
      rcases h with h | h
      · rw [conditionOf_high h]
      · rw [widthOf_high h]
        cases LampCondition.ofCode r.condition <;> rfl

/-- What a rise of a level condition makes of a lamp that has just been selected (R47). -/
theorem rise_selected (now : Nat) (c : LampCondition) (w : LampWidth) (pw : Nat) :
    (⟨c, w, pw, false, none⟩ : Lamp).rise now false =
      ⟨c, w, pw, decide (w = .latched), if w = .pulse then some (now + pw) else none⟩ := by
  cases w <;> rfl

/-- A selection: the latch cleared if asked for, and a new selection with its rise when its condition is true (R46, R48). -/
theorem selectLamp_eq {s : State} {i : LaneIx} {c : LampCondition} {w : LampWidth} {pw : Nat} {clear : Bool} {old : Lamp}
    (hold : old = if clear then { s.lamp i with latch := false } else s.lamp i) :
    selectLamp i ⟨c, w, pw⟩ clear s =
      { s with
        lamps := s.lamps.set i
          (if old.condition = c ∧ old.width = w ∧ old.pulseWidth = pw then old
            else ⟨c, w, pw,
              decide (w = .latched) && State.level { s with lamps := s.lamps.set i ⟨c, w, pw, false, none⟩ } i,
              if w = .pulse ∧ State.level { s with lamps := s.lamps.set i ⟨c, w, pw, false, none⟩ } i = true then
                some (s.runTime + pw) else none⟩) } := by
  obtain ⟨hcond, hwidth, hpulse⟩ : (s.lamp i).condition = old.condition ∧ (s.lamp i).width = old.width ∧
      (s.lamp i).pulseWidth = old.pulseWidth := by
    subst hold
    split <;> exact ⟨rfl, rfl, rfl⟩
  unfold selectLamp Lamp.select
  dsimp only
  rw [← hold, hcond, hwidth, hpulse]
  split
  · rfl
  · cases hl : State.level { s with lamps := s.lamps.set i ⟨c, w, pw, false, none⟩ } i with
    | false => simp
    | true =>
      have hlamp : State.lamp { s with lamps := s.lamps.set i ⟨c, w, pw, false, none⟩ } i = ⟨c, w, pw, false, none⟩ :=
        PerLane.get_set_self ..
      simp only [if_true, hlamp, rise_selected, PerLane.set_set, Bool.and_true, and_true]

/-- Settles O41: past its checks the request is `selectLamp`. -/
theorem laneLampSelectsAndPulsesEnd : Obligations.LaneLampSelectsAndPulsesEnd := by
  intro tag r s hs
  refine ⟨fun hc => exec_laneLamp hs (atLane_config (s := countTaken s) hc),
    fun hc h => exec_laneLamp hs (ownLaneLamp_range (s := countTaken s) hc h), ?_,
    fun i => ⟨fun h => ?_, fun d ht hd => ?_⟩⟩
  · intro i c w pw old lamp hc hi hr hcode hwidth hkeep hnear hold hlamp
    have hpw : selectedPulse w r.pulseWidth (s.lamp i).pulseWidth = pw := by
      unfold selectedPulse
      split
      · next h => exact nearestPulse_eq (hnear h).1 (hnear h).2
      · next h => exact (hkeep h).symm
    have hclamped : (decide (w = .pulse) && decide (nearestPulse r.pulseWidth ≠ r.pulseWidth)) =
        decide (w = .pulse ∧ pw ≠ r.pulseWidth) := by
      by_cases h : w = .pulse
      · simp [h, nearestPulse_eq (hnear h).1 (hnear h).2]
      · simp [h]
    have ho : ownLaneLamp r (countTaken s) = (selectLamp i ⟨c, w, pw⟩ r.clearLatch (countTaken s),
        .laneLamp (decide (w = .pulse ∧ pw ≠ r.pulseWidth)) ⟨c, w, pw⟩) := by
      unfold ownLaneLamp
      rw [hr, atLane_present (s := countTaken s) hc hi]
      simp only [hcode, hwidth, countTaken_lamp, hpw, hclamped]
    rw [selectLamp_eq (s := countTaken s) hold] at ho
    subst hlamp
    exact exec_laneLamp hs ho
  · have he : pulseEnd i s = s := by rw [pulseEnd, timerDue_of_early h]; rfl
    exact congrArg (Host.Outcome.next ∘ endOfEvent) he
  · have he : pulseEnd i s = { s with lamps := s.lamps.set i { s.lamp i with pulseDue := none } } :=
      if_pos (timerDue_of_due ht hd)
    exact congrArg (Host.Outcome.next ∘ endOfEvent) he

end Sys2Proof.Machine
end

section
/-! SUPPORT. What the lamp conditions, the lamps and the drives show (R28, R46, R47). -/

namespace Sys2Proof.Machine

open Sys2Proof

section
variable (s : State) (i : LaneIx)

theorem drivesOpen_iff (st : LaneState) : st.drivesOpen = true ↔ st ∈ [LaneState.opening, .opened, .clearing, .egress] := by
  cases st <;> simp [LaneState.drivesOpen]

theorem driveOpen_iff :
    s.driveOpen i = true ↔ (s.lane i).state ∈ [LaneState.opening, .opened, .clearing, .egress] ∨
      (s.supervisor.state = .config ∧ (s.supervisor.line.accepted = true ∨ s.supervisor.latch = true)) := by
  simp only [State.driveOpen, State.demand, Bool.or_eq_true, Bool.and_eq_true, decide_eq_true_eq, drivesOpen_iff]

theorem boardingTrip_eq_some (t : Trip) :
    s.boardingTrip i = some t ↔ ∃ b, (s.lane i).berth = some b ∧ s.berth b = some t ∧ t.phase ≠ .departed := by
  constructor
  · intro h
    unfold State.boardingTrip at h
    split at h
    · cases h
    · next b hb =>
      split at h
      · cases h
      · next u hu =>
        split at h
        · cases h
        · next hp => exact ⟨b, hb, hu.trans h, Option.some.inj h ▸ hp⟩
  · rintro ⟨b, hb, ht, hp⟩
    simp [State.boardingTrip, hb, ht, hp]

/-- A condition on the lane's boarding trip. -/
theorem boardingTrip_elim (p : Trip → Bool) :
    (s.boardingTrip i).elim false p = true ↔
      ∃ b t, (s.lane i).berth = some b ∧ s.berth b = some t ∧ t.phase ≠ .departed ∧ p t = true := by
  have hsome : (s.boardingTrip i).elim false p = true ↔ ∃ t, s.boardingTrip i = some t ∧ p t = true := by
    cases s.boardingTrip i <;> simp
  simp only [hsome, boardingTrip_eq_some]
  constructor
  · rintro ⟨t, ⟨b, hb, ht, hp⟩, h⟩
    exact ⟨b, t, hb, ht, hp, h⟩
  · rintro ⟨b, t, hb, ht, hp, h⟩
    exact ⟨t, ⟨b, hb, ht, hp⟩, h⟩

theorem level_iff :
    s.level i = true ↔ (s.lane i).state ≠ .off ∧
      ((s.lamp i).condition = .on ∨
        ((s.lamp i).condition = .laneOpen ∧ (s.lane i).state ∈ [LaneState.opening, .opened]) ∨
        ((s.lamp i).condition = .fault ∧ (s.lane i).state = .fault) ∨
        ((s.lamp i).condition = .egress ∧ (s.lane i).state = .egress) ∨
        ∃ b t, (s.lane i).berth = some b ∧ s.berth b = some t ∧ t.phase ≠ .departed ∧
          (((s.lamp i).condition = .berthNear ∧ t.fill = .near) ∨
            ((s.lamp i).condition = .berthFull ∧ (t.fill = .full ∨ t.fill = .overfull)) ∨
            ((s.lamp i).condition = .berthClosing ∧ t.phase = .closing))) := by
  unfold State.level
  dsimp only
  split
  · next h => simp [h]
  · next h =>
    simp only [ne_eq, h, not_false_eq_true, true_and]
    cases (s.lamp i).condition <;> simp [boardingTrip_elim]

theorem isEvent_iff (c : LampCondition) : c.isEvent = true ↔ c ∈ [LampCondition.admission, .refuse] := by
  cases c <;> simp [LampCondition.isEvent]

theorem lampLit_iff :
    s.lampLit i = true ↔ (s.lane i).state = .egress ∨ ((s.lane i).state ≠ .off ∧
      (((s.lamp i).width = .follow ∧ (s.lamp i).condition ∉ [LampCondition.admission, .refuse] ∧ s.level i = true) ∨
        ((s.lamp i).width = .follow ∧ (s.lamp i).condition ∈ [LampCondition.admission, .refuse] ∧ (s.lamp i).pulseDue ≠ none) ∨
        ((s.lamp i).width = .pulse ∧ (s.lamp i).pulseDue ≠ none) ∨
        ((s.lamp i).width = .latched ∧ (s.lamp i).latch = true))) := by
  rw [← isEvent_iff]
  unfold State.lampLit
  dsimp only
  split
  · next h => simp [h]
  · next h => simp [h]
  · next he ho =>
    rw [or_iff_right he, and_iff_right ho]
    cases (s.lamp i).width with
    | follow => cases (s.lamp i).condition.isEvent <;> simp [← Option.isSome_iff_ne_none]
    | pulse => simp [← Option.isSome_iff_ne_none]
    | latched => simp

end

theorem levelRises_iff (before after : State) (i : LaneIx) :
    levelRises before after i = true ↔ after.level i = true ∧ (before.level i = false ∨
      ((before.lane i).state = .egress ∧ (after.lane i).state ≠ .egress)) := by
  simp [levelRises]

/-- Settles O60: the outputs by their equivalences (`driveOpen_iff`, `level_iff`, `lampLit_iff`), the rises by the width of the lamp. -/
theorem lampsAndDrivesFollowTheState : Obligations.LampsAndDrivesFollowTheState := by
  refine ⟨fun s i => ⟨driveOpen_iff s i, level_iff s i, lampLit_iff s i⟩, fun before after => ⟨_, rfl, fun i => ?_⟩,
    fun s i c hc => ?_⟩
  · rw [PerLane.get_tabulate]
    refine if_congr (levelRises_iff before after i) ?_ rfl
    obtain ⟨condition, width, pulseWidth, latch, pulseDue⟩ := after.lamp i
    cases width <;> rfl
  · unfold raiseEvent
    by_cases h : (s.lane i).state = .off ∨ (s.lamp i).condition ≠ c
    · rw [if_pos h, if_neg (by tauto)]
    · rw [if_neg h, if_pos (by tauto)]
      obtain ⟨condition, width, pulseWidth, latch, pulseDue⟩ := s.lamp i
      cases width <;> rfl

end Sys2Proof.Machine
end

section
/-! SUPPORT. A change of the barrier-open sense by the state of its lane (R31, R32, R36 to R38, R42). -/

namespace Sys2Proof.Machine

open Sys2Proof

section
variable {s u : State} {i : LaneIx} {l : Lane}

/-! ### Changes that no lamp condition reads -/

/-- Rises at a change compare what the conditions and the lane states were before it. -/
theorem rescanLamps_before {s' : State} (hl : ∀ j, s'.level j = s.level j) (hs : ∀ j, (s'.lane j).state = (s.lane j).state) :
    rescanLamps s' u = rescanLamps s u := by
  have hr : levelRises s' u = levelRises s u := by
    funext j
    unfold levelRises
    rw [hl j, hs j]
  unfold rescanLamps
  rw [hr]

/-- A lane that keeps its state and its assignment keeps its place in every condition. -/
theorem putLane_level (hs : l.state = (s.lane i).state) (hb : l.berth = (s.lane i).berth) (j : LaneIx) :
    (s.putLane i l).level j = s.level j ∧ ((s.putLane i l).lane j).state = (s.lane j).state := by
  by_cases hj : j = i
  · subst hj
    have htrip : (s.putLane j l).boardingTrip j = s.boardingTrip j := by
      unfold State.boardingTrip
      rw [putLane_lane_self, hb]
      rfl
    rw [putLane_lane_self]
    refine ⟨?_, hs⟩
    unfold State.level
    rw [htrip, putLane_lamp, putLane_lane_self]
    dsimp only
    rw [hs]
  · have hlane := putLane_lane_other hj l s
    refine ⟨?_, by rw [hlane]⟩
    have htrip := boardingTrip_of_berths (before := s) (after := s.putLane i l) hlane fun _ _ => rfl
    unfold State.level
    rw [htrip, putLane_lamp, hlane]

/-- Such a change before another of the same lane makes one change of it. -/
theorem changeLane_putLane (hs : l.state = (s.lane i).state) (hb : l.berth = (s.lane i).berth) (f : Lane → Lane) :
    changeLane i f (s.putLane i l) = rescanLamps s (s.putLane i (f l)) := by
  rw [changeLane_rescan, putLane_lane_self, putLane_putLane,
    rescanLamps_before (fun j => (putLane_level hs hb j).1) fun j => (putLane_level hs hb j).2]

theorem rescanLamps_putLane_same (hs : l.state = (s.lane i).state) (hb : l.berth = (s.lane i).berth) :
    rescanLamps s (s.putLane i l) = s.putLane i l := by
  have hr : ∀ j, levelRises s (s.putLane i l) j = false := fun j => by
    obtain ⟨hlevel, hstate⟩ := putLane_level hs hb j
    unfold levelRises
    rw [hlevel, hstate]
    cases s.level j <;> simp
  unfold rescanLamps
  simp only [hr, Bool.false_eq_true, if_false]
  exact congrArg (fun lamps => ({ s.putLane i l with lamps := lamps } : State))
    (PerLane.ext_get fun j => PerLane.get_tabulate ..)

/-! ### The sense (R31, R32, R36, R37, R38) -/

/-- The lane after a change of its sense that it has taken, where a closing that completes ends in `last`. -/
def Lane.sensed (now : Nat) (last : LaneState) (isOpen : Bool) (l : Lane) : Lane :=
  match l.state, isOpen with
  | .opening, true => l.toOpen now
  | .opened, false => l.toOpening now
  | .clearing, false => l.toFault .forced
  | .closing, false => l.closedAt last
  | .closed, true => l.toFault .forced
  | _, _ => l

/-- What the lane posts at the change. -/
def Lane.senseNotices (i : LaneIx) (isOpen : Bool) (l : Lane) : List Notice :=
  match l.state, isOpen with
  | .clearing, false => [.laneFault i .forced]
  | .closing, false => if l.returning then [.laneReturned i] else []
  | .closed, true => [.laneFault i .forced]
  | _, _ => []

/-- The whole of a change of the sense: the lane's next form with its rises and notices, and the settlement test of its berth if its state
has changed. -/
theorem senseChange_eq {isOpen : Bool} {next : Lane} (h : (s.lane i).sense = !isOpen)
    (hl : l = { s.lane i with sense := isOpen })
    (hnext : next = l.sensed s.runTime (if s.supervisor.state = .outOfService then .off else .closed) isOpen)
    (hu : u = State.posting (l.senseNotices i isOpen) (rescanLamps s (s.putLane i next))) :
    senseChange i isOpen s =
      if next.state = (s.lane i).state then u else (s.lane i).berth.elim u fun b => settle b u := by
  have hstate : l.state = (s.lane i).state := by rw [hl]
  have hberth : l.berth = (s.lane i).berth := by rw [hl]
  have hchange : ∀ f, changeLane i f (s.putLane i l) = rescanLamps s (s.putLane i (f l)) :=
    changeLane_putLane hstate hberth
  have hne : ¬(s.lane i).sense = isOpen := by rw [h]; cases isOpen <;> simp
  have hput : setLane i (fun l => { l with sense := isOpen }) s = s.putLane i l := by rw [setLane_eq, hl]
  have hsettle : (u.lane i).berth = (s.lane i).berth → settleBerthOf i u = (s.lane i).berth.elim u fun b => settle b u :=
    settleBerthOf_eq
  have hlane : u.lane i = next := by rw [hu, posting_lane, rescanLamps_lane, putLane_lane_self]
  rw [hlane] at hsettle
  unfold senseChange
  dsimp only
  rw [if_neg hne, hput, putLane_lane_self, putLane_runTime, hstate]
  unfold Lane.sensed at hnext
  unfold Lane.senseNotices at hu
  rw [hstate] at hnext hu
  cases hs : (s.lane i).state <;> cases isOpen <;> simp only [hs] at hnext hu ⊢
  case opening.true | opened.false =>
    subst hnext
    rw [hchange, if_neg nofun, ← hsettle hberth, hu]
    rfl
  case clearing.false | closed.true =>
    subst hnext
    rw [faultLane, hchange, if_neg nofun, ← hsettle hberth, hu]
    rfl
  case closing.false =>
    subst hnext
    have hlast : ¬(l.closedAt (if s.supervisor.state = .outOfService then .off else .closed)).state = .closing := by
      unfold Lane.closedAt
      dsimp only
      split <;> exact nofun
    unfold completeClosing
    dsimp only
    rw [hchange, putLane_lane_self, post_if, if_neg hlast, ← hsettle hberth, hu]
    rfl
  all_goals
    subst hnext
    rw [if_pos (hstate.trans hs), hu, posting_nil, rescanLamps_putLane_same hstate hberth]

/-- The states that ignore the change (R38, R42), and OPENING and OPEN at the sense they already show. -/
theorem sensed_ignored {now : Nat} {last : LaneState} {isOpen : Bool}
    (h : l.state ∈ [LaneState.off, .fault, .egress] ∨ l.state = .opening ∧ isOpen = false ∨ l.state = .opened ∧ isOpen = true ∨
      l.state = .clearing ∧ isOpen = true ∨ l.state = .closed ∧ isOpen = false ∨ l.state = .closing ∧ isOpen = true) :
    l.sensed now last isOpen = l ∧ l.senseNotices i isOpen = [] := by
  unfold Lane.sensed Lane.senseNotices
  simp only [List.mem_cons, List.not_mem_nil, or_false] at h
  rcases h with (h | h | h) | ⟨h, rfl⟩ | ⟨h, rfl⟩ | ⟨h, rfl⟩ | ⟨h, rfl⟩ | ⟨h, rfl⟩
  case inl.inl | inl.inr.inl | inl.inr.inr => cases isOpen <;> simp [h]
  all_goals simp [h]

/-- Between OPENING and OPEN no lamp rises and nothing is posted. -/
theorem sensed_open {now : Nat} {last : LaneState} {isOpen : Bool} (h : l.state = .opening ∨ l.state = .opened) :
    ((l.sensed now last isOpen).state = .opening ∨ (l.sensed now last isOpen).state = .opened) ∧
      (l.sensed now last isOpen).berth = l.berth ∧ l.senseNotices i isOpen = [] := by
  unfold Lane.sensed Lane.senseNotices
  rcases h with h | h <;> cases isOpen <;> simp [h, Lane.toOpen, Lane.toOpening]

/-- Settles O42: one form of the change for every lane state (`senseChange_eq`). -/
theorem barrierSenseChangeByLaneState : Obligations.BarrierSenseChangeByLaneState := by
  intro i isOpen s
  refine ⟨fun h => congrArg (Host.Outcome.next ∘ endOfEvent) (if_pos h), fun h => ?_⟩
  refine ⟨_, _, _, ?_, ?_, ?_, ?_, ?_, ?_, rfl,
    congrArg (Host.Outcome.next ∘ endOfEvent) (senseChange_eq (i := i) (s := s) h rfl rfl rfl)⟩
  · rintro hs rfl
    simp [Lane.senseNotices, Lane.sensed, hs, Lane.toOpen]
  · rintro hs rfl
    simp [Lane.senseNotices, Lane.sensed, hs, Lane.toOpening]
  · rintro (⟨hs, rfl⟩ | ⟨hs, rfl⟩) <;> simp [Lane.senseNotices, Lane.sensed, hs, Lane.toFault, Lane.stopTimers]
  · rintro hs rfl
    simp [Lane.senseNotices, Lane.sensed, hs, Lane.closedAt]
  · intro hignored
    obtain ⟨hnext, hnotices⟩ := sensed_ignored (i := i) (l := { s.lane i with sense := isOpen }) hignored
    rw [hnext, hnotices]
    exact ⟨rfl, rfl, rescanLamps_putLane_same (l := { s.lane i with sense := isOpen }) rfl rfl⟩
  · intro hopen
    obtain ⟨hstate, hberth, hnotices⟩ := sensed_open (i := i) (now := s.runTime) (isOpen := isOpen)
      (last := if s.supervisor.state = .outOfService then .off else .closed) (l := { s.lane i with sense := isOpen })
      (by simpa using hopen)
    rw [hnotices]
    refine changeLane_still (f := fun _ => Lane.sensed _ _ _ _) hberth ?_ ?_ fun _ => by simpa using hopen
    · simp only [List.mem_cons, List.not_mem_nil, or_false] at hopen
      rcases hopen with h | h <;> simp [h]
    · rcases hstate with h | h <;> simp only [h] <;> exact ⟨nofun, nofun⟩

end

end Sys2Proof.Machine
end

section
/-! SUPPORT. The barrier, passage and clear timers (R31, R34 to R38, R109; log 4). -/

namespace Sys2Proof.Machine

open Sys2Proof

section
variable {s u : State} {i : LaneIx}

/-! ### Faults and voids as record updates -/

/-- A lane that faults: its rises, LANE_FAULT, and the settlement test of its berth (R38, R22). -/
theorem faultLane_eq {c : LaneFaultCause} {o : Option BerthIx} (ho : (s.lane i).berth = o)
    (hu : u = State.posting [.laneFault i c] (rescanLamps s (s.putLane i ((s.lane i).toFault c)))) :
    faultLane i c s = o.elim u fun b => settle b u := by
  subst hu
  exact settleBerthOf_eq (by rw [post_lane, changeLane_lane_self]; exact ho)

/-- The state of a lane's part of a void: the lane's next form, and the list entry (R35, R109). -/
def State.voided (i : LaneIx) (h : Hold) (next : Lane) (s : State) : State :=
  { s with lanes := s.lanes.set i next, recent := s.ended h .void }

/-- The lane's part of a void: its rises, and HOLD_VOID (R35). -/
theorem dropHold_eq {c : VoidCause} {h : Hold} {f : Lane → Lane} {next : Lane} (hn : next = { f (s.lane i) with hold := none }) :
    dropHold i c h f s = State.posting [.holdVoid i h.card c h.charge h.kind] (rescanLamps s (s.voided i h next)) := by
  subst hn
  unfold dropHold
  rw [changeLane_rescan, endEntry_rescanLamps, endEntry_eq]
  rfl

/-- A void as the lane enters CLEARING raises no lamp (R34). -/
theorem dropHold_toClearing {c : VoidCause} {h : Hold} (hs : (s.lane i).state = .opening ∨ (s.lane i).state = .opened) :
    dropHold i c h (Lane.toClearing s.runTime) s =
      State.posting [.holdVoid i h.card c h.charge h.kind] (s.voided i h ((s.lane i).toClearing s.runTime)) := by
  have hstill : changeLane i (fun l => { l.toClearing s.runTime with hold := none }) s =
      s.putLane i ((s.lane i).toClearing s.runTime) :=
    changeLane_still (f := fun l => { l.toClearing s.runTime with hold := none }) rfl (by rcases hs with hs | hs <;> simp [hs])
      ⟨nofun, nofun⟩ fun h => by rcases h with h | h <;> cases h
  unfold dropHold
  rw [hstill, endEntry_eq]
  rfl

/-! ### The barrier timer (R31, R35, R37) -/

theorem barrierExpiry_early (h : ∀ d, (s.lane i).barrierTimer = some d → s.runTime < d) : barrierExpiry i s = s := by
  unfold barrierExpiry
  rw [timerDue_of_early h]
  rfl

theorem barrierExpiry_opening {d : Nat} (ht : (s.lane i).barrierTimer = some d) (hd : d ≤ s.runTime)
    (hs : (s.lane i).state = .opening) {h : Hold} {b : BerthIx} (hh : (s.lane i).hold = some h)
    (hb : (s.lane i).berth = some b) :
    barrierExpiry i s = berthVoid b (State.posting [.holdVoid i h.card .fault h.charge h.kind, .laneFault i .openTimeout]
      (rescanLamps s (s.voided i h ((s.lane i).toFault .openTimeout)))) := by
  unfold barrierExpiry
  rw [if_pos (timerDue_of_due ht hd), hs]
  simp only [hh]
  rw [reportTo_some (b := b) (by rw [post_lane, dropHold_lane_self]; exact hb),
    dropHold_eq (next := (s.lane i).toFault .openTimeout) rfl]
  rfl

theorem barrierExpiry_closing {d : Nat} (ht : (s.lane i).barrierTimer = some d) (hd : d ≤ s.runTime)
    (hs : (s.lane i).state = .closing)
    (hu : u = State.posting [.laneFault i .closeTimeout] (rescanLamps s (s.putLane i ((s.lane i).toFault .closeTimeout)))) :
    barrierExpiry i s = (s.lane i).berth.elim u fun b => settle b u := by
  unfold barrierExpiry
  rw [if_pos (timerDue_of_due ht hd), hs]
  exact faultLane_eq rfl hu

theorem exec_barrierTimerExpiry (he : barrierExpiry i s = u) : exec (.barrierTimerExpiry i) s = .next (endOfEvent u) :=
  congrArg (Host.Outcome.next ∘ endOfEvent) he

/-- Settles O43: a coherent lane whose barrier timer runs is OPENING with its hold, or CLOSING. -/
theorem barrierTimerExpiryFaultsTheLane : Obligations.BarrierTimerExpiryFaultsTheLane := by
  intro i s hc
  refine ⟨fun h => exec_barrierTimerExpiry (barrierExpiry_early h), fun d ht hd => ?_⟩
  rcases hc.barrierTimer_state (by simp [ht]) with hs | hs
  · obtain ⟨h, b, hh, hb⟩ := hc.held (.inl hs)
    exact ⟨_, fun _ => ⟨h, b, hh, hb, rfl, exec_barrierTimerExpiry (barrierExpiry_opening ht hd hs hh hb)⟩,
      fun hn => absurd hs hn⟩
  · have hhold : (s.lane i).hold = none := (hc.idle (by simp [hs])).1
    refine ⟨_, fun ho => absurd (ho.symm.trans hs) nofun, fun _ => ⟨hs, ?_,
      exec_barrierTimerExpiry (barrierExpiry_closing ht hd hs rfl)⟩⟩
    unfold State.putLane Lane.toFault Lane.stopTimers
    dsimp only
    rw [hhold]

/-! ### The passage timer (R34) -/

theorem passageExpiry_early (h : ∀ d, (s.lane i).passageTimer = some d → s.runTime < d) : passageExpiry i s = s := by
  unfold passageExpiry
  exact if_neg fun hs => by rw [timerDue_of_early h] at hs; cases hs.2

theorem passageExpiry_blocked {d : Nat} (ht : (s.lane i).passageTimer = some d) (hd : d ≤ s.runTime)
    (hs : (s.lane i).state = .opened) (hp : (s.lane i).decoder.pair ≠ .clear) :
    passageExpiry i s = s.putLane i { s.lane i with expiryPending := true, passageTimer := none } := by
  unfold passageExpiry
  rw [if_pos ⟨hs, timerDue_of_due ht hd⟩, if_neg hp]
  rfl

theorem passageExpiry_clear {d : Nat} (ht : (s.lane i).passageTimer = some d) (hd : d ≤ s.runTime)
    (hs : (s.lane i).state = .opened) (hp : (s.lane i).decoder.pair = .clear) {h : Hold} {b : BerthIx}
    (hh : (s.lane i).hold = some h) (hb : (s.lane i).berth = some b) :
    passageExpiry i s = berthVoid b (State.posting [.holdVoid i h.card .timeout h.charge h.kind]
      (s.voided i h ((s.lane i).toClearing s.runTime))) := by
  unfold passageExpiry
  rw [if_pos ⟨hs, timerDue_of_due ht hd⟩, if_pos hp]
  simp only [hh]
  rw [voidHold, reportTo_some (b := b) (by rw [dropHold_lane_self]; exact hb), dropHold_toClearing (.inr hs)]

theorem exec_passageTimerExpiry (he : passageExpiry i s = u) : exec (.passageTimerExpiry i) s = .next (endOfEvent u) :=
  congrArg (Host.Outcome.next ∘ endOfEvent) he

/-! ### The clear timer (R36) -/

theorem clearExpiry_early (h : ∀ d, (s.lane i).clearTimer = some d → s.runTime < d) : clearExpiry i s = s := by
  unfold clearExpiry
  exact if_neg fun hs => by rw [timerDue_of_early h] at hs; cases hs.2

/-- Out of service the lane enters OFF, and no lamp rises. -/
theorem clearExpiry_outOfService {d : Nat} (ht : (s.lane i).clearTimer = some d) (hd : d ≤ s.runTime)
    (hs : (s.lane i).state = .clearing) (hp : s.supervisor.state = .outOfService) :
    clearExpiry i s = (s.lane i).berth.elim (s.putLane i (s.lane i).toOff) fun b => settle b (s.putLane i (s.lane i).toOff) := by
  unfold clearExpiry
  rw [if_pos ⟨hs, timerDue_of_due ht hd⟩, hp]
  dsimp only
  rw [changeLane_off (f := Lane.toOff) rfl]
  exact settleBerthOf_eq (by rw [putLane_lane_self]; rfl)

/-- In service the lane starts its closing. -/
theorem clearExpiry_inService {d : Nat} (ht : (s.lane i).clearTimer = some d) (hd : d ≤ s.runTime)
    (hs : (s.lane i).state = .clearing) (hp : s.supervisor.state = .inService) :
    clearExpiry i s =
      if (s.lane i).sense then s.putLane i ((s.lane i).toClosing s.runTime)
      else completeClosing i (s.putLane i ((s.lane i).toClosing s.runTime)) := by
  unfold clearExpiry
  rw [if_pos ⟨hs, timerDue_of_due ht hd⟩, hp]
  exact startClosing_eq rfl rfl (by simp [hs])

theorem exec_clearTimerExpiry (he : clearExpiry i s = u) : exec (.clearTimerExpiry i) s = .next (endOfEvent u) :=
  congrArg (Host.Outcome.next ∘ endOfEvent) he

/-- The lane after its clear timer has run out (R36). -/
def State.cleared (i : LaneIx) (s : State) : Lane :=
  if s.supervisor.state = .outOfService then (s.lane i).toOff
  else if (s.lane i).sense then (s.lane i).toClosing s.runTime
  else ((s.lane i).toClosing s.runTime).closedAt .closed

/-- The clear timer runs out: the lane's next form, LANE_RETURNED where a return ends, and the settlement test of its berth. -/
theorem clearExpiry_eq {d : Nat} (ht : (s.lane i).clearTimer = some d) (hd : d ≤ s.runTime) (hs : (s.lane i).state = .clearing)
    (hp : s.supervisor.state = .inService ∨ s.supervisor.state = .outOfService)
    (hu : u = State.posting (if (s.lane i).returning = true ∧ (s.cleared i).state = .closed then [.laneReturned i] else [])
      (s.putLane i (s.cleared i))) :
    clearExpiry i s = (s.lane i).berth.elim u fun b => settle b u := by
  rcases hp with hp | hp
  · rw [clearExpiry_inService ht hd hs hp]
    have hin : ¬s.supervisor.state = .outOfService := by simp [hp]
    unfold State.cleared at hu
    rw [if_neg hin] at hu
    split
    · next hopen =>
      have hput : u = s.putLane i ((s.lane i).toClosing s.runTime) := by
        rw [hu, if_pos hopen, if_neg (fun h => nomatch h.2)]
        rfl
      have hstill := settleBerthOf_of_busy (i := i) (s := u) (by rw [hput, putLane_lane_self]; rfl)
      rw [settleBerthOf_eq (o := (s.lane i).berth) (by rw [hput, putLane_lane_self]; rfl)] at hstill
      exact (hstill.trans hput).symm
    · next hclosed =>
      refine completeClosing_eq (by rw [putLane_lane_self]; rfl) (by rw [putLane_lane_self]; rfl) (hu.trans ?_)
      rw [if_neg hclosed, putLane_lane_self, putLane_putLane, putLane_supervisor, if_neg hin]
      simp only [Lane.closedAt, and_true]
      rfl
  · rw [clearExpiry_outOfService ht hd hs hp]
    have hput : u = s.putLane i (s.lane i).toOff := by
      unfold State.cleared at hu
      rw [hu, if_pos hp, if_neg (fun h => nomatch h.2)]
      rfl
    rw [hput]

theorem Lane.coherent.passageTimer_state {l : Lane} (h : l.coherent) (ht : l.passageTimer ≠ none) : l.state = .opened := by
  obtain ⟨-, -, hpassage, -⟩ := h
  exact (hpassage.mp ht).1

theorem Lane.coherent.clearTimer_state {l : Lane} (h : l.coherent) (ht : l.clearTimer ≠ none) : l.state = .clearing := by
  obtain ⟨-, -, -, hclear, -⟩ := h
  exact (hclear.mp ht).1

/-- Settles O44: a coherent lane whose passage timer runs is OPEN with its hold, and one whose clear timer runs is CLEARING. -/
theorem passageAndClearTimersRunOut : Obligations.PassageAndClearTimersRunOut := by
  intro i s hc
  refine ⟨fun h => exec_passageTimerExpiry (passageExpiry_early h), fun d ht hd => ?_,
    fun h => exec_clearTimerExpiry (clearExpiry_early h), fun d ht hd => ?_⟩
  · have hs := hc.passageTimer_state (by simp [ht])
    obtain ⟨h, b, hh, hb⟩ := hc.held (.inr hs)
    refine ⟨h, b, hh, hb, fun hp => exec_passageTimerExpiry (passageExpiry_blocked ht hd hs hp), fun hp => ?_⟩
    have he := passageExpiry_clear ht hd hs hp hh hb
    unfold State.voided Lane.toClearing Lane.stopTimers at he
    rw [if_pos hp] at he
    exact exec_passageTimerExpiry he
  · have hs := hc.clearTimer_state (by simp [ht])
    have hhold : (s.lane i).hold = none := (hc.idle (by simp [hs])).1
    have hfault : (s.lane i).faultCause = none := hc.faultless (by simp [hs])
    refine ⟨s.cleared i, _, rfl, fun hp => ?_, fun hp hsense => ?_, fun hp hsense => ?_, fun hp => ?_⟩
    · simp only [State.cleared, hp, if_true, Lane.toOff, Lane.stopTimers]
      rw [hhold, hfault]
    · simp only [State.cleared, hp, hsense, if_true, reduceCtorEq, if_false, Lane.toClosing, Lane.stopTimers]
    · simp only [State.cleared, hp, hsense, Bool.false_eq_true, reduceCtorEq, if_false, Lane.toClosing, Lane.stopTimers,
        Lane.closedAt]
    · exact exec_clearTimerExpiry (clearExpiry_eq ht hd hs hp rfl)

end

end Sys2Proof.Machine
end

section
/-! SUPPORT. What a lane does with the class of a movement (R33, R34, R40, R57 to R62). -/

namespace Sys2Proof.Machine

open Sys2Proof

section
variable {s u : State} {i : LaneIx} {m : Movement} {entry : EntrySide}

/-! ### The cases of a movement -/

theorem takeMovement_absent (h : s.lanePresent i = false) : takeMovement i m entry s = s := by
  unfold takeMovement
  rw [h]
  rfl

/-- The hold that a movement of this class consumes at a lane (R33, R40). -/
def Lane.consumedBy (m : Movement) (l : Lane) : Option Hold := if m = .forward then l.consumable else none

/-- A movement of a present lane that neither consumes a hold nor settles a deferred expiry (R40). -/
theorem takeMovement_passage (hp : s.lanePresent i = true) (hc : (s.lane i).consumedBy m = none)
    (hd : (s.lane i).deferredHold = none) :
    takeMovement i m entry s = reportPassage i m (decide ((s.lane i).state = .egress))
      (State.posting (passageNotice s i m entry none).toList s) := by
  unfold Lane.consumedBy at hc
  unfold takeMovement
  dsimp only
  rw [if_pos hp, hc, postOpt_eq]
  dsimp only
  rw [posting_lane, hd]

/-- A movement that settles a deferred expiry as a void (R34, R59). -/
theorem takeMovement_deferred {h : Hold} (hp : s.lanePresent i = true) (hc : (s.lane i).consumedBy m = none)
    (hd : (s.lane i).deferredHold = some h) (hu : u = State.posting (passageNotice s i m entry none).toList s) :
    takeMovement i m entry s = reportTo i berthVoid (reportPassage i m (decide ((s.lane i).state = .egress))
      (dropHold i .timeout h (Lane.toClearing u.runTime) u)) := by
  subst hu
  unfold Lane.consumedBy at hc
  unfold takeMovement
  dsimp only
  rw [if_pos hp, hc, postOpt_eq]
  dsimp only
  rw [posting_lane, hd]

/-- A forward passage that consumes the hold of its lane (R33). -/
theorem takeMovement_consumed {h : Hold} (hp : s.lanePresent i = true) (hc : (s.lane i).consumedBy m = some h) :
    takeMovement i m entry s = consumeHold i h (State.posting (passageNotice s i m entry (some h)).toList s) := by
  unfold Lane.consumedBy at hc
  unfold takeMovement
  dsimp only
  rw [if_pos hp, hc, postOpt_eq]

/-! ### What is announced and reported (R59 to R62) -/

/-- The class of a passage that consumes nothing (R60). -/
theorem passageClass_unconsumed (s : State) (i : LaneIx) : passageClass s i false =
    if s.boardingTrip i = none then .stray else if (s.lane i).state = .egress then .egress else .unpaid := rfl

/-- The announcement of a passage that consumes a hold. -/
theorem passageNotice_consumed {b : BerthIx} (hb : (s.lane i).berth = some b) (hs : (s.lane i).state ≠ .egress) (h : Hold) :
    (passageNotice s i .forward entry (some h)).toList =
      [if s.boardingTrip i = none then .passage i (some b) .forward .stray none
        else .passage i (some b) .forward .paid (some h.card)] := by
  by_cases hn : s.boardingTrip i = none <;> simp [passageNotice, passageClass, hb, hs, hn]

theorem reportPassage_eq {o : Option BerthIx} (ho : (s.lane i).berth = o) (m : Movement) (eg : Bool) :
    reportPassage i m eg s = if m = .balk then s else o.elim s fun b => berthPassage m eg b s := by
  unfold reportPassage
  rw [reportTo_eq ho]

theorem reportPassage_lane (i j : LaneIx) (m : Movement) (eg : Bool) (s : State) : (reportPassage i m eg s).lane j = s.lane j :=
  lane_congr (reportPassage_lanes ..) j

/-! ### The lane's part under notices already posted -/

theorem voided_posting (ns : List Notice) (i : LaneIx) (h : Hold) (l : Lane) (s : State) :
    (State.posting ns s).voided i h l = State.posting ns (s.voided i h l) := by
  rw [posting_eq, posting_eq]
  rfl

/-- The lane's part of a void whose lane enters CLEARING, under the notice of its movement (R34, R59). -/
theorem dropHold_posting {ns : List Notice} {h : Hold} {l : Lane} (hs : (s.lane i).state = .opened)
    (hu : u = State.posting ns s) (hl : l = (s.lane i).toClearing s.runTime) :
    dropHold i .timeout h (Lane.toClearing u.runTime) u =
      State.posting (ns ++ [.holdVoid i h.card .timeout h.charge h.kind]) (s.voided i h l) := by
  subst hl hu
  rw [dropHold_toClearing (.inr (by rw [posting_lane]; exact hs)), posting_lane, posting_runTime, voided_posting, posting_append]

/-- A consumption's part of the lane and the list: no lamp rises (R33, R108). -/
theorem consumeHold_eq {ns : List Notice} {h : Hold} {b : BerthIx} {l : Lane}
    (hs : (s.lane i).state = .opening ∨ (s.lane i).state = .opened) (hb : (s.lane i).berth = some b)
    (hl : l = (s.lane i).toClearing s.runTime) :
    consumeHold i h (State.posting ns s) = berthConsumption b (State.posting ns
      { s with lanes := s.lanes.set i l, recent := s.ended h .passed }) := by
  subst hl
  have hstill : changeLane i (Lane.toClearing s.runTime) (State.posting ns s) =
      (State.posting ns s).putLane i ((s.lane i).toClearing s.runTime) := by
    have hfrom : (s.lane i).state ≠ .off ∧ (s.lane i).state ≠ .egress := by rcases hs with hs | hs <;> simp [hs]
    rw [changeLane_still (f := Lane.toClearing s.runTime) rfl (by rw [posting_lane]; exact hfrom) ⟨nofun, nofun⟩
      (fun h => by rcases h with h | h <;> cases h), posting_lane]
  unfold consumeHold
  rw [posting_runTime, hstill, reportTo_some (b := b) (by rw [lane_congr (endEntry_lanes ..), putLane_lane_self]; exact hb),
    endEntry_eq, posting_eq, posting_eq]
  rfl

/-- Settles O48: the cases of `takeMovement`, each with its announcement and its reports. -/
theorem movementsActByLaneState : Obligations.MovementsActByLaneState := by
  intro i m entry s cls notices hcls hnotices
  rw [← passageClass_unconsumed] at hcls
  obtain rfl : (passageNotice s i m entry none).toList = notices := by
    rw [hnotices, hcls]
    cases m <;> simp [passageNotice]
  have hpresent : i.val < s.supervisor.setup.lanesPresent → s.lanePresent i = true := fun h => by simpa [State.lanePresent] using h
  have hno : m ≠ .forward → (s.lane i).consumedBy m = none := fun hm => if_neg hm
  refine ⟨fun h => takeMovement_absent (by simpa [State.lanePresent] using h), fun hi => ⟨fun hm hexp => ?_,
    fun h b hh hb => ⟨(s.lane i).toClearing s.runTime, fun st => s.ended h st, ?_, fun _ => rfl, fun hm hs => ?_,
      fun hm hs hexp u hu => ?_⟩⟩⟩
  · have hc : (s.lane i).consumedBy m = none := by
      rcases hm with hm | hs
      · exact hno hm
      · simp only [List.mem_cons, List.not_mem_nil, or_false] at hs
        simp [Lane.consumedBy, Lane.consumable, hs]
    have hd : (s.lane i).deferredHold = none := by simp [Lane.deferredHold, hexp]
    rw [takeMovement_passage (hpresent hi) hc hd, reportPassage_eq (o := (s.lane i).berth) (by rw [posting_lane])]
    by_cases hbalk : m = .balk
    · subst hbalk
      rfl
    · rw [if_neg hbalk, if_neg hbalk]
  · rfl
  · subst hm
    simp only [List.mem_cons, List.not_mem_nil, or_false] at hs
    have hc : (s.lane i).consumedBy .forward = some h := by simp [Lane.consumedBy, Lane.consumable, hs, hh]
    rw [takeMovement_consumed (hpresent hi) hc,
      passageNotice_consumed hb (by rcases hs with hs | hs <;> simp [hs]) h, consumeHold_eq hs hb rfl]
  · have hd : (s.lane i).deferredHold = some h := by simp [Lane.deferredHold, hexp, hh]
    have hdrop := dropHold_posting (h := h) hs rfl rfl (ns := (passageNotice s i m entry none).toList)
    have hlane : (u.lane i).berth = some b := by
      rw [hu, posting_lane, lane_of_set (s := s) rfl]
      exact hb
    rw [takeMovement_deferred (hpresent hi) (hno hm) hd rfl, hdrop,
      reportTo_some (b := b) (by rw [reportPassage_lane, posting_lane, lane_of_set (s := s) rfl]; exact hb)]
    have hegress : decide ((s.lane i).state = .egress) = false := by simp [hs]
    rw [hegress]
    exact congrArg (berthVoid b) ((congrArg _ hu.symm).trans (reportPassage_eq hlane m false))

end

end Sys2Proof.Machine
end

section
/-! SUPPORT. A change of lanes and berths made in steps within one event raises each lamp once, as the change from end to end does
(R46; log 21). -/

namespace Sys2Proof.Machine

open Sys2Proof

@[simp] theorem rise_condition (now : Nat) (e : Bool) (l : Lamp) : (l.rise now e).condition = l.condition := by
  unfold Lamp.rise
  split
  · split <;> rfl
  · rfl
  · rfl

/-- The state with other lane and berth units, and no lamp changed. -/
def State.units (lanes : PerLane Lane) (berths : PerBerth Berth) (s : State) : State := { s with lanes := lanes, berths := berths }

section
variable {s u : State} {i j : LaneIx} {lanes lanes' : PerLane Lane} {berths berths' : PerBerth Berth}

/-- A lane's level condition reads of its lamp the selected condition alone. -/
theorem level_of_condition (hl : u.lanes = s.lanes) (hb : u.berths = s.berths) (hc : (u.lamp i).condition = (s.lamp i).condition) :
    u.level i = s.level i := by
  have htrip : u.boardingTrip i = s.boardingTrip i :=
    boardingTrip_of_berths (lane_congr hl i) fun b _ => berth_congr hb b
  unfold State.level
  rw [lane_congr hl i, hc, htrip]

/-- A lane that does not leave EGRESS rises when its condition becomes true, and then alone. -/
theorem levelRises_eq (h : (s.lane i).state = .egress → (u.lane i).state = .egress) :
    levelRises s u i = (u.level i && !s.level i) := by
  unfold levelRises
  by_cases he : (s.lane i).state = .egress
  · simp [he, h he]
  · simp [he]

theorem rescanLamps_condition (s u : State) (i : LaneIx) : ((rescanLamps s u).lamp i).condition = (u.lamp i).condition := by
  rw [rescanLamps_lamp]
  split
  · rw [rise_condition]
  · rfl

theorem raiseEvent_condition (c : LampCondition) (i j : LaneIx) (s : State) :
    ((raiseEvent c i s).lamp j).condition = (s.lamp j).condition := by
  unfold raiseEvent
  split
  · rw [State.lamp, PerLane.get_set]
    split
    · next h => rw [h, rise_condition]
    · rfl
  · rfl

theorem raiseEvent_lamp_other (c : LampCondition) (h : j ≠ i) (s : State) : (raiseEvent c i s).lamp j = s.lamp j := by
  unfold raiseEvent
  split
  · exact PerLane.get_set_other _ _ _ _ h
  · rfl

/-- Two states that differ in their lamps alone, and there nowhere, are one. -/
theorem state_ext_lamps {L : PerLane Lamp} (hu : u = { s with lamps := L }) (h : ∀ j, u.lamp j = s.lamp j) : u = s := by
  subst hu
  have hL : L = s.lamps := PerLane.ext_get h
  subst hL
  rfl

/-- Two changes one after another, where a condition that the first makes true the second leaves true, raise the lamps of the change from
end to end. -/
theorem rescanLamps_steps
    (hup : ∀ j, s.level j = true → (s.units lanes berths).level j = true)
    (hkeep : ∀ j, (s.units lanes berths).level j = true → s.level j = true ∨ (s.units lanes' berths').level j = true)
    (hin : ∀ j, (s.lane j).state = .egress → (lanes.get j).state = .egress)
    (hstay : ∀ j, (lanes.get j).state = .egress → (lanes'.get j).state = .egress) :
    rescanLamps (rescanLamps s (s.units lanes berths)) ((rescanLamps s (s.units lanes berths)).units lanes' berths') =
      rescanLamps s (s.units lanes' berths') := by
  have hmid : ∀ j, (rescanLamps s (s.units lanes berths)).level j = (s.units lanes berths).level j := fun j =>
    level_of_condition (by rfl) (by rfl) (rescanLamps_condition ..)
  have hend : ∀ j, ((rescanLamps s (s.units lanes berths)).units lanes' berths').level j = (s.units lanes' berths').level j :=
    fun j => level_of_condition (by rfl) (by rfl) (rescanLamps_condition ..)
  have hfirst : ∀ j, levelRises s (s.units lanes berths) j = ((s.units lanes berths).level j && !s.level j) := fun j =>
    levelRises_eq (hin j)
  have hwhole : ∀ j, levelRises s (s.units lanes' berths') j = ((s.units lanes' berths').level j && !s.level j) := fun j =>
    levelRises_eq fun he => hstay j (hin j he)
  have hsecond : ∀ j, levelRises (rescanLamps s (s.units lanes berths))
      ((rescanLamps s (s.units lanes berths)).units lanes' berths') j =
      ((s.units lanes' berths').level j && !(s.units lanes berths).level j) := fun j => by
    rw [levelRises_eq (s := rescanLamps s (s.units lanes berths))
      (u := (rescanLamps s (s.units lanes berths)).units lanes' berths') (hstay j), hmid, hend]
  refine state_ext_lamps (L := (rescanLamps (rescanLamps s (s.units lanes berths))
    ((rescanLamps s (s.units lanes berths)).units lanes' berths')).lamps) rfl fun j => ?_
  have hlamp : ((rescanLamps s (s.units lanes berths)).units lanes' berths').lamp j =
      if levelRises s (s.units lanes berths) j then (s.lamp j).rise s.runTime false else s.lamp j := rescanLamps_lamp ..
  rw [rescanLamps_lamp, rescanLamps_lamp, hlamp, hfirst, hsecond, hwhole]
  cases ha : s.level j with
  | true => simp only [hup j ha, Bool.not_true, Bool.and_false, Bool.false_eq_true, if_false]; rfl
  | false =>
    cases hv : (s.units lanes berths).level j with
    | true =>
      have hw : (s.units lanes' berths').level j = true := (hkeep j hv).resolve_left (by simp [ha])
      simp only [hw, Bool.not_true, Bool.not_false, Bool.and_true, Bool.and_false, Bool.false_eq_true, if_false, if_true]
      rfl
    | false => simp only [Bool.not_false, Bool.and_true, Bool.false_eq_true, if_false]; rfl

/-- An event condition is never a level condition that is true. -/
theorem level_of_isEvent (h : (s.lamp i).condition.isEvent = true) : s.level i = false := by
  unfold State.level
  dsimp only
  split
  · rfl
  · cases hc : (s.lamp i).condition <;> simp [hc, LampCondition.isEvent] at h ⊢

/-- An event condition is no level condition, so that its rise and the rises of a change go in either order. -/
theorem rescanLamps_raiseEvent {c : LampCondition} (hc : c.isEvent = true)
    (hoff : (lanes.get i).state = .off ↔ (s.lane i).state = .off) :
    rescanLamps (raiseEvent c i s) ((raiseEvent c i s).units lanes berths) =
      raiseEvent c i (rescanLamps s (s.units lanes berths)) := by
  have hrises : ∀ j, levelRises (raiseEvent c i s) ((raiseEvent c i s).units lanes berths) j =
      levelRises s (s.units lanes berths) j := fun j => by
    have hbefore : (raiseEvent c i s).level j = s.level j :=
      level_of_condition (raiseEvent_lanes ..) (raiseEvent_berths ..) (raiseEvent_condition ..)
    have hafter : ((raiseEvent c i s).units lanes berths).level j = (s.units lanes berths).level j :=
      level_of_condition rfl rfl (raiseEvent_condition ..)
    unfold levelRises
    rw [hbefore, hafter, lane_congr (raiseEvent_lanes ..)]
    rfl
  by_cases h : (s.lane i).state ≠ .off ∧ (s.lamp i).condition = c
  · have hraise : raiseEvent c i s = { s with lamps := s.lamps.set i ((s.lamp i).rise s.runTime true) } := if_pos h
    have hquiet : levelRises s (s.units lanes berths) i = false := by
      have hlevel : (s.units lanes berths).level i = false := level_of_isEvent (h.2 ▸ hc)
      simp [levelRises, hlevel]
    have hlamp : (rescanLamps s (s.units lanes berths)).lamp i = s.lamp i := by
      rw [rescanLamps_lamp, hquiet]
      rfl
    have hraised : raiseEvent c i (rescanLamps s (s.units lanes berths)) =
        { rescanLamps s (s.units lanes berths) with
          lamps := (rescanLamps s (s.units lanes berths)).lamps.set i ((s.lamp i).rise s.runTime true) } := by
      unfold raiseEvent
      rw [hlamp, if_pos ⟨fun he => h.1 (hoff.mp he), h.2⟩]
      rfl
    refine state_ext_lamps (L := (rescanLamps (raiseEvent c i s) ((raiseEvent c i s).units lanes berths)).lamps)
      (by rw [hraised, hraise]; rfl) fun j => ?_
    rw [rescanLamps_lamp, hrises]
    by_cases hj : j = i
    · subst hj
      rw [hquiet, hraised, hraise]
      exact (PerLane.get_set_self ..).trans (PerLane.get_set_self ..).symm
    · rw [raiseEvent_lamp_other c hj, rescanLamps_lamp]
      have hsame : ((raiseEvent c i s).units lanes berths).lamp j = s.lamp j := raiseEvent_lamp_other c hj s
      rw [hsame]
      exact if_congr Iff.rfl (by rw [State.units, raiseEvent_runTime]; rfl) rfl
  · have hraise : raiseEvent c i s = s := if_neg h
    have hno : ¬(((rescanLamps s (s.units lanes berths)).lane i).state ≠ .off ∧
        ((rescanLamps s (s.units lanes berths)).lamp i).condition = c) := by
      rw [rescanLamps_condition]
      exact fun hn => h ⟨fun he => hn.1 (hoff.mpr he), hn.2⟩
    rw [hraise]
    exact (if_neg hno).symm

end

end Sys2Proof.Machine
end

section
/-! SUPPORT. A grant as one change of its lane and berth (R10, R30, R31, R99 to R101). -/

namespace Sys2Proof.Machine

open Sys2Proof

section
variable {s u : State} {i : LaneIx} {b : BerthIx} {l l' : Lane}

/-! ### The lane takes the hold (R30, R31) -/

/-- The lane with its hold: OPENING with the barrier timer, or OPEN at once with the sense open. -/
def Lane.admitted (now : Nat) (h : Hold) (l : Lane) : Lane :=
  { l with
    state := if l.sense then .opened else .opening
    hold := some h
    expiryPending := false
    barrierTimer := if l.sense then none else some (now + l.barrierTimeout)
    passageTimer := if l.sense then some (now + l.passageTimeout) else none }

theorem putLane_eq_units (hl : u.lanes = s.lanes.set i l) (hb : u.berths = s.berths) (m : Lane) :
    u.putLane i m = u.units (s.lanes.set i m) s.berths := by
  rw [State.putLane, State.units, hl, PerLane.set_set, ← hb]

theorem putBerth_eq_units (hl : u.lanes = s.lanes.set i l) (hb : u.berths = s.berths) (x : Berth) :
    u.putBerth b x = u.units (s.lanes.set i l) (s.berths.set b x) := by
  rw [State.putBerth, State.units, ← hl, hb]

/-- What the conditions of a CLOSED lane and of the others make of its opening: none becomes false, and LANE_OPEN alone becomes true. -/
theorem level_opening (hs : (s.lane i).state = .closed) (hl : l.state = .opening ∨ l.state = .opened)
    (hb : l.berth = (s.lane i).berth) (j : LaneIx) :
    (s.level j = true → (s.putLane i l).level j = true) ∧
      ((s.putLane i l).level j = true → s.level j = true ∨ (j = i ∧ (s.lamp i).condition = .laneOpen)) := by
  by_cases hj : j = i
  · subst hj
    have htrip : (s.putLane j l).boardingTrip j = s.boardingTrip j := by
      unfold State.boardingTrip
      rw [putLane_lane_self, hb]
      rfl
    have hoff : l.state ≠ .off ∧ l.state ≠ .fault ∧ l.state ≠ .egress := by rcases hl with hl | hl <;> simp [hl]
    unfold State.level
    rw [htrip, putLane_lamp, putLane_lane_self]
    dsimp only
    rw [if_neg hoff.1, hs]
    cases (s.lamp j).condition <;> simp [hoff]
  · have hlane := putLane_lane_other hj l s
    have htrip := boardingTrip_of_berths (before := s) (after := s.putLane i l) hlane fun _ _ => rfl
    have hsame : (s.putLane i l).level j = s.level j := by
      unfold State.level
      rw [htrip, putLane_lamp, hlane]
    rw [hsame]
    exact ⟨id, .inl⟩

theorem level_laneOpen (hl : (u.lane i).state = .opening ∨ (u.lane i).state = .opened)
    (hc : (u.lamp i).condition = .laneOpen) : u.level i = true := by
  unfold State.level
  rcases hl with hl | hl <;> simp [hl, hc]

/-- After the opening of a CLOSED lane, a further change of berths and of the lane that keeps it OPENING or OPEN raises the lamps of the
whole change. -/
theorem rescanLamps_opening (hs : (s.lane i).state = .closed) (hl : l.state = .opening ∨ l.state = .opened)
    (hb : l.berth = (s.lane i).berth) (hl' : l'.state = .opening ∨ l'.state = .opened) (berths : PerBerth Berth) :
    rescanLamps (rescanLamps s (s.putLane i l)) ((rescanLamps s (s.putLane i l)).units (s.lanes.set i l') berths) =
      rescanLamps s (s.units (s.lanes.set i l') berths) := by
  have hlevel := level_opening hs hl hb
  refine rescanLamps_steps (lanes := s.lanes.set i l) (berths := s.berths) (fun j => (hlevel j).1) (fun j hj => ?_)
    (fun j he => ?_) fun j he => ?_
  · refine ((hlevel j).2 hj).imp_right fun ⟨hji, hc⟩ => ?_
    subst hji
    exact level_laneOpen (u := s.units (s.lanes.set j l') berths)
      (by rw [lane_of_set (s := s) (u := s.units (s.lanes.set j l') berths) rfl]; exact hl') hc
  · have hj : j ≠ i := fun h => by rw [h, hs] at he; cases he
    rw [PerLane.get_set_other _ _ _ _ hj]
    exact he
  · by_cases hj : j = i
    · rw [hj, PerLane.get_set_self] at he
      rcases hl with hl | hl <;> rw [hl] at he <;> cases he
    · rw [PerLane.get_set_other _ _ _ _ hj] at he ⊢
      exact he

/-- The lane as it receives the hold, before the sense is looked at. -/
def Lane.opensWith (now : Nat) (h : Hold) (l : Lane) : Lane := { l.toOpening now with hold := some h }

theorem takeHold_def (hu : u = raiseEvent .admission i (rescanLamps s (s.putLane i l)))
    {h : Hold} (hl : l = (s.lane i).opensWith s.runTime h) :
    takeHold i h s = if (u.lane i).sense then changeLane i (Lane.toOpen u.runTime) u else u := by
  subst hu hl
  rfl

/-- The lane takes the hold: its lamps' rises, and the ADMIT event. -/
theorem takeHold_eq (hs : (s.lane i).state = .closed) (h : Hold) :
    takeHold i h s = raiseEvent .admission i (rescanLamps s (s.putLane i ((s.lane i).admitted s.runTime h))) := by
  have hlanes : (raiseEvent .admission i (rescanLamps s (s.putLane i ((s.lane i).opensWith s.runTime h)))).lanes =
      s.lanes.set i ((s.lane i).opensWith s.runTime h) := (raiseEvent_lanes ..).trans rfl
  have hsense : ((s.lane i).opensWith s.runTime h).sense = (s.lane i).sense := rfl
  rw [takeHold_def rfl rfl, lane_of_set hlanes, hsense]
  cases hopen : (s.lane i).sense with
  | false =>
    have hlane : (s.lane i).opensWith s.runTime h = (s.lane i).admitted s.runTime h := by
      simp [Lane.admitted, Lane.opensWith, Lane.toOpening, hopen]
    rw [hlane]
    rfl
  | true =>
    have hlane : ((s.lane i).opensWith s.runTime h).toOpen s.runTime = (s.lane i).admitted s.runTime h := by
      simp [Lane.admitted, Lane.opensWith, Lane.toOpening, Lane.toOpen, hopen]
    have hoff : ((s.lanes.set i ((s.lane i).admitted s.runTime h)).get i).state = .off ↔
        ((rescanLamps s (s.putLane i ((s.lane i).opensWith s.runTime h))).lane i).state = .off := by
      rw [PerLane.get_set_self, rescanLamps_lane, putLane_lane_self]
      simp [Lane.admitted, Lane.opensWith, Lane.toOpening, hopen]
    have hopened : ((s.lane i).admitted s.runTime h).state = .opened := by simp [Lane.admitted, hopen]
    rw [if_pos rfl, changeLane_rescan, lane_of_set hlanes, raiseEvent_runTime, rescanLamps_runTime, putLane_runTime, hlane,
      putLane_eq_units hlanes ((raiseEvent_berths ..).trans rfl), rescanLamps_raiseEvent rfl hoff,
      rescanLamps_opening (l := (s.lane i).opensWith s.runTime h) hs (.inl rfl) rfl (.inr hopened)]
    rfl

/-! ### The grant (R10, R83, R99, R101) -/

theorem admitted_open (now : Nat) (h : Hold) (l : Lane) :
    (l.admitted now h).state = .opening ∨ (l.admitted now h).state = .opened := by
  unfold Lane.admitted
  dsimp only
  split
  · exact .inr rfl
  · exact .inl rfl

theorem posting_recent (ns : List Notice) (s : State) : (State.posting ns s).recent = s.recent := by rw [posting_eq]

theorem raiseEvent_recent_set (c : LampCondition) (i : LaneIx) (s : State) (es : List Entry) :
    ({ raiseEvent c i s with recent := es } : State) = raiseEvent c i { s with recent := es } := by
  unfold raiseEvent
  split
  · next h => exact (if_pos h).symm
  · next h => exact (if_neg h).symm

/-- The Recent Admission List is no part of what a lamp or a notice reads. -/
theorem record_posting (ns : List Notice) (c : LampCondition) (i : LaneIx) (s v : State) (es : List Entry) :
    ({ State.posting ns (raiseEvent c i (rescanLamps s v)) with recent := es } : State) =
      State.posting ns (raiseEvent c i (rescanLamps s { v with recent := es })) := by
  have hraise : raiseEvent c i (rescanLamps s { v with recent := es }) = { raiseEvent c i (rescanLamps s v) with recent := es } :=
    (raiseEvent_recent_set c i (rescanLamps s v) es).symm
  rw [hraise, posting_eq, posting_eq]

/-- The whole of a grant at a CLOSED lane: its lamps' rises and the ADMIT event, FILL at a change of level, and the exhaustion notice. -/
theorem applyGrant_eq {t t' : Trip} {card charge ref : Nat} {kind : AdmissionKind} {exhausted : Option Notice}
    (hs : (s.lane i).state = .closed) (ht : s.berth b = some t) (ht' : t' = t.takeHold kind charge s.activeGeneration) :
    applyGrant i b ref card kind charge exhausted s =
      State.posting (fillNotices b s.supervisor.setup.defaultMargin t' ++ exhausted.toList)
        (raiseEvent .admission i (rescanLamps s
          { s with
            lanes := s.lanes.set i ((s.lane i).admitted s.runTime ⟨card, ref, charge, kind⟩)
            berths := s.berths.set b (some (t'.refill s.supervisor.setup.defaultMargin))
            recent := recordAdmission ⟨card, ref, b, i, .held, charge, kind, s.runTime, s.runTime⟩ s.recent })) := by
  subst ht'
  have hlanes : (takeHold i ⟨card, ref, charge, kind⟩ s).lanes =
      s.lanes.set i ((s.lane i).admitted s.runTime ⟨card, ref, charge, kind⟩) := by
    rw [takeHold_eq hs, raiseEvent_lanes]
    rfl
  have hoff : ((s.lanes.set i ((s.lane i).admitted s.runTime ⟨card, ref, charge, kind⟩)).get i).state = .off ↔
      ((rescanLamps s (s.putLane i ((s.lane i).admitted s.runTime ⟨card, ref, charge, kind⟩))).lane i).state = .off := by
    rw [PerLane.get_set_self, rescanLamps_lane, putLane_lane_self]
  unfold applyGrant
  dsimp only
  rw [recomputeFill_changeTrip (t := t) ((berth_congr (takeHold_berths ..) b).trans ht) rfl,
    putBerth_eq_units hlanes (takeHold_berths ..), takeHold_supervisor, takeHold_eq hs, rescanLamps_raiseEvent rfl hoff,
    rescanLamps_opening hs (admitted_open ..) rfl (admitted_open ..), postOpt_eq, posting_append]
  refine congrArg (State.posting exhausted.toList) ((record_posting ..).trans ?_)
  simp only [posting_runTime, posting_recent, raiseEvent_runTime, raiseEvent_recent]
  rfl

end

end Sys2Proof.Machine
end

section
/-! SUPPORT. The presentation that passes the checks, and the decision that it is given (R88 to R98, R102). -/

namespace Sys2Proof.Machine

open Sys2Proof

section
variable {s : State} {i : LaneIx} {b : BerthIx} {t : Trip} {c : Credential}

/-! ### The checks that an admission passes (R88 to R96) -/

/-- The checks on the lane and its berth (R89 to R91). -/
theorem judge_passes (hv : s.supervisor.state = .inService) (hi : i.val < s.supervisor.setup.lanesPresent)
    (hb : (s.lane i).berth = some b) (hbp : b.val < s.supervisor.setup.berthsPresent) (hs : (s.lane i).state = .closed)
    (ht : s.berth b = some t) (hp : t.phase = .opened) : judge s i.val c = judgeCard s i b t c := by
  have hpresent : s.berthPresent b = true := by simpa [State.berthPresent] using hbp
  simp [judge, hv, lane?_present hi, hb, hpresent, hs, LaneState.refusal, ht, hp]

/-- The checks on the card and its history (R92 to R94). -/
theorem judgeCard_passes (hm : malformed c = false) (hc : c.cardState = 0) (hd : c.card ∉ s.deny)
    (hheld : ∀ e ∈ s.recent, e.card = c.card → e.state ≠ .held)
    (hpassed : ∀ e ∈ s.recent, e.card = c.card → e.tripRef = t.context.tripRef → e.state ≠ .passed) :
    judgeCard s i b t c = judgePlace s i b t c := by
  have hdenied : s.denied c.card = false := by simpa [State.denied] using hd
  have hno : heldEntry c.card s.recent = none := List.find?_eq_none.mpr fun e he => by simpa using hheld e he
  have hnone : entryIn c.card t.context.tripRef .passed s.recent = none :=
    List.find?_eq_none.mpr fun e he => by simpa [Entry.isFor] using hpassed e he
  simp [judgeCard, hm, hc, hdenied, hno, hnone]

/-- The VOID entry that opens the courtesy path (R95). -/
theorem courtesyEntry_eq (s : State) (card ref : Nat) :
    courtesyEntry s card ref =
      (s.recent.find? fun e => decide (e.card = card ∧ e.tripRef = ref ∧ e.state = .void)).filter fun e =>
        decide (s.supervisor.setup.courtesyWindow ≠ 0 ∧ s.runTime - e.changedAt ≤ 1000 * s.supervisor.setup.courtesyWindow) := by
  have hfind : entryIn card ref .void s.recent =
      s.recent.find? fun e => decide (e.card = card ∧ e.tripRef = ref ∧ e.state = .void) := by
    refine congrArg (s.recent.find? ·) (funext fun e => ?_)
    simp only [Entry.isFor, Bool.decide_and, Bool.and_assoc]
  unfold courtesyEntry
  rw [hfind]
  cases s.recent.find? fun e => decide (e.card = card ∧ e.tripRef = ref ∧ e.state = .void) with
  | none => rfl
  | some e => simp [Option.filter]

theorem courtesyEntry_void {e : Entry} {card ref : Nat} (h : courtesyEntry s card ref = some e) : e.state = .void := by
  rw [courtesyEntry_eq, Option.filter_eq_some_iff] at h
  have hfound := List.find?_some h.1
  simp only [decide_eq_true_eq] at hfound
  exact hfound.2.2

theorem admits_of_room (h : t.fill = .room ∨ t.fill = .near) : t.fill.admits = true := by
  rcases h with h | h <;> rw [h] <;> rfl

/-! ### What a grant leaves (R10, R101, R102) -/

/-- The trip after a grant: its counts, its fill level and flags, and its generations (R8, R9, R10). -/
theorem takeHold_refill (kind : AdmissionKind) (charge generation m : Nat) (t : Trip) {level : FillLevel}
    (hl : level = fillLevel t.context.capacity t.counts.onboard (t.counts.holds + 1) (t.context.margin.getD m)) :
    (t.takeHold kind charge generation).refill m = { t with
      counts := { t.counts with
        holds := t.counts.holds + 1
        revenue := min 4294967295 (t.counts.revenue + charge)
        paidPurse := if kind = .purse then min 65535 (t.counts.paidPurse + 1) else t.counts.paidPurse
        paidCarnet := if kind = .carnet then min 65535 (t.counts.paidCarnet + 1) else t.counts.paidCarnet
        paidAllowance := if kind = .allowance then min 65535 (t.counts.paidAllowance + 1) else t.counts.paidAllowance
        paidPass := if kind = .pass then min 65535 (t.counts.paidPass + 1) else t.counts.paidPass
        courtesy := if kind = .courtesy then min 65535 (t.counts.courtesy + 1) else t.counts.courtesy }
      fill := level
      flags := if level = t.fill then t.flags else { t.flags with
        near := t.flags.near || decide (level = .near)
        full := t.flags.full || decide (level = .full)
        overfull := t.flags.overfull || decide (level = .overfull) }
      lastGeneration := generation
      firstGeneration := if t.firstGeneration = 0 then generation else t.firstGeneration } := by
  subst hl
  rw [refill_eq]
  cases kind <;> rfl

/-- The FILL notice of a grant, at a change of level (R9). -/
theorem takeHold_fillNotices (b : BerthIx) (kind : AdmissionKind) (charge generation m : Nat) (t : Trip) {level : FillLevel}
    (hl : level = fillLevel t.context.capacity t.counts.onboard (t.counts.holds + 1) (t.context.margin.getD m)) :
    fillNotices b m (t.takeHold kind charge generation) =
      if level = t.fill then [] else [.fill b level t.counts.onboard (t.counts.holds + 1) t.context.capacity] := by
  subst hl
  cases kind <;> rfl

theorem isFor_eq (card ref : Nat) : Entry.isFor card ref = fun e => decide (e.card = card ∧ e.tripRef = ref) :=
  funext fun e => by rw [Entry.isFor, Bool.decide_and]

/-- An admission is recorded at the newest position (R101, R106, R107). -/
theorem recordAdmission_eq (e : Entry) (es : List Entry) :
    recordAdmission e es =
      if es.any (fun x => decide (x.card = e.card ∧ x.tripRef = e.tripRef)) then
        es.filter (fun x => !decide (x.card = e.card ∧ x.tripRef = e.tripRef)) ++ [e]
      else if es.length < 256 then es ++ [e]
      else es.eraseP (fun x => decide (x.state ≠ .held)) ++ [e] := by
  unfold recordAdmission
  rw [isFor_eq]
  rfl

/-- The decision of a grant, read from the state after it (R102). -/
theorem decisionOf_grant {card charge : Nat} {kind : AdmissionKind} {exhausted : Option Notice}
    (hi : i.val < s.supervisor.setup.lanesPresent) (hs : (s.lane i).state = .closed) (hb : (s.lane i).berth = some b)
    (ht : s.berth b = some t) (hp : t.phase = .opened) (o : DecisionOutcome) (detail : Option EntryDetail) (w : WriteBack) :
    decisionOf i.val o detail w (applyGrant i b t.context.tripRef card kind charge exhausted s) =
      { lane := i.val, outcome := o, berth := some b
        fill := some ⟨fillLevel t.context.capacity t.counts.onboard (t.counts.holds + 1)
            (t.context.margin.getD s.supervisor.setup.defaultMargin),
          (t.context.capacity : Int) - t.counts.onboard - (t.counts.holds + 1 : Nat)⟩
        degraded := decide (s.clock.state = .degraded)
        generation := s.activeGeneration
        detail := detail, writeBack := w } := by
  have hlane? : (applyGrant i b t.context.tripRef card kind charge exhausted s).lane? i.val = some i :=
    lane?_present (by rw [applyGrant_supervisor]; exact hi)
  have hgrant := applyGrant_eq (b := b) (card := card) (charge := charge) (ref := t.context.tripRef) (kind := kind)
    (exhausted := exhausted) hs ht rfl
  have hlane : ((applyGrant i b t.context.tripRef card kind charge exhausted s).lane i).berth = some b := by
    rw [hgrant, posting_lane, lane_of_set (s := s) ((raiseEvent_lanes ..).trans rfl)]
    exact hb
  have hberth : (applyGrant i b t.context.tripRef card kind charge exhausted s).berth b =
      some ((t.takeHold kind charge s.activeGeneration).refill s.supervisor.setup.defaultMargin) := by
    rw [hgrant, posting_berth, State.berth, raiseEvent_berths]
    exact PerBerth.get_set_self ..
  have htrip : (applyGrant i b t.context.tripRef card kind charge exhausted s).boardingTrip i =
      some ((t.takeHold kind charge s.activeGeneration).refill s.supervisor.setup.defaultMargin) :=
    (boardingTrip_eq_some ..).mpr ⟨b, hlane, hberth, by simp [Trip.takeHold, hp]⟩
  unfold decisionOf State.fillReport State.activeGeneration
  rw [hlane?, applyGrant_clock, applyGrant_tariff]
  simp only [Option.bind_some, hlane, htrip, Option.map_some, takeHold_refill _ _ _ _ t rfl]
  rfl

/-- The exhaustion notice, when the scheme of the product asks for it (R83). -/
theorem exhaustedNotice_toList (x : FareInputs) (card : Nat) (p : Product) (pay : Payment) :
    (exhaustedNotice x card p pay).toList =
      if pay.exhausted = true ∧ ((x.tariff.schemesLow ++ x.tariff.schemesHigh)[p.scheme]?.elim false fun e => e.notify) = true then
        [.productExhausted card p.slot pay.kind] else [] := by
  have hscheme : (schemeOf x.tariff p.scheme).notify =
      (x.tariff.schemesLow ++ x.tariff.schemesHigh)[p.scheme]?.elim false fun e => e.notify := by
    unfold schemeOf
    rw [List.getD_eq_getElem?_getD]
    cases (x.tariff.schemesLow ++ x.tariff.schemesHigh)[p.scheme]? <;> rfl
  unfold exhaustedNotice
  simp only [hscheme, Bool.and_eq_true]
  split <;> rfl

/-- The transfer count that a boarding writes: a transfer follows a last boarding (R84, R118). -/
theorem transferCount_written {x : FareInputs} {g : Pricing} (hg : g = price x c) :
    (if g.transfer then c.lastBoarding.elim 0 LastBoarding.transferCount + 1 else 0) =
      if g.transfer then c.lastBoarding.elim 0 (fun l => l.transferCount + 1) else 0 := by
  have htransfer : g.transfer = isTransfer x c.lastBoarding := by rw [hg]; rfl
  rw [htransfer]
  cases c.lastBoarding <;> rfl

theorem exec_present {tag : Byte} {n : Nat} {s u : State} {p : Reply} (hs : s.slotFree)
    (hn : c.productCount = c.products.length) (ho : ownPresent n c (countTaken s) = (u, p)) :
    exec (.present tag n c) s = .next (State.answering 0x30 tag p u) :=
  exec_of_owner (q := .present n c) hs rfl (by simp [lengthFault, hn]) ho

/-- Settles O50: the presentation passes the checks to its place (`judge_passes`, `judgeCard_passes`), and the grant is one change of its
lane, berth and list (`applyGrant_eq`). -/
theorem presentGrantsTheAdmission : Obligations.PresentGrantsTheAdmission := by
  intro tag i b t c s void grant decision hslot hcount hv hi hb hbp hs ht hp hm hcs hd hheld hpassed hfill hvoid hgrant hdecision
  have hjudge : judge (countTaken s) i.val c = judgePlace (countTaken s) i b t c :=
    (judge_passes (s := countTaken s) hv hi hb hbp hs ht hp).trans
      (judgeCard_passes (s := countTaken s) hm hcs hd hheld hpassed)
  have hcourtesy : courtesyEntry (countTaken s) c.card t.context.tripRef = void :=
    (courtesyEntry_eq (countTaken s) ..).trans hvoid.symm
  have hgranted : ∀ kind charge exhausted, grant kind charge exhausted.toList
      (applyGrant i b t.context.tripRef c.card kind charge exhausted (countTaken s)) := by
    intro kind charge exhausted
    refine (hgrant ..).mpr ⟨_, _, rfl, rfl, ?_⟩
    rw [applyGrant_eq (s := countTaken s) hs ht rfl, takeHold_fillNotices _ _ _ _ _ _ rfl, takeHold_refill _ _ _ _ _ rfl,
      recordAdmission_eq, rescanLamps_countTaken]
    rfl
  have hdecided : ∀ kind charge exhausted o detail w, decisionOf i.val o detail w
      (applyGrant i b t.context.tripRef c.card kind charge exhausted (countTaken s)) = decision o detail w := by
    intro kind charge exhausted o detail w
    rw [hdecision]
    exact decisionOf_grant (s := countTaken s) hi hs hb ht hp o detail w
  refine ⟨fun e he => ⟨_, hgranted .courtesy 0 none, exec_present hslot hcount ?_⟩,
    fun set now x g p pay hn hset hnow hx hg hw => ?_⟩
  · have hplace : judgePlace (countTaken s) i b t c = .courtesy i b t (detailOf (countTaken s) e) := by
      unfold judgePlace
      rw [hcourtesy, he]
      exact if_pos (admits_of_room hfill)
    unfold ownPresent
    rw [hjudge, hplace]
    dsimp only
    rw [hdecided, detailOf, courtesyEntry_void (hcourtesy.trans he)]
    rfl
  · have hfare : judgeFare (countTaken s) i b t c = .pays i b t x g p pay := by
      have hx' : fareInputs (countTaken s) t set now = x := hx.symm
      unfold judgeFare
      rw [countTaken_tariff, countTaken_clock, hset, hnow]
      dsimp only
      rw [hx', ← hg, hw]
    have hplace : judgePlace (countTaken s) i b t c = .pays i b t x g p pay := by
      unfold judgePlace
      rw [hcourtesy, hn]
      exact (if_pos (admits_of_room hfill)).trans hfare
    have hexhausted := exhaustedNotice_toList x c.card p pay
    have htariff : x.tariff = set := by rw [hx]; rfl
    rw [htariff] at hexhausted
    refine ⟨_, hexhausted ▸ hgranted pay.kind pay.charge (exhaustedNotice x c.card p pay), exec_present hslot hcount ?_⟩
    unfold ownPresent
    rw [hjudge, hplace]
    dsimp only
    rw [hdecided, boardingWritten, transferCount_written hg, hx]
    rfl

end

end Sys2Proof.Machine
end

section
/-! SUPPORT. The beam filters, and what is accepted at one run time (R49, R50, R53). -/

namespace Sys2Proof.Machine

open Sys2Proof

/-! ### The waiting raw change -/

/-- Every command but a power-on reset takes place at the present run time when it waits in the queue (log 2). -/
def keepsRunTime : Instr → Bool
  | .powerOnReset _ => false
  | _ => true

/-- The levels of a raw change of lane `i` that differ from the present ones (R49). -/
def newRaw (i : LaneIx) (rawA rawB : Bool) : Instr → Option (Bool × Bool)
  | .beamRawChange j a b => if j = i ∧ (a ≠ rawA ∨ b ≠ rawB) then some (a, b) else none
  | _ => none

/-- The waiting raw change is the first one with new levels before any power-on reset. -/
theorem waitingRaw_eq (i : LaneIx) (rawA rawB : Bool) (q : List Instr) :
    waitingRaw i rawA rawB q = (q.takeWhile keepsRunTime).findSome? (newRaw i rawA rawB) := by
  induction q with
  | nil => rfl
  | cons c rest ih =>
    cases c with
    | powerOnReset p => rfl
    | beamRawChange j a b =>
      have hnew : (j = i ∧ ¬(a = rawA ∧ b = rawB)) ↔ (j = i ∧ (a ≠ rawA ∨ b ≠ rawB)) := by rw [not_and_or]
      rw [List.takeWhile_cons_of_pos rfl, List.findSome?_cons, waitingRaw, ih]
      by_cases h : j = i ∧ (a ≠ rawA ∨ b ≠ rawB)
      · simp only [newRaw, if_pos h, if_pos (hnew.mpr h)]
      · simp only [newRaw, if_neg h, if_neg (mt hnew.mp h)]
    | _ => exact ih

section
variable {s : State} {i : LaneIx} {l : Lane} {A B b : Beam} {now code : Nat} {r : Bool}

/-! ### One filter (R49) -/

/-- A filter with a filter time only measures: the accepted level stays. -/
theorem rawChange_accepted (hc : code ≠ 0) : (b.rawChange code now r).accepted = b.accepted := by
  unfold Beam.rawChange
  rw [if_neg hc]
  split
  · rfl
  · split <;> rfl

theorem rawChange_same : b.rawChange code now b.raw = b := if_pos rfl

@[simp] theorem accept_raw : (b.accept now).raw = b.raw := by
  unfold Beam.accept
  split
  · rfl
  · split <;> rfl

theorem due_iff : b.due now = true ↔ ∃ m, b.measure = some m ∧ m.start + m.length ≤ now := by
  unfold Beam.due
  cases b.measure <;> simp

/-! ### Both beams of a lane (R53) -/

/-- The lane with these beams. -/
def Lane.withBeams (beams : Beam × Beam) (l : Lane) : Lane := { l with beamA := beams.1, beamB := beams.2 }

/-- The beams of a lane that has accepted `A` and `B`, after the waiting raw change that is accepted with them (log 7). -/
def Lane.joinBeams (now : Nat) (waiting : Option (Bool × Bool)) (l : Lane) (A B : Beam) : Beam × Beam :=
  match waiting with
  | none => (A, B)
  | some (a, b) =>
    if l.filterCode ≠ 0 then (A, B)
    else if A.accepted ≠ l.beamA.accepted ∧ B.accepted = l.beamB.accepted ∧ a = A.raw then (A, B.rawChange 0 now b)
    else if B.accepted ≠ l.beamB.accepted ∧ A.accepted = l.beamA.accepted ∧ b = B.raw then (A.rawChange 0 now a, B)
    else (A, B)

theorem acceptWaiting_withBeams (w : Option (Bool × Bool)) :
    (l.withBeams (A, B)).acceptWaiting now w l = l.withBeams (l.joinBeams now w A B) := by
  cases w with
  | none => rfl
  | some w =>
    obtain ⟨a, b⟩ := w
    unfold Lane.acceptWaiting Lane.joinBeams Lane.withBeams
    dsimp only
    split_ifs <;> rfl

/-- What is accepted at one run time, from a lane whose beams have become `A` and `B`. -/
theorem takeAccepted_withBeams :
    takeAccepted i (s.lane i) (s.putLane i ((s.lane i).withBeams (A, B))) =
      takeBeams i (s.putLane i ((s.lane i).withBeams ((s.lane i).joinBeams s.runTime (waitingRaw i A.raw B.raw s.pending)
        (A.accept s.runTime) (B.accept s.runTime)))) := by
  have hdue : ((s.lane i).withBeams (A, B)).acceptDue s.runTime =
    (s.lane i).withBeams (A.accept s.runTime, B.accept s.runTime) := rfl
  unfold takeAccepted
  dsimp only
  rw [setLane_eq, putLane_lane_self, putLane_putLane, putLane_runTime, hdue, acceptWaiting_withBeams]
  rfl

theorem putLane_same : s.putLane i ((s.lane i).withBeams ((s.lane i).beamA, (s.lane i).beamB)) = s := by
  unfold State.putLane Lane.withBeams
  dsimp only
  rw [lanes_set_lane]

/-! ### The two beam commands -/

/-- A raw change that leaves both accepted levels alone. -/
theorem beamRaw_unaccepted {a b : Bool} (hA : A = (s.lane i).beamA.rawChange (s.lane i).filterCode s.runTime a)
    (hB : B = (s.lane i).beamB.rawChange (s.lane i).filterCode s.runTime b)
    (h : A.accepted = (s.lane i).beamA.accepted ∧ B.accepted = (s.lane i).beamB.accepted) :
    beamRaw i a b s = s.putLane i ((s.lane i).withBeams (A, B)) := by
  subst hA hB
  unfold beamRaw
  dsimp only
  rw [if_pos h]
  rfl

/-- A raw change that changes an accepted level at once. -/
theorem beamRaw_accepted {a b : Bool} (hA : A = (s.lane i).beamA.rawChange (s.lane i).filterCode s.runTime a)
    (hB : B = (s.lane i).beamB.rawChange (s.lane i).filterCode s.runTime b)
    (h : ¬(A.accepted = (s.lane i).beamA.accepted ∧ B.accepted = (s.lane i).beamB.accepted)) :
    beamRaw i a b s = takeAccepted i (s.lane i) (s.putLane i ((s.lane i).withBeams (A, B))) := by
  subst hA hB
  unfold beamRaw
  dsimp only
  rw [if_neg h]
  rfl

theorem beamRaw_unchanged : beamRaw i (s.lane i).beamA.raw (s.lane i).beamB.raw s = s := by
  rw [beamRaw_unaccepted rawChange_same.symm rawChange_same.symm ⟨rfl, rfl⟩, putLane_same]

/-- Some measure of the lane has run for its length. -/
theorem beamAccepted_due {m : Measure} (hm : (s.lane i).beamA.measure = some m ∨ (s.lane i).beamB.measure = some m)
    (hd : m.start + m.length ≤ s.runTime) : beamAccepted i s = takeAccepted i (s.lane i) s := by
  unfold beamAccepted
  refine if_pos ((Bool.or_eq_true ..).mpr (hm.imp (fun h => ?_) fun h => ?_)) <;> exact due_iff.mpr ⟨m, h, hd⟩

theorem beamAccepted_early
    (h : ∀ m, (s.lane i).beamA.measure = some m ∨ (s.lane i).beamB.measure = some m → s.runTime < m.start + m.length) :
    beamAccepted i s = s := by
  unfold beamAccepted
  refine if_neg fun hd => ?_
  rcases (Bool.or_eq_true ..).mp hd with hd | hd <;> obtain ⟨m, hm, hrun⟩ := due_iff.mp hd
  · exact Nat.not_le_of_lt (h m (.inl hm)) hrun
  · exact Nat.not_le_of_lt (h m (.inr hm)) hrun

theorem exec_beamRawChange {a b : Bool} {u : State} (he : beamRaw i a b s = u) :
    exec (.beamRawChange i a b) s = .next (endOfEvent u) :=
  congrArg (Host.Outcome.next ∘ endOfEvent) he

theorem exec_beamAcceptedChange {u : State} (he : beamAccepted i s = u) :
    exec (.beamAcceptedChange i) s = .next (endOfEvent u) :=
  congrArg (Host.Outcome.next ∘ endOfEvent) he

end

/-- Settles O46: the functions that the statement fixes are the model's own, and each clause is a case of one of the two beam commands. -/
theorem beamFiltersMeasureAndAccept : Obligations.BeamFiltersMeasureAndAccept := by
  intro i s accepted at0 waiting joined take haccepted hat0 hwaiting hjoined htake
  have eaccepted : accepted = Beam.accept s.runTime := by
    refine funext fun b => (haccepted b).trans ?_
    unfold Beam.accept
    cases b.measure <;> rfl
  have eat0 : at0 = fun b r => b.rawChange 0 s.runTime r := funext fun b => funext (hat0 b)
  have ewaiting : ∀ a b, waiting a b = waitingRaw i a b s.pending := fun a b =>
    (hwaiting a b).trans (waitingRaw_eq i a b s.pending).symm
  have ejoined : ∀ A B, joined A B =
      (s.lane i).joinBeams s.runTime (waitingRaw i A.raw B.raw s.pending) A B := by
    intro A B
    rw [hjoined, ewaiting, eat0]
    rfl
  have etake : ∀ A B : Beam, take (joined (accepted A) (accepted B)) =
      takeAccepted i (s.lane i) (s.putLane i ((s.lane i).withBeams (A, B))) := by
    intro A B
    rw [takeAccepted_withBeams, htake, ejoined, eaccepted, accept_raw, accept_raw]
    rfl
  refine ⟨fun rawA rawB taken hc htaken => ?_, fun rawA rawB A B hc hA hB => ?_, fun rawA rawB _ _ _ hA hB => ?_,
    fun h => exec_beamAcceptedChange (beamAccepted_early h), fun ⟨m, hm, hd⟩ => ?_⟩
  · have etaken : ∀ b r, taken b r = b.rawChange (s.lane i).filterCode s.runTime r := by
      intro b r
      rw [htaken, Beam.rawChange, if_neg hc]
    exact exec_beamRawChange
      (beamRaw_unaccepted (etaken ..) (etaken ..) ⟨by rw [etaken, rawChange_accepted hc], by rw [etaken, rawChange_accepted hc]⟩)
  · rw [eat0, ← hc] at hA hB
    refine ⟨fun ha hb => exec_beamRawChange (beamRaw_unaccepted hA hB ⟨ha, hb⟩), fun h => ?_⟩
    rw [etake]
    exact exec_beamRawChange (beamRaw_accepted hA hB (not_and_or.mpr h))
  · subst hA hB
    exact exec_beamRawChange beamRaw_unchanged
  · rw [etake, putLane_same]
    exact exec_beamAcceptedChange (beamAccepted_due hm hd)

end Sys2Proof.Machine
end

section
/-! SUPPORT. The passage decoder over a movement, and what it makes of a lane (R52 to R57, R36). -/

namespace Sys2Proof.Machine

open Sys2Proof

/-! ### A movement from CLEAR to CLEAR (R54 to R56) -/

section
variable {d : Decoder} {p : PairState}

theorem take_fromClear (hp : p ≠ .clear) :
    (⟨.clear, none, none⟩ : Decoder).take p = (⟨p, p.entryFrom, p.single⟩, none) := by
  simp [Decoder.take, hp]

/-- A movement under way keeps its entry side and remembers the side of its last state (R55). -/
theorem take_underWay (hd : d.pair ≠ .clear) (hlast : d.last = d.pair.single) (hp : p ≠ .clear) :
    d.take p = (⟨p, d.entry, p.single⟩, none) := by
  by_cases h : p = d.pair
  · rw [h, ← hlast, Decoder.take, if_pos rfl]
  · rw [Decoder.take, if_neg h, if_neg hd, if_neg hp]

/-- A movement under way ends with its class (R56). -/
theorem take_toClear (hd : d.pair ≠ .clear) :
    d.take .clear = (⟨.clear, none, none⟩,
      some (classify (d.entry.getD .unknown) (exitSide d.last), d.entry.getD .unknown)) := by
  unfold Decoder.take
  rw [if_neg hd.symm, if_neg hd, if_pos rfl]

/-- A decoder hands over a class only when its pair becomes CLEAR (R57). -/
theorem take_class {e : Decoder} {c : Movement × EntrySide} (h : d.take p = (e, some c)) : e.pair = .clear := by
  unfold Decoder.take at h
  split at h
  · cases h
  · split at h
    · cases h
    · split at h
      · cases h
        rfl
      · cases h

end

/-- A decoder and the classes it has handed over, after one more pair state. -/
def Decoder.feed (x : Decoder × List (Movement × EntrySide)) (p : PairState) : Decoder × List (Movement × EntrySide) :=
  ((x.1.take p).1, x.2 ++ (x.1.take p).2.toList)

/-- A movement under way that passes through further states hands over nothing and stands on the last of them (R55). -/
theorem foldl_feed_underWay (path : List PairState) (hpath : ∀ p ∈ path, p ≠ .clear) (entry : Option EntrySide)
    (out : List (Movement × EntrySide)) :
    ∀ p : PairState, p ≠ .clear → path.foldl Decoder.feed (⟨p, entry, p.single⟩, out) =
      (⟨path.getLast?.getD p, entry, (path.getLast?.getD p).single⟩, out) := by
  induction path with
  | nil => exact fun _ _ => rfl
  | cons q rest ih =>
    obtain ⟨hq, hrest⟩ := List.forall_mem_cons.mp hpath
    intro p hp
    have hstep : Decoder.feed (⟨p, entry, p.single⟩, out) q = (⟨q, entry, q.single⟩, out) := by
      unfold Decoder.feed
      rw [take_underWay hp rfl hq]
      simp
    rw [List.foldl_cons, hstep, ih hrest q hq, List.getLast?_cons, Option.getD_some]

/-- The class of a whole movement, from its first and its last state (R54 to R57). -/
theorem foldl_feed_movement {path : List PairState} {first last : PairState} (hpath : ∀ p ∈ path, p ≠ .clear)
    (hfirst : path.head? = some first) (hlast : path.getLast? = some last) :
    (path ++ [PairState.clear]).foldl Decoder.feed (⟨.clear, none, none⟩, []) =
      (⟨.clear, none, none⟩, [(classify (first.entryFrom.getD .unknown) (exitSide last.single), first.entryFrom.getD .unknown)]) := by
  cases path with
  | nil => cases hfirst
  | cons p rest =>
    cases hfirst
    obtain ⟨hp, hrest⟩ := List.forall_mem_cons.mp hpath
    rw [List.getLast?_cons, Option.some_inj] at hlast
    have hleave : Decoder.feed (⟨.clear, none, none⟩, []) first = (⟨first, first.entryFrom, first.single⟩, []) := by
      unfold Decoder.feed
      rw [take_fromClear hp]
      rfl
    have hend : last ≠ .clear := hpath last (List.mem_of_getLast? (by rw [List.getLast?_cons, hlast]))
    have hpass : (first :: rest).foldl Decoder.feed (⟨.clear, none, none⟩, []) = (⟨last, first.entryFrom, last.single⟩, []) := by
      rw [List.foldl_cons, hleave, foldl_feed_underWay rest hrest _ _ first hp, hlast]
    rw [List.foldl_append, hpass, List.foldl_cons, List.foldl_nil, Decoder.feed, take_toClear hend]
    rfl

/-- The table of R56. -/
theorem classify_eq (entry exit : EntrySide) :
    classify entry exit =
      if exit = .unknown then .ambiguous
      else if exit = .inner then (if entry = .inner then .balk else .forward)
      else (if entry = .outer then .balk else .reverse) := by
  cases exit <;> cases entry <;> rfl

/-! ### The pair of a lane, and two changes of one run time (R51 to R53) -/

theorem mem_opposites (p q : PairState) :
    (p, q) ∈ [(PairState.clear, PairState.both), (.both, .clear), (.outerOnly, .innerOnly), (.innerOnly, .outerOnly)] ↔
      q = p.opposite := by
  cases p <;> cases q <;> decide

/-- A lane whose decoder has moved on to `d` from the pair before the last change, or from the pair before both changes (R53; log 7). -/
def Lane.decodedAs (now : Nat) (d : Decoder) (l : Lane) : Lane :=
  { l with decoder := d, lastChange := if l.joined now = none then some ⟨now, l.decoder⟩ else none }

section
variable {s u : State} {i : LaneIx} {l : Lane} {now : Nat} {d : Decoder}

theorem takePair_eq {c : Option (Movement × EntrySide)} (h : ((l.joined now).getD l.decoder).take l.pair = (d, c)) :
    l.takePair now = (l.decodedAs now d, c) := by
  unfold Lane.takePair
  rw [h]
  rfl

/-! ### What the decoder does at a lane (R57, R36) -/

theorem followed_eq (now : Nat) (l : Lane) :
    l.followed now = { l with
      clearTimer := if l.state ≠ .clearing then l.clearTimer
        else if l.decoder.pair ≠ .clear then none
        else if l.clearTimer = none then some (now + 1000) else l.clearTimer } := by
  unfold Lane.followed
  by_cases hs : l.state = .clearing
  · rw [if_pos hs, if_neg (not_not.mpr hs)]
    by_cases hp : l.decoder.pair = .clear
    · rw [if_pos hp, if_neg (not_not.mpr hp)]
      split <;> rfl
    · rw [if_neg hp, if_pos hp]
  · rw [if_neg hs, if_pos hs]

/-- With both beams clear the clear timer only starts. -/
theorem followed_of_clear (hp : l.decoder.pair = .clear) :
    l.followed now = { l with
      clearTimer := if l.state = .clearing ∧ l.clearTimer = none then some (now + 1000) else l.clearTimer } := by
  rw [followed_eq, hp]
  by_cases hs : l.state = .clearing <;> simp [hs]

theorem followClear_eq (i : LaneIx) (s : State) : followClear i s = s.putLane i ((s.lane i).followed s.runTime) := by
  have hkeep : s = s.putLane i (s.lane i) := by rw [State.putLane, lanes_set_lane]
  unfold followClear Lane.followed
  dsimp only
  split
  · split
    · split
      · rfl
      · exact hkeep
    · rfl
  · exact hkeep

/-- A movement leaves its lane's decoder alone. -/
theorem takeMovement_decoder (i : LaneIx) (m : Movement) (entry : EntrySide) (s : State) :
    ((takeMovement i m entry s).lane i).decoder = (s.lane i).decoder := by
  rcases takeMovement_lanes i m entry s with ⟨h, -⟩ | ⟨h, -⟩
  · rw [lane_congr h]
  · rw [lane_of_set h]
    rfl

/-- Without a class the lane's clear timer follows the beams. -/
theorem takeBeams_noClass
    (h : (((s.lane i).joined s.runTime).getD (s.lane i).decoder).take (s.lane i).pair = (d, none)) :
    takeBeams i s = s.putLane i (((s.lane i).decodedAs s.runTime d).followed s.runTime) := by
  unfold takeBeams
  rw [takePair_eq h]
  dsimp only
  rw [setLane_eq, followClear_eq, putLane_lane_self, putLane_putLane, putLane_runTime]

/-- With a class the lane acts on it first; then its clear timer, with both beams clear, starts where it has to. -/
theorem takeBeams_class {m : Movement} {entry : EntrySide}
    (h : (((s.lane i).joined s.runTime).getD (s.lane i).decoder).take (s.lane i).pair = (d, some (m, entry)))
    (hu : u = takeMovement i m entry (s.putLane i ((s.lane i).decodedAs s.runTime d))) :
    takeBeams i s = u.putLane i { u.lane i with
      clearTimer := if (u.lane i).state = .clearing ∧ (u.lane i).clearTimer = none then some (s.runTime + 1000)
        else (u.lane i).clearTimer } := by
  have htime : u.runTime = s.runTime := by rw [hu, takeMovement_runTime, putLane_runTime]
  have hclear : (u.lane i).decoder.pair = .clear := by
    rw [hu, takeMovement_decoder, putLane_lane_self]
    exact take_class h
  unfold takeBeams
  rw [takePair_eq h]
  dsimp only
  rw [setLane_eq, ← hu, followClear_eq, followed_of_clear hclear, htime]

end

/-- Settles O47: the fold over a movement's states, and then the lane's part without and with a class. -/
theorem decoderClassifiesMovements : Obligations.DecoderClassifiesMovements := by
  refine ⟨fun path first last entry exit hpath hfirst hlast hentry hexit => ?_, fun i s pair both before hpair hboth hbefore => ?_⟩
  · have hfold := foldl_feed_movement hpath hfirst hlast
    have eentry : entry = first.entryFrom.getD .unknown := by
      rw [hentry]
      cases first <;> rfl
    have eexit : exit = exitSide last.single := by
      rw [hexit]
      cases last <;> rfl
    rw [← classify_eq, eentry, eexit]
    exact hfold
  · have epair : pair = (s.lane i).pair := by
      rw [hpair, Lane.pair]
      cases (s.lane i).beamA.accepted <;> cases (s.lane i).beamB.accepted <;> cases (s.lane i).beamOrder <;> rfl
    have eboth : both = (s.lane i).joined s.runTime := by
      rw [hboth, epair]
      unfold Lane.joined
      cases (s.lane i).lastChange with
      | none => rfl
      | some c => simp only [mem_opposites]
    subst epair eboth hbefore
    refine ⟨fun d h => ?_, fun d m entry h => ⟨_, rfl, takeBeams_class h rfl⟩⟩
    rw [takeBeams_noClass h, followed_eq]
    rfl

end Sys2Proof.Machine
end

section
/-! SUPPORT. The Fare Calculator: the service minute (R114, R150), the figures of a priced presentation (R115 to R121), what each kind of
product gives (R77 to R83), and the product walk (R98). -/

namespace Sys2Proof.Machine

open Sys2Proof

/-! ### The service minute (R114, R150) -/

theorem serviceMinute_eq {offset : Nat} {now : ServiceTime} (hs : now.second ≤ 86399) (ho : offset ≤ 86399) :
    serviceMinute offset now = (now.second + 86400 - offset) % 86400 / 60 := by
  have hmod : (((now.second : Int) - offset) % 86400).toNat = (now.second + 86400 - offset) % 86400 := by omega
  exact congrArg (· / 60) hmod

/-! ### The figures (R115 to R121) -/

theorem periodOf_eq (f : FareSegment) (m : Nat) :
    periodOf f m = ([f.s1, f.s2, f.s3].filter fun n => decide (n ≤ m)).length := by
  simp only [periodOf, ← List.countP_eq_length_filter, List.countP_cons, List.countP_nil, decide_eq_true_eq]
  omega

theorem concessionOf_eq (k : ConcessionSegment) (cls : Nat) : concessionOf k cls = k.table[cls]?.getD ⟨0, 0⟩ :=
  List.getD_eq_getElem?_getD ..

theorem concessionOf_discount (k : ConcessionSegment) (cls : Nat) :
    (concessionOf k cls).discount = k.table[cls]?.elim 0 fun k => k.discount := by
  rw [concessionOf_eq]
  cases k.table[cls]? <;> rfl

theorem concessionOf_cap (k : ConcessionSegment) (cls : Nat) :
    (concessionOf k cls).cap = k.table[cls]?.elim 0 fun k => k.cap := by
  rw [concessionOf_eq]
  cases k.table[cls]? <;> rfl

theorem baseFareOf_some {f : FareSegment} {cls period fare : Nat} (h : f.matrix[4 * cls + period]? = some fare) :
    baseFareOf f cls period = fare := by
  rw [baseFareOf, List.getD_eq_getElem?_getD, h]
  rfl

theorem baseFareOf_le {f : FareSegment} {limit : Nat} (h : ∀ n ∈ f.matrix, n ≤ limit) (cls period : Nat) :
    baseFareOf f cls period ≤ limit := by
  rw [baseFareOf, List.getD_eq_getElem?_getD]
  cases hm : f.matrix[4 * cls + period]? with
  | none => exact Nat.zero_le _
  | some n => exact h n (List.mem_of_getElem? hm)

/-- A discounted fare is no more than the fare: rounding up never passes it (R117). -/
theorem rideValueOf_le (fare discount : Nat) : rideValueOf fare discount ≤ fare := by
  have hpart : fare * (100 - discount) ≤ fare * 100 := Nat.mul_le_mul_left _ (Nat.sub_le ..)
  unfold rideValueOf
  omega

theorem upgradeOf_le (transfer : Bool) (ride : Nat) (l : Option LastBoarding) : upgradeOf transfer ride l ≤ ride := by
  cases transfer
  · exact Nat.le_refl _
  · exact Nat.sub_le ..

theorem chargeOf_le (upgrade cap spent : Nat) : chargeOf upgrade cap spent ≤ upgrade := by
  unfold chargeOf
  split
  · exact Nat.le_refl _
  · exact Nat.min_le_left ..

theorem isTransfer_iff (x : FareInputs) (o : Option LastBoarding) :
    isTransfer x o = true ↔ ∃ l, o = some l ∧ l.pontoonId ≠ x.pontoonId ∧
      l.transferCount < x.tariff.concessions.maxTransfers ∧
      absSecond x.now ≤ absSecond ⟨l.day, l.second⟩ + 60 * x.tariff.concessions.transferWindow := by
  cases o with
  | none => simp [isTransfer]
  | some l =>
    have helapsed : elapsedSince l x.now ≤ x.tariff.concessions.transferWindow * 60 ↔
        absSecond x.now ≤ absSecond ⟨l.day, l.second⟩ + 60 * x.tariff.concessions.transferWindow := by
      unfold elapsedSince
      omega
    simp only [isTransfer, Bool.and_eq_true, decide_eq_true_eq, helapsed, Option.some.injEq, exists_eq_left', and_assoc]

/-! ### The products (R77 to R83) -/

theorem schemeOf_eq (set : TariffSet) (n : Nat) :
    schemeOf set n = (set.schemesLow ++ set.schemesHigh)[n]?.getD ⟨0, 0#8, 0, false⟩ := List.getD_eq_getElem?_getD ..

theorem schemeOf_tripsPerDay (set : TariffSet) (n : Nat) :
    (schemeOf set n).tripsPerDay = (set.schemesLow ++ set.schemesHigh)[n]?.elim 0 fun e => e.tripsPerDay := by
  rw [schemeOf_eq]
  cases (set.schemesLow ++ set.schemesHigh)[n]? <;> rfl

/-- Whether a scheme entry is one that a product's kind and dates call for (R77). -/
def governs (e : SchemeEntry) (serviceDay : Nat) (f : ProductFields) : Prop :=
  (e.kind = 1 ∧ ∃ balance, f = .purse balance) ∨ (e.kind = 2 ∧ ∃ n, f = .carnet n) ∨
    (e.kind = 3 ∧ ∃ day used, f = .allowance day used) ∨
    (e.kind = 4 ∧ ∃ first last, f = .pass first last ∧ first ≤ serviceDay ∧ serviceDay ≤ last)

/-- A product applies by its scheme entry; a product that names none does not apply, for NONE accepts no route. -/
theorem productApplies_iff (x : FareInputs) (p : Product) :
    productApplies x p = true ↔ ∃ e, (x.tariff.schemesLow ++ x.tariff.schemesHigh)[p.scheme]? = some e ∧
      e.routes.getLsbD x.routeClass = true ∧ governs e x.serviceDay p.fields := by
  unfold productApplies
  rw [schemeOf_eq]
  cases (x.tariff.schemesLow ++ x.tariff.schemesHigh)[p.scheme]? with
  | none => simp
  | some e =>
    cases hf : p.fields <;>
      simp [governs, productSchemeCode, eq_comm (b := e.kind), and_comm, and_assoc]

section
variable {x : FareInputs} {g : Pricing} {c : Credential} {p q : Product} {ps : List Product}

theorem payWith_purse {balance : Int} {k : Nat} (hf : p.fields = .purse balance)
    (hk : k = chargeOf g.upgrade (concessionOf x.tariff.concessions c.concession).cap (spendTaken c.daySpend x.serviceDay)) :
    payWith x g c p = if -(x.tariff.concessions.creditLimit : Int) ≤ balance - k then
      .inl ⟨.purse, k, some (newDaySpend c.daySpend x.serviceDay k),
        if k = 0 then none else some { p with fields := .purse (balance - k) }, false⟩
    else .inr .insufficient := by
  subst hk
  simp only [payWith, hf, ge_iff_le, Nat.one_le_iff_ne_zero, ite_not]

theorem payWith_carnet {n : Nat} (hf : p.fields = .carnet n) :
    payWith x g c p = if g.transfer = true ∧ g.upgrade = 0 then .inl ⟨.carnet, 0, none, none, false⟩
      else if 1 ≤ n then .inl ⟨.carnet, 0, none, some { p with fields := .carnet (n - 1) }, decide (n = 1)⟩
      else .inr .carnetEmpty := by
  have hlast : 1 ≤ n → (n - 1 = 0 ↔ n = 1) := by omega
  simp +contextual only [payWith, hf, Bool.and_eq_true, decide_eq_true_eq, hlast]

theorem payWith_allowance {day used taken quota : Nat} (hf : p.fields = .allowance day used)
    (ht : taken = usedTaken day used x.serviceDay) (hq : quota = (schemeOf x.tariff p.scheme).tripsPerDay) :
    payWith x g c p = if g.transfer = true ∧ g.upgrade = 0 then .inl ⟨.allowance, 0, none, none, false⟩
      else if taken < quota then .inl ⟨.allowance, 0, none,
        some { p with fields := .allowance (max day x.serviceDay) (taken + 1) }, decide (taken + 1 = quota)⟩
      else .inr .allowanceUsed := by
  subst ht hq
  simp only [payWith, hf, Bool.and_eq_true, decide_eq_true_eq]

theorem payWith_pass {first last : Nat} (hf : p.fields = .pass first last) :
    payWith x g c p = .inl ⟨.pass, 0, none, none, false⟩ := by
  simp only [payWith, hf]

theorem payWith_unknown {code : Nat} (hf : p.fields = .unknown code) : payWith x g c p = .inr .noProduct := by
  simp only [payWith, hf]

/-- What a product that pays gives: a purse its charge within the credit limit, any other product no charge (R79 to R83). -/
theorem payWith_inl {pay : Payment} (h : payWith x g c p = .inl pay) :
    (∃ balance k, p.fields = .purse balance ∧
      k = chargeOf g.upgrade (concessionOf x.tariff.concessions c.concession).cap (spendTaken c.daySpend x.serviceDay) ∧
      -(x.tariff.concessions.creditLimit : Int) ≤ balance - k ∧
      pay = ⟨.purse, k, some (newDaySpend c.daySpend x.serviceDay k),
        if k = 0 then none else some { p with fields := .purse (balance - k) }, false⟩) ∨
    ((∀ balance, p.fields ≠ .purse balance) ∧ pay.charge = 0 ∧ pay.daySpend = none ∧ pay.kind ≠ .purse) := by
  cases hf : p.fields with
  | purse balance =>
    rw [payWith_purse hf rfl] at h
    split at h
    · next hk => exact .inl ⟨balance, _, rfl, rfl, hk, (Sum.inl.inj h).symm⟩
    · cases h
  | carnet n =>
    rw [payWith_carnet hf] at h
    refine .inr ⟨nofun, ?_⟩
    split_ifs at h <;> cases h <;> exact ⟨rfl, rfl, nofun⟩
  | allowance day used =>
    rw [payWith_allowance hf rfl rfl] at h
    refine .inr ⟨nofun, ?_⟩
    split_ifs at h <;> cases h <;> exact ⟨rfl, rfl, nofun⟩
  | pass first last =>
    rw [payWith_pass hf] at h
    cases h
    exact .inr ⟨nofun, rfl, rfl, nofun⟩
  | unknown code =>
    rw [payWith_unknown hf] at h
    cases h

/-- The reasons that products offer (R78 to R82). -/
theorem payWith_inr {r : Reason} (h : payWith x g c p = .inr r) :
    r ∈ [Reason.noProduct, .insufficient, .carnetEmpty, .allowanceUsed] := by
  cases hf : p.fields with
  | purse balance =>
    rw [payWith_purse hf rfl] at h
    split_ifs at h
    cases h
    decide
  | carnet n =>
    rw [payWith_carnet hf] at h
    split_ifs at h
    cases h
    decide
  | allowance day used =>
    rw [payWith_allowance hf rfl rfl] at h
    split_ifs at h
    cases h
    decide
  | pass first last =>
    rw [payWith_pass hf] at h
    cases h
  | unknown code =>
    rw [payWith_unknown hf] at h
    cases h
    decide

/-! ### The product walk (R98) -/

/-- The walk goes on past products that do not apply, and past those that apply, cannot pay and have the chain flag. -/
def PassedOver (x : FareInputs) (g : Pricing) (c : Credential) (ps : List Product) : Prop :=
  ∀ q ∈ ps, productApplies x q = true → q.chain = true ∧ ∃ e, payWith x g c q = .inr e

theorem passedOver_nil : PassedOver x g c [] := nofun

theorem PassedOver.cons (h : PassedOver x g c ps) (hp : productApplies x p = true → p.chain = true ∧ ∃ e, payWith x g c p = .inr e) :
    PassedOver x g c (p :: ps) := List.forall_mem_cons.mpr ⟨hp, h⟩

theorem walk_skip (h : productApplies x p = false) (m : Option (Reason × Nat)) : walk x g c m (p :: ps) = walk x g c m ps := by
  simp [walk, h]

theorem walk_pays {pay : Payment} (h : productApplies x p = true) (hpay : payWith x g c p = .inl pay) (m : Option (Reason × Nat)) :
    walk x g c m (p :: ps) = .used p pay := by
  simp [walk, h, hpay]

theorem walk_chained {e : Reason} (h : productApplies x p = true) (hpay : payWith x g c p = .inr e) (hc : p.chain = true)
    (m : Option (Reason × Nat)) : walk x g c m (p :: ps) = walk x g c (some (e, p.slot)) ps := by
  simp [walk, h, hpay, hc]

theorem walk_stops {e : Reason} (h : productApplies x p = true) (hpay : payWith x g c p = .inr e) (hc : p.chain = false)
    (m : Option (Reason × Nat)) : walk x g c m (p :: ps) = .none e (some p.slot) := by
  simp [walk, h, hpay, hc]

/-- The product used is the first that applies and can pay. -/
theorem walk_used {pay : Payment} (m : Option (Reason × Nat)) (h : walk x g c m ps = .used p pay) :
    ∃ earlier later, ps = earlier ++ p :: later ∧ productApplies x p = true ∧ payWith x g c p = .inl pay ∧
      PassedOver x g c earlier := by
  induction ps generalizing m with
  | nil => cases m <;> cases h
  | cons q ps ih =>
    have hlater : ∀ m, walk x g c m ps = .used p pay →
        (productApplies x q = true → q.chain = true ∧ ∃ e, payWith x g c q = .inr e) →
        ∃ earlier later, q :: ps = earlier ++ p :: later ∧ productApplies x p = true ∧ payWith x g c p = .inl pay ∧
          PassedOver x g c earlier := by
      intro m hw hq
      obtain ⟨earlier, later, rfl, happlies, hpay, hpassed⟩ := ih m hw
      exact ⟨q :: earlier, later, rfl, happlies, hpay, hpassed.cons hq⟩
    cases happlies : productApplies x q with
    | false => exact hlater m (walk_skip happlies m ▸ h) fun ht => absurd (happlies.symm.trans ht) nofun
    | true =>
      cases hpay : payWith x g c q with
      | inl pay' =>
        rw [walk_pays happlies hpay] at h
        cases h
        exact ⟨[], ps, rfl, happlies, hpay, passedOver_nil⟩
      | inr e =>
        cases hc : q.chain with
        | false =>
          rw [walk_stops happlies hpay hc] at h
          cases h
        | true => exact hlater _ (walk_chained happlies hpay hc m ▸ h) fun _ => ⟨hc, e, hpay⟩

/-- What a walk that uses no product ends with: what it remembered when nothing applies, and otherwise the reason and slot of the last
product that applies before it stops. -/
theorem walk_none {r : Reason} {slot : Option Nat} (m : Option (Reason × Nat)) (h : walk x g c m ps = .none r slot) :
    (walk x g c m [] = .none r slot ∧ ∀ p ∈ ps, productApplies x p = false) ∨
      ∃ earlier p later, ps = earlier ++ p :: later ∧ productApplies x p = true ∧ payWith x g c p = .inr r ∧
        slot = some p.slot ∧ (p.chain = false ∨ ∀ q ∈ later, productApplies x q = false) ∧ PassedOver x g c earlier := by
  induction ps generalizing m with
  | nil => exact .inl ⟨h, nofun⟩
  | cons q ps ih =>
    cases happlies : productApplies x q with
    | false =>
      rcases ih m (walk_skip happlies m ▸ h) with ⟨hend, hnone⟩ | ⟨earlier, p, later, rfl, hp, hpay, hslot, hstop, hpassed⟩
      · exact .inl ⟨hend, List.forall_mem_cons.mpr ⟨happlies, hnone⟩⟩
      · exact .inr ⟨q :: earlier, p, later, rfl, hp, hpay, hslot, hstop,
          hpassed.cons fun ht => absurd (happlies.symm.trans ht) nofun⟩
    | true =>
      cases hpay : payWith x g c q with
      | inl pay =>
        rw [walk_pays happlies hpay] at h
        cases h
      | inr e =>
        cases hc : q.chain with
        | false =>
          rw [walk_stops happlies hpay hc] at h
          cases h
          exact .inr ⟨[], q, ps, rfl, happlies, hpay, rfl, .inl hc, passedOver_nil⟩
        | true =>
          rcases ih _ (walk_chained happlies hpay hc m ▸ h) with
            ⟨hend, hnone⟩ | ⟨earlier, p, later, rfl, hp, hpayp, hslot, hstop, hpassed⟩
          · cases hend
            exact .inr ⟨[], q, ps, rfl, happlies, hpay, rfl, .inr hnone, passedOver_nil⟩
          · exact .inr ⟨q :: earlier, p, later, rfl, hp, hpayp, hslot, hstop, hpassed.cons fun _ => ⟨hc, e, hpay⟩⟩

end

/-- Settles O51: the figures and products by the lemmas on the functions that `price` and `payWith` are made of, the walk by `walk_none` and
`walk_used`. -/
theorem faresAreComputedAndBounded : Obligations.FaresAreComputedAndBounded := by
  intro s t set now c x g offset discount cap spent hmatrix _ hsecond hoffset hoff hdiscount hcap hspent hx hg
  have etariff : x.tariff = set := by rw [hx]; rfl
  have hminute : x.minute = (now.second + 86400 - offset) % 86400 / 60 := by
    rw [hx, ← serviceMinute_eq hsecond hoff, hoffset]
    rfl
  have hride : g.rideValue = rideValueOf g.baseFare discount := by rw [hdiscount, ← concessionOf_discount, ← etariff, hg]; rfl
  have hupgrade : g.upgrade = upgradeOf g.transfer g.rideValue c.lastBoarding := by rw [hg]; rfl
  have hcharge : chargeOf g.upgrade (concessionOf x.tariff.concessions c.concession).cap (spendTaken c.daySpend x.serviceDay) =
      if cap = 0 then g.upgrade else min g.upgrade (cap - spent) := by
    rw [etariff, concessionOf_cap, ← hcap, spendTaken, ← hspent]
    rfl
  have hspend : ∀ k, newDaySpend c.daySpend x.serviceDay k = ⟨max c.daySpend.day x.serviceDay, min 65535 (spent + k)⟩ := by
    rw [hspent]
    exact fun _ => rfl
  refine ⟨by rw [hx, hoffset]; rfl, hminute, by omega, by rw [← etariff, ← periodOf_eq, hg]; rfl, fun f hf => ?_, hride, ?_,
    fun h => by rw [hupgrade, h]; rfl, fun l h hl => by rw [hupgrade, h, hl]; rfl, hupgrade ▸ upgradeOf_le ..,
    hride ▸ rideValueOf_le .., ?_, fun p => ?_, fun p balance k hf hk => ?_, fun p n hf => payWith_carnet hf,
    fun p day used taken quota hf ht hq => ?_, fun p first last hf => payWith_pass hf, fun r slot h => ?_, fun p pay h => ?_⟩
  · rw [← baseFareOf_some hf, ← etariff, hg, hx]
    rfl
  · have hiff := isTransfer_iff x c.lastBoarding
    rw [hg]
    rw [hx] at hiff ⊢
    exact hiff
  · rw [hg, hx]
    exact baseFareOf_le hmatrix ..
  · have happlies := productApplies_iff x p
    rw [etariff] at happlies
    rw [happlies, hx]
    rfl
  · rw [payWith_purse hf (hk.trans hcharge.symm), hspend, etariff]
  · refine payWith_allowance hf ht ?_
    rw [hq, schemeOf_tripsPerDay, etariff]
  · refine (walk_none none h).imp_left fun ⟨hend, hnone⟩ => ?_
    cases hend
    exact ⟨rfl, rfl, hnone⟩
  · obtain ⟨earlier, later, hproducts, happlies, hpay, hpassed⟩ := walk_used none h
    have hwalked := And.intro happlies (And.intro hpay hpassed)
    rcases payWith_inl hpay with ⟨balance, k, hf, hk, hlimit, hgives⟩ | ⟨hf, hzero, hday, hkind⟩
    · subst hgives
      refine ⟨hk ▸ chargeOf_le .., fun balance' hf' => ?_, fun hno => absurd hf (hno balance), earlier, later, hproducts, hwalked⟩
      cases hf.symm.trans hf'
      exact ⟨rfl, hk.trans hcharge, etariff ▸ hlimit, congrArg some (hspend k), rfl⟩
    · exact ⟨hzero ▸ Nat.zero_le _, fun balance hf' => absurd hf' (hf balance), fun _ => ⟨hzero, hday, hkind⟩,
        earlier, later, hproducts, hwalked⟩

end Sys2Proof.Machine
end

section
/-! SUPPORT. A malformed credential record (R73), and the presentation that is refused: the first check that fails, what it changes, and the
decision it is given (R14, R46, R87 to R98, R102, R103). -/

namespace Sys2Proof.Machine

open Sys2Proof

/-! ### Malformed records (R73) -/

theorem boardingMalformed_iff (l : LastBoarding) :
    boardingMalformed l = true ↔
      86399 < l.second ∨ l.pontoonId = 0 ∨ 7 < l.routeClass ∨ 9999 < l.rideValue ∨ 7 < l.transferCount := by
  simp only [boardingMalformed, Bool.or_eq_true, decide_eq_true_eq, or_assoc]

theorem fieldsMalformed_iff (f : ProductFields) :
    fieldsMalformed f = true ↔ (∃ code, f = .unknown code) ∨
      (∃ balance, f = .purse balance ∧ (balance < -2000 ∨ 99999 < balance)) ∨
      (∃ n, f = .carnet n ∧ 99 < n) ∨ (∃ day used, f = .allowance day used ∧ 20 < used) ∨
      ∃ first last, f = .pass first last ∧ last < first := by
  cases f <;> simp [fieldsMalformed]

theorem productMalformed_iff (p : Product) :
    productMalformed p = true ↔ 3 < p.slot ∨ 31 < p.scheme ∨ fieldsMalformed p.fields = true := by
  simp only [productMalformed, Bool.or_eq_true, decide_eq_true_eq, or_assoc]

theorem slotShared_iff (ps : List Product) : slotShared ps = true ↔ ¬ps.Pairwise fun p q => p.slot ≠ q.slot := by
  induction ps with
  | nil => simp [slotShared]
  | cons p ps ih =>
    have hshared : ps.any (fun q => decide (q.slot = p.slot)) = true ↔ ¬∀ q ∈ ps, p.slot ≠ q.slot := by
      simp only [List.any_eq_true, decide_eq_true_eq, not_forall, ne_eq, not_not, exists_prop, eq_comm (a := p.slot)]
    rw [slotShared, Bool.or_eq_true, hshared, ih, List.pairwise_cons, not_and_or]

theorem malformed_iff (c : Credential) :
    malformed c = true ↔ c.card = 0 ∨ 1 < c.cardState ∨ 7 < c.concession ∨
      (∃ l, c.lastBoarding = some l ∧ boardingMalformed l = true) ∨ 4 < c.products.length ∨
      (∃ p ∈ c.products, productMalformed p = true) ∨ slotShared c.products = true := by
  have hboarding : c.lastBoarding.elim false boardingMalformed = true ↔
      ∃ l, c.lastBoarding = some l ∧ boardingMalformed l = true := by
    cases c.lastBoarding <;> simp
  simp only [malformed, Bool.or_eq_true, decide_eq_true_eq, hboarding, List.any_eq_true, or_assoc]

/-! ### The matched entry (R93, R94, R95, R103) -/

theorem heldEntry_eq (card : Nat) (es : List Entry) :
    heldEntry card es = es.find? fun e => decide (e.card = card ∧ e.state = .held) := by
  simp only [heldEntry, Bool.decide_and]

theorem entryIn_eq (card ref : Nat) (st : EntryState) (es : List Entry) :
    entryIn card ref st es = es.find? fun e => decide (e.card = card ∧ e.tripRef = ref ∧ e.state = st) := by
  simp only [entryIn, Entry.isFor, Bool.decide_and, Bool.and_assoc]

theorem heldEntry_isSome (card : Nat) (es : List Entry) :
    (heldEntry card es).isSome = true ↔ ∃ e ∈ es, e.card = card ∧ e.state = .held := by
  simp only [heldEntry_eq, List.find?_isSome, decide_eq_true_eq]

theorem entryIn_isSome (card ref : Nat) (st : EntryState) (es : List Entry) :
    (entryIn card ref st es).isSome = true ↔ ∃ e ∈ es, e.card = card ∧ e.tripRef = ref ∧ e.state = st := by
  simp only [entryIn_eq, List.find?_isSome, decide_eq_true_eq]

/-- The entry whose detail a refusal carries, by its reason (R103). -/
def State.matched (s : State) (card ref : Nat) : Reason → Option Entry
  | .inProgress => heldEntry card s.recent
  | .passback => entryIn card ref .passed s.recent
  | .full => courtesyEntry s card ref
  | _ => none

/-- The detail that a refusal carries, by its reason (R103). -/
def State.refusalDetail (s : State) (card ref : Nat) (r : Reason) : Option EntryDetail := (s.matched card ref r).map (detailOf s)

theorem matched_eq (s : State) (card ref : Nat) (r : Reason) :
    s.matched card ref r =
      if r = .inProgress then s.recent.find? fun e => decide (e.card = card ∧ e.state = .held)
      else if r = .passback then s.recent.find? fun e => decide (e.card = card ∧ e.tripRef = ref ∧ e.state = .passed)
      else if r = .full then
        (s.recent.find? fun e => decide (e.card = card ∧ e.tripRef = ref ∧ e.state = .void)).filter fun e =>
          decide (s.supervisor.setup.courtesyWindow ≠ 0 ∧ s.runTime - e.changedAt ≤ 1000 * s.supervisor.setup.courtesyWindow)
      else none := by
  rw [← heldEntry_eq, ← entryIn_eq, ← courtesyEntry_eq]
  cases r <;> rfl

/-! ### The order of checks (R88) -/

/-- A judgement refuses with the reason and slot that `o` names, and with that reason's detail. -/
def Judgement.Refuses (j : Judgement) (o : Option (Reason × Option Nat)) (detail : Reason → Option EntryDetail) : Prop :=
  ∀ r slot, some (r, slot) = o → j = .refuse r slot (detail r)

section
variable {j : Judgement} {o : Option (Reason × Option Nat)} {detail : Reason → Option EntryDetail} {r : Reason}

theorem Judgement.Refuses.refuse (slot : Option Nat) : (Judgement.refuse r slot (detail r)).Refuses (some (r, slot)) detail := by
  rintro _ _ ⟨⟩
  rfl

/-- A check that fails gives its own reason; one that passes leaves the decision to the checks after it. -/
theorem Judgement.Refuses.check {p q : Prop} [Decidable p] [Decidable q] {d : Option EntryDetail} (hpq : p ↔ q)
    (hd : d = detail r) (h : j.Refuses o detail) :
    (if p then .refuse r none d else j).Refuses (if q then some (r, none) else o) detail := by
  by_cases hq : q
  · rw [if_pos (hpq.mpr hq), if_pos hq, hd]
    exact .refuse none
  · rw [if_neg (mt hpq.mp hq), if_neg hq]
    exact h

end

section
variable {s : State} {i : LaneIx} {b : BerthIx} {t : Trip} {c : Credential} {o : Option (Reason × Option Nat)}

/-- The reasons that a walk ends with (R98). -/
theorem walk_reason {x : FareInputs} {g : Pricing} {r : Reason} {slot : Option Nat}
    (h : walk x g c none c.products = .none r slot) : r ∈ [Reason.noProduct, .insufficient, .carnetEmpty, .allowanceUsed] := by
  rcases walk_none none h with ⟨hend, -⟩ | ⟨_, _, _, -, -, hpay, -⟩
  · cases hend
    decide
  · exact payWith_inr hpay

/-- Step 11 refuses with the reason and slot of the walk, and with no detail (R98, R103). -/
theorem judgeFare_refuses {set : TariffSet} {now : ServiceTime} {x : FareInputs} (hset : s.tariff.active = some set)
    (hnow : s.clock.time = some now) (hx : x = fareInputs s t set now)
    (ho : ∀ r slot, some (r, slot) = o → walk x (price x c) c none c.products = .none r slot) (ref : Nat) :
    (judgeFare s i b t c).Refuses o (s.refusalDetail c.card ref) := by
  intro r slot hr
  have hwalk := ho r slot hr
  have hreason : s.refusalDetail c.card ref r = none := by
    have hmem := walk_reason hwalk
    simp only [List.mem_cons, List.not_mem_nil, or_false] at hmem
    rcases hmem with rfl | rfl | rfl | rfl <;> rfl
  subst hx
  unfold judgeFare
  rw [hset, hnow, hreason]
  dsimp only
  rw [hwalk]

theorem admits_iff (l : FillLevel) : l.admits = true ↔ ¬(l = .full ∨ l = .overfull) := by cases l <;> simp [FillLevel.admits]

theorem judgePlace_eq : judgePlace s i b t c =
    if t.fill = .full ∨ t.fill = .overfull then .refuse .full none (s.refusalDetail c.card t.context.tripRef .full)
    else (courtesyEntry s c.card t.context.tripRef).elim (judgeFare s i b t c) fun e => .courtesy i b t (detailOf s e) := by
  unfold judgePlace State.refusalDetail State.matched
  cases courtesyEntry s c.card t.context.tripRef <;> simp only [admits_iff, ite_not] <;> rfl

/-- Steps 9 to 11 (R95, R96). -/
theorem judgePlace_refuses (h : (judgeFare s i b t c).Refuses o (s.refusalDetail c.card t.context.tripRef)) :
    (judgePlace s i b t c).Refuses
      (if t.fill = .full ∨ t.fill = .overfull then some (.full, none)
        else if (s.recent.find? fun e => decide (e.card = c.card ∧ e.tripRef = t.context.tripRef ∧ e.state = .void)).any (fun e =>
            decide (s.supervisor.setup.courtesyWindow ≠ 0 ∧
              s.runTime - e.changedAt ≤ 1000 * s.supervisor.setup.courtesyWindow)) = true then none
        else o) (s.refusalDetail c.card t.context.tripRef) := by
  rw [judgePlace_eq]
  refine .check .rfl rfl ?_
  rw [← Option.isSome_filter, ← courtesyEntry_eq]
  cases courtesyEntry s c.card t.context.tripRef with
  | none => exact h
  | some e => exact nofun

theorem judgeCard_eq : judgeCard s i b t c =
    if malformed c = true then .refuse .cardFormat none none
    else if c.cardState = 1 then .refuse .cardBlocked none none
    else if s.denied c.card = true then .refuse .denied none none
    else if (heldEntry c.card s.recent).isSome = true then
      .refuse .inProgress none (s.refusalDetail c.card t.context.tripRef .inProgress)
    else if (entryIn c.card t.context.tripRef .passed s.recent).isSome = true then
      .refuse .passback none (s.refusalDetail c.card t.context.tripRef .passback)
    else judgePlace s i b t c := by
  unfold judgeCard State.refusalDetail State.matched
  cases heldEntry c.card s.recent <;> cases entryIn c.card t.context.tripRef .passed s.recent <;> rfl

/-- Steps 4 to 8 (R92 to R94). -/
theorem judgeCard_refuses (h : (judgePlace s i b t c).Refuses o (s.refusalDetail c.card t.context.tripRef)) :
    (judgeCard s i b t c).Refuses
      (if malformed c = true then some (.cardFormat, none)
        else if c.cardState = 1 then some (.cardBlocked, none)
        else if c.card ∈ s.deny then some (.denied, none)
        else if ∃ e ∈ s.recent, e.card = c.card ∧ e.state = .held then some (.inProgress, none)
        else if ∃ e ∈ s.recent, e.card = c.card ∧ e.tripRef = t.context.tripRef ∧ e.state = .passed then some (.passback, none)
        else o) (s.refusalDetail c.card t.context.tripRef) := by
  rw [judgeCard_eq]
  exact .check .rfl rfl <| .check .rfl rfl <| .check List.contains_iff_mem rfl <| .check (heldEntry_isSome ..) rfl <|
    .check (entryIn_isSome ..) rfl h

/-- Steps 1 to 3 at a present lane (R89 to R91). -/
theorem judge_eq (hi : i.val < s.supervisor.setup.lanesPresent) : judge s i.val c =
    if s.supervisor.state ≠ .inService then .refuse .notInService none none
    else if (s.lane i).berth.elim false s.berthPresent = false then .refuse .laneUnavailable none none
    else if (s.lane i).state = .off ∨ (s.lane i).state = .fault then .refuse .laneUnavailable none none
    else if (s.lane i).state ≠ .closed then .refuse .laneBusy none none
    else (s.lane i).berth.elim (.refuse .berthNotBoarding none none) fun b =>
      (s.berth b).elim (.refuse .berthNotBoarding none none) fun t =>
        if t.phase ≠ .opened then .refuse .berthNotBoarding none none else judgeCard s i b t c := by
  unfold judge
  rw [lane?_present hi]
  dsimp only
  cases (s.lane i).berth with
  | none => rfl
  | some b =>
    dsimp only [Option.elim_some]
    cases s.berth b <;> cases (s.lane i).state <;> rfl

/-- A lane whose berth is VACANT or that has none refuses with a reason that reads no card (R89 to R91). -/
theorem judge_vacant (hi : i.val < s.supervisor.setup.lanesPresent) (hv : (s.lane i).berth.elim none s.berth = none) :
    judge s i.val c = .refuse
      (if s.supervisor.state ≠ .inService then .notInService
        else if (s.lane i).berth.elim false s.berthPresent = false then .laneUnavailable
        else if (s.lane i).state = .off ∨ (s.lane i).state = .fault then .laneUnavailable
        else if (s.lane i).state ≠ .closed then .laneBusy else .berthNotBoarding) none none := by
  rw [judge_eq hi]
  simp only [apply_ite (Judgement.refuse · none none)]
  cases hb : (s.lane i).berth with
  | none => rfl
  | some b =>
    have hberth : s.berth b = none := by rwa [hb] at hv
    simp only [Option.elim_some, hberth, Option.elim_none]
    rfl

/-- Steps 1 to 3, at a lane whose berth holds a trip (R89 to R91). -/
theorem judge_refuses (hi : i.val < s.supervisor.setup.lanesPresent) (hb : (s.lane i).berth = some b) (ht : s.berth b = some t)
    (h : (judgeCard s i b t c).Refuses o (s.refusalDetail c.card t.context.tripRef)) :
    (judge s i.val c).Refuses
      (if s.supervisor.state ≠ .inService then some (.notInService, none)
        else if s.supervisor.setup.berthsPresent ≤ b.val then some (.laneUnavailable, none)
        else if (s.lane i).state = .off ∨ (s.lane i).state = .fault then some (.laneUnavailable, none)
        else if (s.lane i).state ≠ .closed then some (.laneBusy, none)
        else if t.phase ≠ .opened then some (.berthNotBoarding, none)
        else o) (s.refusalDetail c.card t.context.tripRef) := by
  have habsent : s.berthPresent b = false ↔ s.supervisor.setup.berthsPresent ≤ b.val := by simp [State.berthPresent]
  rw [judge_eq hi, hb, Option.elim_some, Option.elim_some, ht, Option.elim_some]
  exact .check .rfl rfl <| .check habsent rfl <| .check .rfl rfl <| .check .rfl rfl <| .check .rfl rfl h

/-! ### What a refusal changes (R14, R46) -/

/-- The lamp of a lane after a REFUSE event at it (R46, R47). -/
def State.refusedLamp (s : State) (i : LaneIx) : Lamp :=
  if (s.lane i).state ≠ .off ∧ (s.lamp i).condition = .refuse then (s.lamp i).rise s.runTime true else s.lamp i

theorem raiseEvent_refuse (i : LaneIx) (s : State) :
    raiseEvent .refuse i s = { s with lamps := s.lamps.set i (s.refusedLamp i) } := by
  unfold raiseEvent State.refusedLamp
  split
  · rfl
  · rw [State.lamp, PerLane.set_get]

/-- The trip of a berth whose lane refuses: its refusals counter rises while it is OPEN (R14). -/
def Trip.refused (t : Trip) : Trip := if t.phase = .opened then t.refuse else t

theorem refused_eq (t : Trip) : t.refused = { t with counts := { t.counts with
    refusals := if t.phase = .opened then min 65535 (t.counts.refusals + 1) else t.counts.refusals } } := by
  unfold Trip.refused
  split <;> rfl

theorem countRefusal_eq (ht : s.berth b = some t) : countRefusal b s = s.putBerth b (some t.refused) := by
  unfold countRefusal Trip.refused
  rw [ht]
  dsimp only
  split
  · exact changeTrip_still ht rfl
  · rw [← ht, putBerth_same]

theorem applyRefusal_absent {n : Nat} (hn : s.lane? n = none) : applyRefusal n s = s := by
  unfold applyRefusal
  rw [hn]

theorem applyRefusal_present (hi : i.val < s.supervisor.setup.lanesPresent) :
    applyRefusal i.val s = raiseEvent .refuse i (reportTo i countRefusal s) := by
  unfold applyRefusal
  rw [lane?_present hi]

theorem applyRefusal_vacant (hi : i.val < s.supervisor.setup.lanesPresent) (hv : (s.lane i).berth.elim none s.berth = none) :
    applyRefusal i.val s = { s with lamps := s.lamps.set i (s.refusedLamp i) } := by
  have hreport : reportTo i countRefusal s = s := by
    rw [reportTo_eq rfl]
    cases hb : (s.lane i).berth with
    | none => rfl
    | some b =>
      rw [hb] at hv
      unfold countRefusal
      rw [Option.elim_some, show s.berth b = none from hv]
  rw [applyRefusal_present hi, hreport, raiseEvent_refuse]

theorem applyRefusal_trip (hi : i.val < s.supervisor.setup.lanesPresent) (hb : (s.lane i).berth = some b) (ht : s.berth b = some t) :
    applyRefusal i.val s =
      { s with lamps := s.lamps.set i (s.refusedLamp i), berths := s.berths.set b (some t.refused) } := by
  rw [applyRefusal_present hi, reportTo_some hb, countRefusal_eq ht, raiseEvent_refuse]
  rfl

/-! ### The decision of a refusal (R102, R103) -/

theorem lane?_absent {n : Nat} (hn : 8 ≤ n ∨ s.supervisor.setup.lanesPresent ≤ n) : s.lane? n = none := by
  unfold State.lane?
  split
  · exact if_neg (by omega)
  · rfl

theorem judge_absent {n : Nat} (hn : s.lane? n = none) : judge s n c =
    .refuse (if s.supervisor.state = .inService then .laneUnavailable else .notInService) none none := by
  unfold judge
  rw [hn, apply_ite (Judgement.refuse · none none), ite_not]

/-- The decision of a refusal reads of the state after it the lane's trip alone. -/
theorem decisionOf_refusal (n : Nat) (r : Reason) (slot : Option Nat) (detail : Option EntryDetail) (s : State) :
    decisionOf n (.refused r slot) detail (refusalWriteBack r) (applyRefusal n s) =
      { lane := n, outcome := .refused r slot
        berth := (s.lane? n).bind fun i => (s.lane i).berth
        fill := (s.lane? n).bind fun i => (applyRefusal n s).fillReport i
        degraded := decide (s.clock.state = .degraded)
        generation := s.tariff.active.elim 0 fun a => a.fares.generation
        detail := detail, writeBack := ⟨decide (r = .denied), none, none, none⟩ } := by
  have hlane? : (applyRefusal n s).lane? n = s.lane? n := by simp only [State.lane?, applyRefusal_supervisor]
  have hberth : (fun i => ((applyRefusal n s).lane i).berth) = fun i => (s.lane i).berth :=
    funext fun i => by rw [lane_congr (applyRefusal_lanes n s)]
  unfold decisionOf State.activeGeneration
  rw [hlane?, hberth, applyRefusal_clock, applyRefusal_tariff]
  rfl

theorem fillReport_vacant (hv : (s.lane i).berth.elim none s.berth = none) : s.fillReport i = none := by
  have htrip : s.boardingTrip i = none := Option.eq_none_iff_forall_ne_some.mpr fun t h => by
    obtain ⟨b, hb, ht, -⟩ := (boardingTrip_eq_some s i t).mp h
    rw [hb] at hv
    exact absurd (ht.symm.trans hv) nofun
  rw [State.fillReport, htrip]
  rfl

theorem fillReport_trip (hb : (s.lane i).berth = some b) (ht : s.berth b = some t) :
    s.fillReport i = if t.phase = .departed then none else
      some ⟨t.fill, (t.context.capacity : Int) - t.counts.onboard - t.counts.holds⟩ := by
  unfold State.fillReport State.boardingTrip
  rw [hb]
  dsimp only
  rw [ht]
  dsimp only
  split <;> rfl

/-! ### A refused presentation (R87) -/

theorem exec_present_refused {tag : Byte} {n : Nat} {r : Reason} {slot : Option Nat} {detail : Option EntryDetail} (hs : s.slotFree)
    (hn : c.productCount = c.products.length) (hj : judge (countTaken s) n c = .refuse r slot detail) :
    exec (.present tag n c) s = .next (State.answering 0x30 tag
      (.decision (decisionOf n (.refused r slot) detail (refusalWriteBack r) (applyRefusal n (countTaken s))))
      (applyRefusal n (countTaken s))) := by
  refine exec_present hs hn ?_
  unfold ownPresent
  rw [hj]

theorem exec_present_refused_absent {tag : Byte} {n : Nat} {r : Reason} (hs : s.slotFree) (hc : c.productCount = c.products.length)
    (hn : s.lane? n = none) (hj : judge s n c = .refuse r none none) (hr : r ≠ .denied) :
    exec (.present tag n c) s = .next (State.answering 0x30 tag (.decision
      { lane := n, outcome := .refused r none
        berth := none, fill := none, degraded := decide (s.clock.state = .degraded)
        generation := s.tariff.active.elim 0 fun a => a.fares.generation
        detail := none, writeBack := ⟨false, none, none, none⟩ }) (countTaken s)) := by
  have hlane : (countTaken s).lane? n = none := hn
  rw [exec_present_refused hs hc (s := s) hj, decisionOf_refusal, hlane, applyRefusal_absent hlane, decide_eq_false hr]
  rfl

theorem exec_present_refused_vacant {tag : Byte} {r : Reason} (hs : s.slotFree) (hc : c.productCount = c.products.length)
    (hi : i.val < s.supervisor.setup.lanesPresent) (hv : (s.lane i).berth.elim none s.berth = none)
    (hj : judge s i.val c = .refuse r none none) (hr : r ≠ .denied) :
    exec (.present tag i.val c) s = .next (State.answering 0x30 tag (.decision
      { lane := i.val, outcome := .refused r none
        berth := (s.lane i).berth, fill := none, degraded := decide (s.clock.state = .degraded)
        generation := s.tariff.active.elim 0 fun a => a.fares.generation
        detail := none, writeBack := ⟨false, none, none, none⟩ })
      { countTaken s with lamps := s.lamps.set i (s.refusedLamp i) }) := by
  have hlane : (countTaken s).lane? i.val = some i := lane?_present hi
  have happlied := applyRefusal_vacant (s := countTaken s) hi hv
  have hfill : (applyRefusal i.val (countTaken s)).fillReport i = none := fillReport_vacant (by rw [happlied]; exact hv)
  rw [exec_present_refused hs hc (s := s) hj, decisionOf_refusal, hlane, Option.bind_some, Option.bind_some, hfill, happlied,
    decide_eq_false hr]
  rfl

theorem exec_present_refused_trip {tag : Byte} {r : Reason} {slot : Option Nat} {detail : Option EntryDetail} (hs : s.slotFree)
    (hc : c.productCount = c.products.length) (hi : i.val < s.supervisor.setup.lanesPresent) (hb : (s.lane i).berth = some b)
    (ht : s.berth b = some t) (hj : judge s i.val c = .refuse r slot detail) :
    exec (.present tag i.val c) s = .next (State.answering 0x30 tag (.decision
      { lane := i.val, outcome := .refused r slot
        berth := some b
        fill := if t.phase = .departed then none else
          some ⟨t.fill, (t.context.capacity : Int) - t.counts.onboard - t.counts.holds⟩
        degraded := decide (s.clock.state = .degraded)
        generation := s.tariff.active.elim 0 fun a => a.fares.generation
        detail := detail, writeBack := ⟨decide (r = .denied), none, none, none⟩ })
      { countTaken s with lamps := s.lamps.set i (s.refusedLamp i), berths := s.berths.set b (some t.refused) }) := by
  have hlane : (countTaken s).lane? i.val = some i := lane?_present hi
  have happlied := applyRefusal_trip (s := countTaken s) hi hb ht
  have hfill := fillReport_trip (s := applyRefusal i.val (countTaken s)) (i := i) (b := b) (t := t.refused)
    (by rw [happlied]; exact hb) (by rw [happlied]; exact PerBerth.get_set_self ..)
  rw [exec_present_refused hs hc (s := s) hj, decisionOf_refusal, hlane, Option.bind_some, Option.bind_some, hfill, happlied,
    countTaken_lane, hb, refused_eq]
  rfl

end

/-- Settles O49: the malformed records by `malformed_iff`; the first check that fails by `judge_absent`, `judge_vacant` and, through all the
checks, the `..._refuses` lemmas; what the refusal changes and answers by the `exec_present_refused_...` lemmas. -/
theorem presentRefusesInTheOrderOfChecks : Obligations.PresentRefusesInTheOrderOfChecks := by
  refine ⟨fun c => ?_, fun tag lane c s hslot hcount => ⟨fun hn => ?_, fun i lamp hlane hi hlamp => ?_⟩⟩
  · rw [malformed_iff]
    simp only [boardingMalformed_iff, productMalformed_iff, fieldsMalformed_iff, slotShared_iff]
  · refine exec_present_refused_absent hslot hcount (lane?_absent hn) (judge_absent (lane?_absent hn)) ?_
    split_ifs <;> decide
  · subst hlane
    have elamp : lamp = s.refusedLamp i := hlamp
    subst elamp
    refine ⟨fun reason hv hreason => ?_, fun b t set now x reason slot hb ht hset hnow hx hfirst voided matched detail hvoided
      hmatched hdetail => ?_⟩
    · refine exec_present_refused_vacant hslot hcount hi hv (hreason ▸ judge_vacant hi hv) ?_
      rw [hreason]
      split_ifs <;> decide
    · have hjudge := judge_refuses (c := c) hi hb ht (judgeCard_refuses (judgePlace_refuses
        (judgeFare_refuses hset hnow hx (fun r slot h => ?_) _))) reason slot hfirst
      · have edetail : s.refusalDetail c.card t.context.tripRef reason = detail := by
          rw [hdetail, hmatched, hvoided, ← matched_eq]
          rfl
        rw [exec_present_refused_trip hslot hcount hi hb ht hjudge, edetail, refused_eq, hset]
        rfl
      · cases hw : walk x (price x c) c none c.products with
        | none r' slot' =>
          rw [hw] at h
          cases h
          rfl
        | used p pay =>
          rw [hw] at h
          cases h

end Sys2Proof.Machine
end

section
/-! SUPPORT. The Recent Admission List under each change of it: a hold that ends marks its entry, an admission joins as the newest entry,
and the HELD entries are those of the lanes that hold a hold (R101, R104 to R109). -/

namespace Sys2Proof.Machine

open Sys2Proof

section
variable {s u : State} {i : LaneIx} {l : Lane}

/-! ### Changes that leave every hold in place -/

/-- Lanes that keep their holds, and the assignment under a hold, keep the law of an unchanged list. -/
theorem ListLaw.kept (h : ListLaw s) (hr : u.recent = s.recent) (hh : ∀ j, (u.lane j).hold = (s.lane j).hold)
    (hb : ∀ j, (s.lane j).hold ≠ none → (u.lane j).berth = (s.lane j).berth) : ListLaw u := by
  obtain ⟨hlen, hpair, hcard, hheld, hhold⟩ := h
  refine ⟨hr ▸ hlen, hr ▸ hpair, hr ▸ hcard, fun e he hs => ?_, fun j k hk => ?_⟩
  · obtain ⟨hk, hberth⟩ := hheld e (hr ▸ he) hs
    exact ⟨(hh _).trans hk, (hb _ (by simp [hk])).trans hberth⟩
  · rw [hr]
    exact hhold j k ((hh j).symm.trans hk)

theorem ListLaw.frames (h : ListLaw s) (hr : u.recent = s.recent) (hl : u.lanes = s.lanes) : ListLaw u :=
  h.kept hr (fun j => by rw [lane_congr hl]) fun j _ => by rw [lane_congr hl]

/-- One lane changes but for its hold, keeping its assignment while it has one. -/
theorem ListLaw.lane (h : ListLaw s) (hr : u.recent = s.recent) (hl : u.lanes = s.lanes.set i l)
    (hh : l.hold = (s.lane i).hold) (hb : (s.lane i).hold ≠ none → l.berth = (s.lane i).berth) : ListLaw u := by
  refine h.kept hr (fun j => ?_) fun j hj => ?_
  · by_cases he : j = i
    · rw [he, lane_of_set hl, hh]
    · rw [lane_of_set_other hl he]
  · by_cases he : j = i
    · subst he
      rw [lane_of_set hl, hb hj]
    · rw [lane_of_set_other hl he]

/-- One lane without a hold changes and takes none. -/
theorem ListLaw.idle_lane (h : ListLaw s) (hr : u.recent = s.recent) (hl : u.lanes = s.lanes.set i l)
    (hs : (s.lane i).hold = none) (hn : l.hold = none) : ListLaw u :=
  h.lane hr hl (hn.trans hs.symm) fun hk => absurd hs hk

/-- With no hold before and after, nothing is asked of the lanes. -/
theorem ListLaw.holdless (h : ListLaw s) (hr : u.recent = s.recent) (hs : ∀ j, (s.lane j).hold = none)
    (hu : ∀ j, (u.lane j).hold = none) : ListLaw u :=
  h.kept hr (fun j => (hu j).trans (hs j).symm) fun j hj => absurd (hs j) hj

theorem ListLaw.of_empty (hr : u.recent = []) (hu : ∀ j, (u.lane j).hold = none) : ListLaw u := by
  refine ⟨by simp [hr], by simp [hr], by simp [hr], by simp [hr], fun j k hk => ?_⟩
  rw [hu j] at hk
  cases hk

/-! ### One entry per pair -/

theorem ListLaw.pairs_nodup (h : ListLaw s) : (s.recent.map fun e => (e.card, e.tripRef)).Nodup := by
  obtain ⟨-, hpair, -⟩ := h
  rw [List.Nodup, List.pairwise_map]
  exact hpair.imp fun hne he => hne (Prod.mk.inj he)

/-- The entry of a pair is one. -/
theorem ListLaw.eq_of_pair (h : ListLaw s) {x y : Entry} (hx : x ∈ s.recent) (hy : y ∈ s.recent) (hcard : x.card = y.card)
    (href : x.tripRef = y.tripRef) : x = y :=
  List.inj_on_of_nodup_map h.pairs_nodup hx hy (Prod.ext hcard href)

/-- The HELD entry of a lane is one. -/
theorem ListLaw.eq_of_lane (h : ListLaw s) {x y : Entry} (hx : x ∈ s.recent) (hy : y ∈ s.recent) (hxs : x.state = .held)
    (hys : y.state = .held) (hl : x.lane = y.lane) : x = y := by
  have ⟨_, _, _, hheld, _⟩ := h
  have hhold := (hheld x hx hxs).1.symm.trans (hl ▸ (hheld y hy hys).1)
  rw [Option.some.injEq, Hold.mk.injEq] at hhold
  exact h.eq_of_pair hx hy hhold.1 hhold.2.1

/-! ### The HELD entries are those of the lanes that hold (R105) -/

/-- The lanes named by the HELD entries are the lanes that hold a hold, each once. -/
theorem ListLaw.heldLanes_perm (h : ListLaw s) :
    ((s.recent.filter fun e => decide (e.state = .held)).map Entry.lane).Perm (allLanes.filter fun i => (s.lane i).hold.isSome) := by
  have ⟨_, _, _, hheld, hhold⟩ := h
  have hinj : ((s.recent.filter fun e => decide (e.state = .held)).map Entry.lane).Nodup := by
    refine List.Nodup.map_on (fun x hx y hy hl => ?_) (h.pairs_nodup.of_map.filter _)
    simp only [List.mem_filter, decide_eq_true_eq] at hx hy
    exact h.eq_of_lane hx.1 hy.1 hx.2 hy.2 hl
  refine (List.perm_ext_iff_of_nodup hinj (nodup_allLanes.filter _)).mpr fun i => ?_
  simp only [List.mem_map, List.mem_filter, decide_eq_true_eq, mem_allLanes, true_and, Option.isSome_iff_exists]
  constructor
  · rintro ⟨e, ⟨he, hs⟩, rfl⟩
    exact ⟨_, (hheld e he hs).1⟩
  · rintro ⟨k, hk⟩
    obtain ⟨e, he, hs, hl, -⟩ := hhold i k hk
    exact ⟨e, ⟨he, hs⟩, hl⟩

theorem ListLaw.heldCount_eq (h : ListLaw s) : s.heldCount = allLanes.countP fun i => (s.lane i).hold.isSome := by
  rw [List.countP_eq_length_filter, ← h.heldLanes_perm.length_eq, List.length_map]
  rfl

theorem ListLaw.heldCount_le (h : ListLaw s) : s.heldCount ≤ 8 := by
  rw [h.heldCount_eq]
  exact List.countP_le_length

/-- A full list holds an entry that is not HELD, so that the oldest such can make room (R107). -/
theorem ListLaw.exists_not_held (h : ListLaw s) (hfull : 8 < s.recent.length) : ∃ e ∈ s.recent, e.state ≠ .held := by
  by_contra hall
  simp only [not_exists, not_and, not_not] at hall
  have hle := h.heldCount_le
  rw [State.heldCount, List.filter_eq_self.mpr fun e he => by simpa using hall e he] at hle
  omega

/-- A lane that holds a hold holds it for one of the four berths. -/
theorem holdsFor_sum {l : Lane} (hb : l.hold ≠ none → l.berth ≠ none) :
    l.hold.isSome.toNat = (l.holdsFor 0).toNat + (l.holdsFor 1).toNat + (l.holdsFor 2).toNat + (l.holdsFor 3).toNat := by
  cases hk : l.hold with
  | none => simp [holdsFor_of_hold hk]
  | some k =>
    obtain ⟨b, hlb⟩ := Option.ne_none_iff_exists'.mp (hb (by simp [hk]))
    simp only [Lane.holdsFor, hk, hlb]
    fin_cases b <;> rfl

/-- The lanes that hold a hold, counted by berth. -/
theorem countP_holds {is : List LaneIx} (hb : ∀ i, (s.lane i).hold ≠ none → (s.lane i).berth ≠ none) :
    (is.countP fun i => (s.lane i).hold.isSome) =
      (is.countP fun i => (s.lane i).holdsFor 0) + (is.countP fun i => (s.lane i).holdsFor 1) +
        (is.countP fun i => (s.lane i).holdsFor 2) + (is.countP fun i => (s.lane i).holdsFor 3) := by
  induction is with
  | nil => rfl
  | cons i is ih =>
    have hi := holdsFor_sum (hb i)
    simp only [List.countP_cons, ih, Bool.toNat, Bool.cond_eq_ite] at hi ⊢
    omega

/-! ### A hold that ends (R108, R109) -/

/-- What the end of a hold makes of one entry. -/
def Hold.mark (k : Hold) (st : EntryState) (now : Nat) (e : Entry) : Entry :=
  if e.card = k.card ∧ e.tripRef = k.tripRef ∧ e.state = .held then { e with state := st, changedAt := now } else e

theorem ended_eq (k : Hold) (st : EntryState) (s : State) : s.ended k st = s.recent.map (k.mark st s.runTime) := rfl

theorem mark_pair (k : Hold) (st : EntryState) (now : Nat) (e : Entry) :
    (k.mark st now e).card = e.card ∧ (k.mark st now e).tripRef = e.tripRef := by
  unfold Hold.mark
  split <;> exact ⟨rfl, rfl⟩

/-- An entry that is HELD after the end of a hold was HELD for another pair, and stands as it was. -/
theorem mark_held {k : Hold} {st : EntryState} (hst : st ≠ .held) (now : Nat) (e : Entry) :
    (k.mark st now e).state = .held ↔ e.state = .held ∧ ¬(e.card = k.card ∧ e.tripRef = k.tripRef) := by
  unfold Hold.mark
  split
  · next he => simp [hst, he]
  · next he => exact ⟨fun hs => ⟨hs, fun hp => he ⟨hp.1, hp.2, hs⟩⟩, And.left⟩

theorem mark_other {k : Hold} {st : EntryState} {now : Nat} {e : Entry} (he : ¬(e.card = k.card ∧ e.tripRef = k.tripRef)) :
    k.mark st now e = e :=
  if_neg fun hp => he ⟨hp.1, hp.2.1⟩

/-- A lane's hold ends, and its entry is marked. -/
theorem ListLaw.ends (h : ListLaw s) {k : Hold} {st : EntryState} (hl : u.lanes = s.lanes.set i l)
    (hr : u.recent = s.ended k st) (hk : (s.lane i).hold = some k) (hn : l.hold = none) (hst : st ≠ .held) : ListLaw u := by
  have ⟨hlen, hpair, hcard, hheld, hhold⟩ := h
  obtain ⟨e, he, hes, hel, hec, her⟩ := hhold i k hk
  rw [ended_eq] at hr
  have hpairs := mark_pair k st s.runTime
  have hmark := mark_held (k := k) hst s.runTime
  refine ⟨by simpa [hr] using hlen, ?_, ?_, fun x hx hxs => ?_, fun j k' hk' => ?_⟩
  · rw [hr, List.pairwise_map]
    simpa only [hpairs] using hpair
  · rw [hr, List.pairwise_map]
    refine hcard.imp fun hne hp => hne ?_
    rw [(hpairs _).1, (hpairs _).1, hmark, hmark] at hp
    exact ⟨hp.1, hp.2.1.1, hp.2.2.1⟩
  · rw [hr, List.mem_map] at hx
    obtain ⟨y, hy, rfl⟩ := hx
    obtain ⟨hys, hne⟩ := (hmark y).mp hxs
    rw [mark_other hne]
    obtain ⟨hyk, hyb⟩ := hheld y hy hys
    have hyi : y.lane ≠ i := fun hyi => by
      have hsame := h.eq_of_lane hy he hys hes (hyi.trans hel.symm)
      exact hne (hsame ▸ ⟨hec, her⟩)
    rw [lane_of_set_other hl hyi]
    exact ⟨hyk, hyb⟩
  · have hji : j ≠ i := by
      rintro rfl
      rw [lane_of_set hl, hn] at hk'
      cases hk'
    rw [lane_of_set_other hl hji] at hk'
    obtain ⟨y, hy, hys, hyl, hyc, hyr⟩ := hhold j k' hk'
    have hne : ¬(y.card = k.card ∧ y.tripRef = k.tripRef) := fun hp => by
      have hsame := h.eq_of_pair hy he (hp.1.trans hec.symm) (hp.2.trans her.symm)
      exact hji (hyl.symm.trans (hsame ▸ hel))
    refine ⟨y, ?_, hys, hyl, hyc, hyr⟩
    rw [hr, List.mem_map]
    exact ⟨y, hy, mark_other hne⟩

/-! ### An admission (R101, R106, R107) -/

/-- An admission joins as the newest entry. What stands before it is what stood of the old list: fewer than 256 entries, none for the pair,
and every HELD entry of another pair. -/
theorem recordAdmission_cases {e : Entry} {es : List Entry} (hlen : es.length ≤ 256)
    (hroom : 256 ≤ es.length → ∃ x ∈ es, x.state ≠ .held) :
    ∃ old, recordAdmission e es = old ++ [e] ∧ old.Sublist es ∧ old.length < 256 ∧
      (∀ x ∈ old, ¬(x.card = e.card ∧ x.tripRef = e.tripRef)) ∧
      ∀ x ∈ es, x.state = .held → ¬(x.card = e.card ∧ x.tripRef = e.tripRef) → x ∈ old := by
  have hfor : ∀ x : Entry, x.isFor e.card e.tripRef = true ↔ x.card = e.card ∧ x.tripRef = e.tripRef := by simp [Entry.isFor]
  have hother : ∀ x : Entry, (!x.isFor e.card e.tripRef) = true ↔ ¬(x.card = e.card ∧ x.tripRef = e.tripRef) := fun x => by
    rw [Bool.not_eq_true', ← hfor, Bool.not_eq_true]
  unfold recordAdmission
  split
  · next hany =>
    refine ⟨_, rfl, List.filter_sublist, ?_, fun x hx => ?_, fun x hx _ hne => ?_⟩
    · obtain ⟨x, hx, hxe⟩ := List.any_eq_true.mp hany
      refine Nat.lt_of_lt_of_le ?_ hlen
      rw [List.length_filter_lt_length_iff_exists]
      exact ⟨x, hx, by simp [hxe]⟩
    · exact (hother x).mp (List.mem_filter.mp hx).2
    · exact List.mem_filter.mpr ⟨hx, (hother x).mpr hne⟩
  · next hany =>
    have hno : ∀ x ∈ es, ¬(x.card = e.card ∧ x.tripRef = e.tripRef) := fun x hx hp =>
      hany (List.any_eq_true.mpr ⟨x, hx, (hfor x).mpr hp⟩)
    split
    · next hlt => exact ⟨es, rfl, List.Sublist.refl es, hlt, hno, fun x hx _ _ => hx⟩
    · next hfull =>
      have h256 : 256 ≤ es.length := Nat.not_lt.mp hfull
      obtain ⟨x, hx, hxs⟩ := hroom h256
      have hevict : (evictOldest es).length = es.length - 1 := List.length_eraseP_of_mem hx (by simpa using hxs)
      refine ⟨_, rfl, List.eraseP_sublist, by omega, fun y hy => hno y (List.mem_of_mem_eraseP hy), fun y hy hys _ => ?_⟩
      exact (List.mem_eraseP_of_neg (by simpa using hys)).mpr hy

/-- A lane without a hold takes one of a card that has no HELD entry, and its entry joins the list. -/
theorem ListLaw.joins (h : ListLaw s) {e : Entry} (hl : u.lanes = s.lanes.set i l) (hr : u.recent = recordAdmission e s.recent)
    (hn : (s.lane i).hold = none) (hk : l.hold = some ⟨e.card, e.tripRef, e.charge, e.kind⟩) (hb : l.berth = some e.berth)
    (he : e.lane = i) (hes : e.state = .held) (hcard : ∀ x ∈ s.recent, x.card = e.card → x.state ≠ .held) : ListLaw u := by
  have ⟨hlen, hpair, hone, hheld, hhold⟩ := h
  obtain ⟨old, hrecord, hsub, hshort, hnone, hkeep⟩ := recordAdmission_cases (e := e) hlen fun h256 => h.exists_not_held (by omega)
  rw [hrecord] at hr
  refine ⟨by rw [hr, List.length_append]; exact hshort, ?_, ?_, fun x hx hxs => ?_, fun j k hjk => ?_⟩
  · rw [hr, List.pairwise_append]
    exact ⟨hpair.sublist hsub, List.pairwise_singleton .., by simpa using hnone⟩
  · rw [hr, List.pairwise_append]
    refine ⟨hone.sublist hsub, List.pairwise_singleton .., fun x hx y hy hp => ?_⟩
    obtain rfl := List.mem_singleton.mp hy
    exact hcard x (hsub.subset hx) hp.1 hp.2.1
  · rw [hr, List.mem_append, List.mem_singleton] at hx
    rcases hx with hx | rfl
    · obtain ⟨hxk, hxb⟩ := hheld x (hsub.subset hx) hxs
      have hxi : x.lane ≠ i := by
        rintro rfl
        rw [hn] at hxk
        cases hxk
      rw [lane_of_set_other hl hxi]
      exact ⟨hxk, hxb⟩
    · rw [he, lane_of_set hl]
      exact ⟨hk, hb⟩
  · rw [hr]
    by_cases hji : j = i
    · subst hji
      rw [lane_of_set hl, hk] at hjk
      cases hjk
      exact ⟨e, by simp, hes, he, rfl, rfl⟩
    · rw [lane_of_set_other hl hji] at hjk
      obtain ⟨x, hx, hxs, hxl, hxc, hxr⟩ := hhold j k hjk
      refine ⟨x, List.mem_append_left _ (hkeep x hx hxs fun hp => ?_), hxs, hxl, hxc, hxr⟩
      exact hcard x hx hp.1 hxs

end

end Sys2Proof.Machine
end

section
/-! SUPPORT. The law of the Recent Admission List under each event of a lane and each request (R30, R33 to R43, R101, R106 to R109). -/

namespace Sys2Proof.Machine

open Sys2Proof

section
variable {s u : State} {i : LaneIx}

/-! ### Holds that end (R33 to R35, R108, R109) -/

theorem reportTo_recent {f : BerthIx → State → State} (hf : ∀ b s, (f b s).recent = s.recent) (i : LaneIx) (s : State) :
    (reportTo i f s).recent = s.recent := by
  unfold reportTo
  split
  · rfl
  · exact hf _ s

theorem dropHold_recent (i : LaneIx) (c : VoidCause) (k : Hold) (next : Lane → Lane) (s : State) :
    (dropHold i c k next s).recent = s.ended k .void := by
  rw [dropHold, post_recent, endEntry_eq]
  rfl

theorem ListLaw.dropHold (h : ListLaw s) {k : Hold} (hk : (s.lane i).hold = some k) (c : VoidCause) (next : Lane → Lane) :
    ListLaw (dropHold i c k next s) :=
  h.ends (dropHold_lanes ..) (dropHold_recent ..) hk rfl (by decide)

theorem ListLaw.voidReport (h : ListLaw s) (i : LaneIx) : ListLaw (reportTo i berthVoid s) :=
  h.frames (reportTo_recent (by simp) ..) (reportTo_lanes (by simp) _)

theorem ListLaw.voidHold (h : ListLaw s) {k : Hold} (hk : (s.lane i).hold = some k) (c : VoidCause) (next : Lane → Lane) :
    ListLaw (voidHold i c k next s) :=
  (h.dropHold hk c next).voidReport i

theorem ListLaw.consumeHold (h : ListLaw s) {k : Hold} (hk : (s.lane i).hold = some k) : ListLaw (consumeHold i k s) := by
  refine h.ends (consumeHold_lanes ..) (st := .passed) ?_ hk rfl (by decide)
  rw [Machine.consumeHold, reportTo_recent (by simp), endEntry_eq]
  rfl

/-! ### Changes of one lane -/

/-- A lane changes but for its assignment and its hold. -/
theorem ListLaw.setLane (h : ListLaw s) {f : Lane → Lane} (hh : (f (s.lane i)).hold = (s.lane i).hold)
    (hb : (f (s.lane i)).berth = (s.lane i).berth) : ListLaw (setLane i f s) :=
  h.lane rfl (setLane_lanes ..) hh fun _ => hb

/-- The same with the settlement test of its berth. -/
theorem ListLaw.settles (h : ListLaw s) {f : Lane → Lane} (hh : (f (s.lane i)).hold = (s.lane i).hold)
    (hb : (f (s.lane i)).berth = (s.lane i).berth) : ListLaw (settleBerthOf i (changeLane i f s)) :=
  h.lane (by simp) ((settleBerthOf_lanes ..).trans (changeLane_lanes ..)) hh fun _ => hb

/-- A lane without a hold takes another form without one. -/
theorem ListLaw.turn (h : ListLaw s) (hs : (s.lane i).hold = none) {f : Lane → Lane} (hf : (f (s.lane i)).hold = none) :
    ListLaw (settleBerthOf i (changeLane i f s)) :=
  h.idle_lane (by simp) ((settleBerthOf_lanes ..).trans (changeLane_lanes ..)) hs hf

theorem ListLaw.faultLane (h : ListLaw s) (hs : (s.lane i).hold = none) (c : LaneFaultCause) : ListLaw (faultLane i c s) :=
  h.idle_lane (by simp) (faultLane_lanes ..) hs rfl

theorem ListLaw.completeClosing (h : ListLaw s) (i : LaneIx) : ListLaw (completeClosing i s) :=
  h.lane (by simp) (completeClosing_lanes ..) rfl fun _ => rfl

theorem ListLaw.startClosing (h : ListLaw s) {f : Lane → Lane} (hh : (f (s.lane i)).hold = (s.lane i).hold)
    (hb : (f (s.lane i)).berth = (s.lane i).berth) : ListLaw (startClosing i f s) := by
  refine h.lane (by simp) (startClosing_lanes ..) ?_ fun _ => ?_
  · split <;> exact hh
  · split <;> exact hb

/-! ### Beams and passages (R33, R34, R40) -/

theorem consumedBy_some {m : Movement} {l : Lane} {k : Hold} (h : l.consumedBy m = some k) : l.hold = some k := by
  unfold Lane.consumedBy at h
  split at h
  · exact consumable_some h
  · cases h

theorem ListLaw.posting (h : ListLaw s) (ns : List Notice) : ListLaw (State.posting ns s) :=
  h.frames (posting_recent ..) (posting_lanes ..)

theorem ListLaw.takeMovement (h : ListLaw s) (i : LaneIx) (m : Movement) (entry : EntrySide) :
    ListLaw (takeMovement i m entry s) := by
  have hpassage : ∀ {u : State}, ListLaw u → ∀ eg, ListLaw (reportPassage i m eg u) := fun hu _ => hu.frames (by simp) (by simp)
  cases hp : s.lanePresent i with
  | false =>
    rw [takeMovement_absent hp]
    exact h
  | true =>
    cases hc : (s.lane i).consumedBy m with
    | some k =>
      rw [takeMovement_consumed hp hc]
      exact (h.posting _).consumeHold ((congrArg Lane.hold (posting_lane ..)).trans (consumedBy_some hc))
    | none =>
      cases hd : (s.lane i).deferredHold with
      | none =>
        rw [takeMovement_passage hp hc hd]
        exact hpassage (h.posting _) _
      | some k =>
        rw [takeMovement_deferred hp hc hd rfl]
        refine (hpassage (ListLaw.dropHold (h.posting _) ?_ ..) _).voidReport i
        exact (congrArg Lane.hold (posting_lane ..)).trans (deferredHold_some hd)

theorem followed_hold (now : Nat) (l : Lane) : (l.followed now).hold = l.hold := by
  unfold Lane.followed
  repeat' split
  all_goals rfl

theorem ListLaw.takeBeams (h : ListLaw s) (i : LaneIx) : ListLaw (takeBeams i s) := by
  have hset : ListLaw (Machine.setLane i (fun _ => ((s.lane i).takePair s.runTime).1) s) := h.setLane rfl rfl
  have hfollow : ∀ {u : State}, ListLaw u → ListLaw (followClear i u) := fun hu =>
    hu.lane (by simp) (followClear_lanes ..) (followed_hold ..) fun _ => (followed_state_berth ..).2
  unfold Machine.takeBeams
  dsimp only
  refine hfollow ?_
  split
  · exact hset
  · exact hset.takeMovement ..

theorem ListLaw.takeAccepted (h : ListLaw s) (i : LaneIx) (old : Lane) : ListLaw (takeAccepted i old s) := by
  have hset : ∀ w, ListLaw (Machine.setLane i (fun l => (l.acceptDue s.runTime).acceptWaiting s.runTime w old) s) := fun w =>
    h.setLane (acceptWaiting_hold ..) (acceptWaiting_berth ..)
  unfold Machine.takeAccepted
  dsimp only
  exact (hset _).takeBeams i

theorem ListLaw.beamRaw (h : ListLaw s) (i : LaneIx) (a b : Bool) : ListLaw (beamRaw i a b s) := by
  have hset : ∀ a b, ListLaw (Machine.setLane i (fun l => { l with beamA := a, beamB := b }) s) := fun a b => h.setLane rfl rfl
  unfold Machine.beamRaw
  dsimp only
  split
  · exact hset ..
  · exact (hset ..).takeAccepted ..

theorem ListLaw.beamAccepted (h : ListLaw s) (i : LaneIx) : ListLaw (beamAccepted i s) := by
  unfold Machine.beamAccepted
  split
  · exact h.takeAccepted ..
  · exact h

/-! ### Barrier events and timers (R31, R32, R34, R36 to R38) -/

theorem ListLaw.senseChange (h : ListLaw s) (ho : Owing none s) (i : LaneIx) (isOpen : Bool) :
    ListLaw (senseChange i isOpen s) := by
  have hset : ListLaw (Machine.setLane i (fun l => { l with sense := isOpen }) s) := h.setLane rfl rfl
  have hoset : Owing none (Machine.setLane i (fun l => { l with sense := isOpen }) s) := ho.setLane rfl rfl rfl
  unfold Machine.senseChange
  dsimp only
  split
  · exact h
  · generalize Machine.setLane i (fun l => { l with sense := isOpen }) s = u at hset hoset ⊢
    split
    · exact hset.settles rfl rfl
    · exact hset.settles rfl rfl
    · next hs _ => exact hset.faultLane (hoset.none_of_state hs (by simp)) _
    · exact hset.completeClosing i
    · next hs _ => exact hset.faultLane (hoset.none_of_state hs (by simp)) _
    · exact hset

theorem ListLaw.barrierExpiry (h : ListLaw s) (ho : Owing none s) (i : LaneIx) : ListLaw (barrierExpiry i s) := by
  unfold Machine.barrierExpiry
  split
  · split
    · split
      · next k hk =>
        have hdrop := h.dropHold hk .fault (Lane.toFault .openTimeout)
        exact (hdrop.frames (post_recent (.laneFault i .openTimeout) _) (post_lanes ..)).voidReport i
      · next hk => exact h.faultLane hk _
    · next hs => exact h.faultLane (ho.none_of_state hs (by simp)) _
    · exact h
  · exact h

theorem ListLaw.passageExpiry (h : ListLaw s) (i : LaneIx) : ListLaw (passageExpiry i s) := by
  unfold Machine.passageExpiry
  split
  · split
    · split
      · next k hk => exact h.voidHold hk ..
      · next hk => exact h.turn hk rfl
    · exact h.setLane rfl rfl
  · exact h

theorem ListLaw.clearExpiry (h : ListLaw s) (ho : Owing none s) (i : LaneIx) : ListLaw (clearExpiry i s) := by
  unfold Machine.clearExpiry
  split
  · next hs =>
    split
    · exact h.startClosing rfl rfl
    · exact h.turn (ho.none_of_state hs.1 (by simp)) rfl
    · exact h
  · exact h

/-! ### Service and egress (R41 to R43, R187, R189) -/

theorem ListLaw.laneAtStart (h : ListLaw s) (ho : Owing none s) (i : LaneIx) : ListLaw (laneAtStart s i) := by
  unfold Machine.laneAtStart
  split
  · next hs =>
    have hn := ho.none_of_state hs.2 (by simp)
    split
    · exact h.faultLane hn _
    · exact h.idle_lane (by simp) (changeLane_lanes ..) hn hn
  · exact h

theorem ListLaw.laneToEgress (h : ListLaw s) (i : LaneIx) : ListLaw (laneToEgress s i) := by
  unfold Machine.laneToEgress
  split
  · split
    · next k hk => exact h.voidHold hk ..
    · next hk => exact h.turn hk rfl
  · exact h

theorem ListLaw.laneFromEgress (h : ListLaw s) (ho : Owing none s) (i : LaneIx) : ListLaw (laneFromEgress s i) := by
  unfold Machine.laneFromEgress
  split
  · next hs => exact h.turn (ho.none_of_state hs (by simp)) rfl
  · exact h

theorem ListLaw.setPontoon (h : ListLaw s) (st : PontoonState) (ret : Option PontoonState) (c : PontoonCause) :
    ListLaw (setPontoon st ret c s) :=
  h.frames (by simp) (by simp)

theorem ListLaw.post (h : ListLaw s) (n : Notice) : ListLaw (post n s) := h.frames (by simp) (by simp)

theorem ListLaw.enterEgress (h : ListLaw s) (changed : Option EgressCause) : ListLaw (enterEgress changed s) := by
  unfold Machine.enterEgress
  exact foldl_lanes (P := ListLaw) ListLaw.laneToEgress (h.frames (by simp) (by simp))

/-- A fold over the lanes whose turns keep the law of the holds, and with it that of the list. -/
theorem ListLaw.fold_of_owing {f : State → LaneIx → State} (h : ListLaw s) (ho : Owing none s)
    (hfo : ∀ {u}, Owing none u → ∀ i, Owing none (f u i)) (hf : ∀ {u}, ListLaw u → Owing none u → ∀ i, ListLaw (f u i)) :
    ListLaw (allLanes.foldl f s) :=
  (foldl_lanes (P := fun u => ListLaw u ∧ Owing none u) (fun hu i => ⟨hf hu.1 hu.2 i, hfo hu.2 i⟩) ⟨h, ho⟩).1

theorem ListLaw.leaveEgress (h : ListLaw s) (ho : Owing none s) (c : EgressCause) : ListLaw (leaveEgress c s) := by
  unfold Machine.leaveEgress
  exact ListLaw.fold_of_owing (h.frames (by simp) (by simp)) ((ho.setPontoon ..).post _) Owing.laneFromEgress ListLaw.laneFromEgress

theorem ListLaw.demandEvent (h : ListLaw s) (ho : Owing none s) (before : Bool) (c : EgressCause) :
    ListLaw (demandEvent before c s) := by
  unfold Machine.demandEvent
  split
  · exact h
  · split
    · split
      · exact h.enterEgress _
      · exact h.enterEgress _
      · exact h.post _
    · split
      · exact h.leaveEgress ho _
      · exact h.post _

theorem ListLaw.setLatch (h : ListLaw s) (ho : Owing none s) (v : Bool) : ListLaw (setLatch v s) :=
  ListLaw.demandEvent (h.frames (u := { s with supervisor := { s.supervisor with latch := v } }) rfl rfl) (ho.frames rfl rfl) _ _

theorem ListLaw.lineAccepted (h : ListLaw s) (ho : Owing none s) : ListLaw (lineAccepted s) := by
  unfold Machine.lineAccepted
  split
  · exact ListLaw.demandEvent (h.frames (u := { s with supervisor := { s.supervisor with
      line := ⟨s.supervisor.line.raw, s.supervisor.line.raw, none⟩ } }) rfl rfl) (ho.frames rfl rfl) _ _
  · exact h

/-! ### Requests that find no hold (R182, R185, R191) -/

/-- No lane holds a hold. -/
def State.Holdless (s : State) : Prop := ∀ j, (s.lane j).hold = none

theorem Holdless.set {l : Lane} (h : s.Holdless) (hl : u.lanes = s.lanes.set i l) (hn : l.hold = none) : u.Holdless := fun j => by
  by_cases hj : j = i
  · rw [hj, lane_of_set hl, hn]
  · rw [lane_of_set_other hl hj, h j]

theorem setupLane_holdless (h : s.Holdless) (wasPresent : Nat) (r : SetupRequest) (i : LaneIx) :
    (setupLane wasPresent r s i).Holdless :=
  Holdless.set h (setupLane_lanes ..) (setUp_hold (h i))

theorem laneAtStop_holdless (h : s.Holdless) (i : LaneIx) : (laneAtStop s i).Holdless := by
  refine Holdless.set h (laneAtStop_lanes ..) ?_
  split
  · rfl
  · exact h i

theorem laneAtRestart_holdless (h : s.Holdless) (i : LaneIx) : (laneAtRestart s i).Holdless := by
  refine Holdless.set h (changeLane_lanes ..) ?_
  show (s.lane i).offIfFault.hold = none
  unfold Lane.offIfFault
  split
  · rfl
  · exact h i

theorem ListLaw.ownSetup (h : ListLaw s) (ho : Owing none s) (hv : ServiceLaw s) (r : SetupRequest) : ListLaw (ownSetup r s).1 := by
  unfold Machine.ownSetup
  split
  · exact h
  · next hidle =>
    split
    · exact h
    · dsimp only
      have hs : s.Holdless := ho.holdless (vacant_of_idle hidle hv)
      have hset : ListLaw (allLanes.foldl (setupLane s.supervisor.setup.lanesPresent r)
          { s with supervisor := { s.supervisor with setup := setupValues r } }) :=
        h.holdless (by simp) hs (foldl_lanes (P := State.Holdless) (fun hu i => setupLane_holdless hu _ r i) hs)
      generalize allLanes.foldl (setupLane s.supervisor.setup.lanesPresent r)
        { s with supervisor := { s.supervisor with setup := setupValues r } } = u at hset ⊢
      have hout : ListLaw (if decide (s.supervisor.state = .config) = true then Machine.setPontoon .outOfService none .setup u else u) := by
        split
        · exact hset.setPontoon ..
        · exact hset
      generalize (if decide (s.supervisor.state = .config) = true then Machine.setPontoon .outOfService none .setup u else u) = v
        at hout ⊢
      have hwindow : ListLaw (if (setupValues r).markWindow = s.supervisor.setup.markWindow then v else windowExpiry v) := by
        split
        · exact hout
        · exact hout.frames (by simp) (by simp)
      generalize (if (setupValues r).markWindow = s.supervisor.setup.markWindow then v else windowExpiry v) = w at hwindow ⊢
      split
      · exact hwindow.enterEgress none
      · exact hwindow

theorem ListLaw.ownServiceStop (h : ListLaw s) (ho : Owing none s) (hv : ServiceLaw s) : ListLaw (ownServiceStop s).1 := by
  unfold Machine.ownServiceStop
  split
  · exact h
  · split
    · exact h
    · next hactive =>
      have hs : s.Holdless := ho.holdless (vacant_of_inactive (not_not.mp hactive) hv)
      have hstopped : (Machine.setPontoon .outOfService none .stop s).Holdless := fun j => by
        rw [lane_congr (setPontoon_lanes ..)]
        exact hs j
      dsimp only
      exact h.holdless (by simp) hs (foldl_lanes (P := State.Holdless) laneAtStop_holdless hstopped)

theorem ListLaw.ownRestart (h : ListLaw s) (ho : Owing none s) (hv : ServiceLaw s) : ListLaw (ownRestart s).1 := by
  unfold Machine.ownRestart
  split
  · exact h
  · next hidle =>
    have hs : s.Holdless := ho.holdless (vacant_of_idle hidle hv)
    have hlanes : ListLaw (allLanes.foldl laneAtRestart
        { s with link := { s.link with queue := [], lost := 0, stats := LinkStats.zero }, recent := [] }) :=
      .of_empty (by simp) (foldl_lanes (P := State.Holdless) laneAtRestart_holdless hs)
    dsimp only
    exact hlanes.frames (by simp) (by simp)

/-! ### Service start and the lane requests (R39, R41, R45) -/

theorem Owing.applyFreeRun (h : Owing none s) (freeRun : Option ServiceTime) : Owing none (applyFreeRun freeRun s) := by
  unfold Machine.applyFreeRun
  split
  · exact h
  · split
    · exact h.freeRunStart _
    · exact h

theorem ListLaw.ownServiceStart (h : ListLaw s) (ho : Owing none s) (freeRun : Option ServiceTime) :
    ListLaw (ownServiceStart freeRun s).1 := by
  have hstarted : ListLaw (allLanes.foldl Machine.laneAtStart (Machine.setPontoon .inService none .start (applyFreeRun freeRun s))) :=
    ListLaw.fold_of_owing (h.frames (by simp) (by simp)) ((ho.applyFreeRun freeRun).setPontoon ..) Owing.laneAtStart ListLaw.laneAtStart
  unfold Machine.ownServiceStart
  split
  · exact h
  · split
    · exact h
    · split
      · exact h
      · split
        · exact h
        · dsimp only
          exact hstarted

theorem ListLaw.ownLaneAssign (h : ListLaw s) (ho : Owing none s) (n : Nat) (b : Option Nat) : ListLaw (ownLaneAssign n b s).1 := by
  refine atLane_keeps h fun i _ => ?_
  split
  · exact h
  · next b _ =>
    split
    · exact h
    · next hs =>
      have hn : (s.lane i).hold = none := ho.hold_none (by rintro (he | he) <;> simp [he, LaneState.busy] at hs)
      unfold assignLane
      dsimp only
      split
      · exact h
      · exact h.idle_lane (by simp) ((settleOpt_lanes ..).trans ((settleOpt_lanes ..).trans (changeLane_lanes ..))) hn hn

theorem ListLaw.ownLaneReturn (h : ListLaw s) (n : Nat) : ListLaw (ownLaneReturn n s).1 := by
  refine atLane_keeps h fun i _ => ?_
  split
  · exact h
  · exact h.startClosing rfl rfl

/-! ### Admissions (R30, R93, R101) -/

/-- A card with a HELD entry is refused (R93). -/
theorem judgeCard_refuses_of_held (i : LaneIx) (b : BerthIx) (t : Trip) {c : Credential} {e : Entry}
    (he : heldEntry c.card s.recent = some e) : ∃ r slot d, judgeCard s i b t c = .refuse r slot d := by
  rw [judgeCard_eq, he]
  split
  · exact ⟨_, _, _, rfl⟩
  · split
    · exact ⟨_, _, _, rfl⟩
    · split
      · exact ⟨_, _, _, rfl⟩
      · exact ⟨_, _, _, rfl⟩

/-- A grant at a CLOSED lane to a card that has no HELD entry. -/
theorem ListLaw.applyGrant (h : ListLaw s) (ho : Owing none s) {b : BerthIx} (hs : (s.lane i).state = .closed)
    (hb : (s.lane i).berth = some b) {card : Nat} (hheld : heldEntry card s.recent = none) (ref : Nat) (kind : AdmissionKind)
    (charge : Nat) (exhausted : Option Notice) : ListLaw (applyGrant i b ref card kind charge exhausted s) := by
  refine h.joins (e := ⟨card, ref, b, i, .held, charge, kind, s.runTime, s.runTime⟩)
    ((applyGrant_lanes ..).trans (takeHold_lanes ..)) (by simp [Machine.applyGrant]) (ho.none_of_state hs (by simp)) ?_ ?_ rfl rfl
    fun x hx hxc => ?_
  · split <;> rfl
  · split <;> exact hb
  · simpa [hxc] using List.find?_eq_none.mp hheld x hx

theorem ListLaw.applyRefusal (h : ListLaw s) (lane : Nat) : ListLaw (applyRefusal lane s) := h.frames (by simp) (by simp)

theorem ListLaw.ownPresent (h : ListLaw s) (ho : Owing none s) (lane : Nat) (c : Credential) : ListLaw (ownPresent lane c s).1 := by
  unfold Machine.ownPresent
  rcases judge_cases s lane c with ⟨r, hj⟩ | ⟨i, b, t, -, hb, hs, -, -, hj⟩
  · rw [hj]
    exact h.applyRefusal lane
  · rw [hj]
    cases hheld : heldEntry c.card s.recent with
    | some e =>
      obtain ⟨r, slot, d, hc⟩ := judgeCard_refuses_of_held i b t hheld
      rw [hc]
      exact h.applyRefusal lane
    | none =>
      rcases judgeCard_cases s i b t c with ⟨r, slot, d, hc⟩ | ⟨d, hc⟩ | ⟨x, g, p, pay, hc⟩ <;> rw [hc]
      · exact h.applyRefusal lane
      · exact h.applyGrant ho hs hb hheld ..
      · exact h.applyGrant ho hs hb hheld ..

/-- Every request keeps the law of the list. -/
theorem ListLaw.owner (h : ListLaw s) (ho : Owing none s) (hv : ServiceLaw s) (q : Request) : ListLaw (owner q s).1 := by
  cases q with
  | setup r => exact h.ownSetup ho hv r
  | serviceStart t => exact h.ownServiceStart ho t
  | serviceStop => exact h.ownServiceStop ho hv
  | egressBegin =>
    unfold Machine.owner ownEgressBegin egressReply
    dsimp only
    split
    · exact h
    · exact h.setLatch ho true
  | egressEnd =>
    unfold Machine.owner ownEgressEnd egressReply
    dsimp only
    split
    · exact h.setLatch ho false
    · exact h
  | restart => exact h.ownRestart ho hv
  | laneAssign n b => exact h.ownLaneAssign ho n b
  | laneReturn n => exact h.ownLaneReturn n
  | present n c => exact h.ownPresent ho n c
  | _ => exact h.frames (by simp [Machine.owner]) (by simp [Machine.owner])

end

end Sys2Proof.Machine
end

section
/-! SUPPORT. What a step makes of the state through the Link Controller: changes of the link alone and the acts of the requests' owners.
With them the law of the Recent Admission List is kept by every step (R104, R105). -/

namespace Sys2Proof.Machine

open Sys2Proof

/-! ### The Link Controller's part of an event (R196, R197, R207) -/

/-- A change of the link alone, or the act of an owner on a request whose length agrees. -/
inductive LinkAct : State → State → Prop
  | link (s : State) (f : Link → Link) : LinkAct s (s.changeLink f)
  | owner {q : Request} (s : State) : lengthFault q = none → LinkAct s (owner q s).1

/-- A chain of such acts. -/
def LinkActs (s u : State) : Prop := Relation.ReflTransGen LinkAct s u

section
variable {s t u : State}

theorem LinkActs.refl (s : State) : LinkActs s s := Relation.ReflTransGen.refl

theorem LinkActs.act (h : LinkActs s u) (ha : LinkAct u t) : LinkActs s t := Relation.ReflTransGen.tail h ha

/-- A claim that each act keeps is kept by a chain. -/
theorem LinkActs.keep {P : State → Prop} (hl : ∀ {s} f, P s → P (s.changeLink f))
    (ho : ∀ {s q}, lengthFault q = none → P s → P (owner q s).1) (h : LinkActs s u) (hs : P s) : P u := by
  induction h with
  | refl => exact hs
  | tail _ hact ih =>
    cases hact with
    | link _ f => exact hl f ih
    | owner _ hq => exact ho hq ih

theorem LinkActs.link (h : LinkActs s u) (f : Link → Link) : LinkActs s (u.changeLink f) := h.act (.link u f)

theorem LinkActs.takeRequest (h : LinkActs s u) (q : RequestFrame) : LinkActs s (takeRequest q u) := by
  have htaken : LinkActs s (countTaken u) := by
    unfold countTaken State.count
    exact h.link _
  unfold Machine.takeRequest judgeRequest
  refine LinkActs.link ?_ _
  split
  · exact htaken
  · next hq => exact htaken.act (.owner _ hq)

theorem LinkActs.completeRequest (h : LinkActs s u) (q : RequestFrame) : LinkActs s (completeRequest q u) := by
  unfold Machine.completeRequest
  split
  · exact h.link _
  · split
    · exact h.link _
    · exact h.takeRequest q

theorem LinkActs.endOfEvent (h : LinkActs s u) : LinkActs s (endOfEvent u) := by
  unfold Machine.endOfEvent arbitrate startAnswer
  dsimp only
  split
  · split
    · split
      · exact h.link _
      · exact ((h.link _).link _).takeRequest _
    · split
      · exact h
      · exact h.link _
  · exact h

theorem LinkActs.discardFrame (h : LinkActs s u) : LinkActs s (discardFrame u) := by
  unfold Machine.discardFrame State.count State.setFramer
  exact (h.link _).link _

theorem LinkActs.frameGap (h : LinkActs s u) : LinkActs s (frameGap u) := by
  unfold Machine.frameGap
  split
  · exact h.discardFrame
  · exact h

theorem LinkActs.transmitEnd (h : LinkActs s u) : LinkActs s (transmitEnd u) := by
  unfold Machine.transmitEnd
  split
  · exact h
  · exact h.link _

theorem LinkActs.frameByte (h : LinkActs s u) (b : Byte) : LinkActs s (frameByte b u) := by
  have hidle : LinkActs s (u.setFramer Framer.idle) := h.link _
  unfold Machine.frameByte frameWhole
  dsimp only
  split
  · exact h.discardFrame
  · split
    · split
      · exact hidle.completeRequest _
      · exact hidle.link _
    · exact h.link _

theorem LinkActs.receive (h : LinkActs s u) (c : Character) : LinkActs s (receive c u) := by
  have hgap := h.frameGap
  unfold Machine.receive huntCharacter
  dsimp only
  split
  · split <;> exact hgap.link _
  · split
    · exact hgap.discardFrame
    · exact hgap.frameByte _

/-! ### The commands -/

/-- What a command does before the Link Controller's part of its event. -/
def fieldAct (c : Instr) (s : State) : State :=
  match c with
  | .powerOnReset pins => powerOnReset pins s
  | .beamRawChange i a b => beamRaw i a b s
  | .beamAcceptedChange i => beamAccepted i s
  | .barrierSenseChange i o => senseChange i o s
  | .barrierTimerExpiry i => barrierExpiry i s
  | .passageTimerExpiry i => passageExpiry i s
  | .clearTimerExpiry i => clearExpiry i s
  | .lampPulseEnd i => pulseEnd i s
  | .serviceTimeAdvance => serviceAdvance s
  | .markWindowExpiry => windowExpiry s
  | .emergencyLineRawChange a => lineRaw a s
  | .emergencyLineAcceptedChange => lineAccepted s
  | _ => s

/-- A command is its act in the field, then what the Link Controller makes of the event. -/
theorem exec_linkActs {c : Instr} (h : exec c s = .next t) : LinkActs (fieldAct c s) t := by
  cases c
  all_goals obtain rfl := Host.Outcome.next.inj h
  case powerOnReset pins => exact .refl _
  case receivedCharacter c => exact ((LinkActs.refl s).receive c).endOfEvent
  case frameGapTimeout => exact (LinkActs.refl s).frameGap.endOfEvent
  case transmitFrameEnd => exact (LinkActs.refl s).transmitEnd.endOfEvent
  case beamRawChange | beamAcceptedChange | barrierSenseChange | barrierTimerExpiry | passageTimerExpiry | clearTimerExpiry |
      lampPulseEnd | serviceTimeAdvance | markWindowExpiry | emergencyLineRawChange | emergencyLineAcceptedChange =>
    exact (LinkActs.refl _).endOfEvent
  all_goals exact ((LinkActs.refl s).completeRequest _).endOfEvent

/-! ### The law of the list at every step (R104, R105) -/

/-- The law of the list with that of the holds and the claims about trips that its steps need. -/
structure Listed (s : State) : Prop where
  settled : Settled s
  law : ListLaw s

theorem Listed.frames (h : Listed s) (hl : u.lanes = s.lanes) (hb : u.berths = s.berths) (hj : u.journal = s.journal)
    (hv : u.supervisor = s.supervisor) (hr : u.recent = s.recent) : Listed u :=
  ⟨settled_rules.frames hl hb hj hv h.settled, h.law.frames hr hl⟩

theorem Listed.fieldAct (h : Listed s) (c : Instr) : Listed (fieldAct c s) := by
  have ho := h.settled.owing
  cases c
  case powerOnReset pins => exact ⟨settled_rules.powerOnReset .., .of_empty rfl fun i => by fin_cases i <;> rfl⟩
  case beamRawChange i a b => exact ⟨settled_rules.beamRaw i a b h.settled, h.law.beamRaw i a b⟩
  case beamAcceptedChange i => exact ⟨settled_rules.beamAccepted i h.settled, h.law.beamAccepted i⟩
  case barrierSenseChange i o => exact ⟨settled_rules.senseChange i o h.settled, h.law.senseChange ho i o⟩
  case barrierTimerExpiry i => exact ⟨settled_rules.barrierExpiry i h.settled, h.law.barrierExpiry ho i⟩
  case passageTimerExpiry i => exact ⟨settled_rules.passageExpiry i h.settled, h.law.passageExpiry i⟩
  case clearTimerExpiry i => exact ⟨settled_rules.clearExpiry i h.settled, h.law.clearExpiry ho i⟩
  case lampPulseEnd i =>
    exact h.frames (pulseEnd_lanes ..) (pulseEnd_berths ..) (pulseEnd_journal ..) (pulseEnd_supervisor ..) (pulseEnd_recent ..)
  case serviceTimeAdvance =>
    exact ⟨settled_rules.serviceAdvance h.settled, h.law.frames (serviceAdvance_recent _) (serviceAdvance_lanes _)⟩
  case markWindowExpiry =>
    exact h.frames (windowExpiry_lanes _) (windowExpiry_berths _) (windowExpiry_journal _) (windowExpiry_supervisor _)
      (windowExpiry_recent _)
  case emergencyLineRawChange a => exact ⟨settled_rules.lineRaw a h.settled, h.law.frames (lineRaw_recent ..) (lineRaw_lanes ..)⟩
  case emergencyLineAcceptedChange => exact ⟨settled_rules.lineAccepted h.settled, h.law.lineAccepted ho⟩
  all_goals exact h

theorem Listed.linkActs (h : Listed s) (hu : LinkActs s u) : Listed u :=
  hu.keep (fun _ hs => hs.frames rfl rfl rfl rfl rfl)
    (fun hq hs => ⟨settled_rules.owner hq hs.settled, hs.law.owner hs.settled.owing hs.settled.service _⟩) h

theorem Listed.step (h : Listed s) (hs : step s = .next t) : Listed t := by
  unfold Machine.step at hs
  split at hs
  · obtain rfl := Host.Outcome.next.inj hs
    exact h.frames (by simp [tick]) (by simp [tick]) (by simp [tick]) (by simp [tick]) (by simp [tick])
  · next c rest _ =>
    have hrest : Listed { s with pending := rest } := h.frames rfl rfl rfl rfl rfl
    exact (hrest.fieldAct c).linkActs (exec_linkActs hs)

/-- The number of HELD entries is the number of holds of the four berths (R105). -/
theorem heldCount_eq_holds (h : ListLaw s) (hh : HoldLaw s) (hl : LaneLaw s) :
    s.heldCount = holdsOf (s.berth 0) + holdsOf (s.berth 1) + holdsOf (s.berth 2) + holdsOf (s.berth 3) := by
  have ho := Owing.of_laws hh hl
  obtain ⟨hcounts, -⟩ := hh
  rw [h.heldCount_eq, countP_holds fun i hi => (ho.placed i hi).2]
  simp only [hcounts, lanesHolding_eq]

/-- Settles O53: each act in the field and each owner keeps the law of the list (`Listed.fieldAct`, `ListLaw.owner`), as a hold that ends
marks its entry (`ListLaw.ends`) and an admission joins the list at a lane without a hold (`ListLaw.joins`). The HELD entries name the lanes
that hold, each once (`ListLaw.heldLanes_perm`), and these are counted by berth (`heldCount_eq_holds`). -/
theorem recentListAgreesWithTheHolds : Obligations.RecentListAgreesWithTheHolds := by
  refine ⟨fun s t h hh hl hv _ hj hs => ?_, fun s h hh hl => ?_⟩
  · obtain ⟨-, -, -, hrecords⟩ := hj
    have hrecorded : Holds Recorded (fun _ => True) s := ⟨fun b t ht hr => (hrecords b t ht).2.mpr hr, fun _ _ => trivial⟩
    exact (Listed.step ⟨⟨.of_laws hh hl, hv, hrecorded⟩, h⟩ hs).law
  · have ⟨hlen, hpair, hone, _, _⟩ := h
    exact ⟨hlen, hpair, hone, heldCount_eq_holds h hh hl, h.heldCount_le⟩

end

end Sys2Proof.Machine
end

section
/-! SUPPORT. What the operations of the Tariff Store and the triggers of the clock make of the store (R135, R139, R140, R142, R157). -/

namespace Sys2Proof.Machine

open Sys2Proof

section
variable {s u v : State}

/-! ### Completing and cancelling a switch (R140, R142) -/

@[simp] theorem completeSwitch_tariff (set : TariffSet) (s : State) :
    (completeSwitch set s).tariff = ⟨some set, StagedSet.empty, none⟩ := by simp [completeSwitch]

@[simp] theorem cancelSwitch_tariff (c : CancelCause) (s : State) :
    (cancelSwitch c s).tariff = { s.tariff with pendingSwitch := none } := by
  unfold cancelSwitch
  split
  · next h => rw [← h]
  · simp

/-! ### The effective-time trigger (R139) -/

theorem switchDue_eq_false : s.switchDue = false ↔
    ∀ p now, s.tariff.pendingSwitch = some p → s.clock.time = some now → absSecond now < absSecond p.effective := by
  unfold State.switchDue
  cases s.tariff.pendingSwitch <;> cases s.clock.time <;> simp

theorem effectiveTrigger_of_not_due (h : s.switchDue = false) : effectiveTrigger s = s := by simp [effectiveTrigger, h]

theorem effectiveTrigger_of_due {set : TariffSet} (h : s.switchDue = true) (hset : s.tariff.staged.complete? = some set) :
    effectiveTrigger s = completeSwitch set s := by simp [effectiveTrigger, h, hset]

theorem effectiveTrigger_tariff_congr (ht : u.tariff = s.tariff) (hc : u.clock = s.clock) :
    (effectiveTrigger u).tariff = (effectiveTrigger s).tariff := by
  have hdue : u.switchDue = s.switchDue := by simp only [State.switchDue, ht, hc]
  unfold effectiveTrigger
  rw [hdue, ht]
  split
  · split <;> simp [ht]
  · exact ht

/-- A test that follows another finds nothing more to do. -/
theorem effectiveTrigger_tariff_idem (s : State) : (effectiveTrigger (effectiveTrigger s)).tariff = (effectiveTrigger s).tariff := by
  cases hdue : s.switchDue with
  | false => rw [effectiveTrigger_of_not_due hdue, effectiveTrigger_of_not_due hdue]
  | true =>
    cases hset : s.tariff.staged.complete? with
    | none =>
      have hs : effectiveTrigger s = s := by simp [effectiveTrigger, hset]
      rw [hs, hs]
    | some set =>
      rw [effectiveTrigger_of_due hdue hset, effectiveTrigger_of_not_due (switchDue_eq_false.2 fun p _ hp => ?_)]
      simp at hp

/-! ### The triggers of the clock (R157) -/

theorem tariff_mem_triggerTasks (s : State) : .tariff ∈ s.triggerTasks ↔ s.switchDue = true := by
  simp [State.triggerTasks]

/-- Among the owners' tests only the tariff's acts on the store, and once is enough. -/
theorem foldl_runTask_tariff (tasks : List TriggerTask) (s : State) :
    (tasks.foldl runTask s).tariff = if .tariff ∈ tasks then (effectiveTrigger s).tariff else s.tariff := by
  induction tasks generalizing s with
  | nil => rfl
  | cons task tasks ih =>
    rw [List.foldl_cons, ih]
    cases task with
    | berth b =>
      have hkept : (runTask s (.berth b)).tariff = s.tariff := closeAtDeparture_tariff b s
      rw [effectiveTrigger_tariff_congr hkept (runTask_clock ..), hkept]
      simp
    | tariff => simp [runTask, effectiveTrigger_tariff_idem]

theorem giveTrigger_tariff (s : State) : (giveTrigger s).tariff = (effectiveTrigger s).tariff := by
  rw [giveTrigger_eq, foldl_runTask_tariff]
  simp only [mem_freeOrder, tariff_mem_triggerTasks]
  split
  · exact effectiveTrigger_tariff_congr (freeOrder_tariff ..) (freeOrder_clock ..)
  · next h => rw [effectiveTrigger_of_not_due (by simpa using h), freeOrder_tariff]

/-! ### The time state (R153) -/

@[simp] theorem setTimeState_state (st : TimeState) (c : TimeCause) (s : State) : (setTimeState st c s).clock.state = st := by
  unfold setTimeState
  split
  · assumption
  · simp

/-! ### The law of a pending switch (R136, R138, R139) -/

/-- What a pending switch asks for beside its effective time: SYNCED with an active set, and a complete staged set of its generation. -/
def SwitchReady (s : State) : Prop :=
  ∀ p, s.tariff.pendingSwitch = some p →
    s.clock.state = .synced ∧ s.tariff.active ≠ none ∧
    ∃ set, s.tariff.staged.complete? = some set ∧ set.fares.generation = p.generation ∧ set.fares.generation ≠ s.activeGeneration

/-- The law is that the switch is ready and its effective-time test would not fire. -/
theorem tariffLaw_iff : TariffLaw s ↔ SwitchReady s ∧ s.switchDue = false := by
  rw [switchDue_eq_false]
  constructor
  · intro h
    refine ⟨fun p hp => ?_, fun p now hp hn => ?_⟩ <;> obtain ⟨hstate, hactive, hset, hahead⟩ := h p hp
    · exact ⟨hstate, hactive, hset⟩
    · exact hahead now hn
  · rintro ⟨hready, hahead⟩ p hp
    obtain ⟨hstate, hactive, hset⟩ := hready p hp
    exact ⟨hstate, hactive, hset, fun now => hahead p now hp⟩

theorem TariffLaw.ready (h : TariffLaw s) : SwitchReady s := (tariffLaw_iff.1 h).1

theorem TariffLaw.of_none (h : s.tariff.pendingSwitch = none) : TariffLaw s := fun p hp => by simp [h] at hp

theorem SwitchReady.congr (h : SwitchReady s) (ht : u.tariff = s.tariff)
    (hs : s.clock.state = .synced → u.clock.state = .synced) : SwitchReady u := fun p hp => by
  obtain ⟨hstate, hactive, hset⟩ := h p (ht ▸ hp)
  exact ⟨hs hstate, ht ▸ hactive, by simpa [State.activeGeneration, ht] using hset⟩

theorem TariffLaw.congr (h : TariffLaw s) (ht : u.tariff = s.tariff) (hs : u.clock.state = s.clock.state)
    (hn : u.clock.time = s.clock.time) : TariffLaw u := by
  rw [tariffLaw_iff] at h ⊢
  exact ⟨h.1.congr ht fun e => hs.trans e, by simpa only [State.switchDue, ht, hn] using h.2⟩

/-! ### What an act can make of the store -/

/-- An act leaves the active set with the law kept, or makes the complete staged set active as a whole, the store then holding no other
set and no switch (R132, R140); a set that replaces another does so in SYNCED. -/
inductive TariffGives (s u : State) : Prop
  | stays : u.tariff.active = s.tariff.active → TariffLaw u → TariffGives s u
  | switched (set : TariffSet) : s.tariff.staged.complete? = some set → u.tariff = ⟨some set, StagedSet.empty, none⟩ →
      (s.tariff.active ≠ none → u.clock.state = .synced) → TariffGives s u

theorem TariffGives.law (h : TariffGives s u) : TariffLaw u := by
  cases h with
  | stays _ hlaw => exact hlaw
  | switched _ _ hswitched => exact .of_none (by rw [hswitched])

/-- Only the active and the staged set before an act count. -/
theorem TariffGives.before (h : TariffGives v u) (ha : v.tariff.active = s.tariff.active) (hg : v.tariff.staged = s.tariff.staged) :
    TariffGives s u := by
  cases h with
  | stays hactive hlaw => exact .stays (hactive.trans ha) hlaw
  | switched set hset ht hs => exact .switched set (hg ▸ hset) ht (ha ▸ hs)

/-- What changes neither the store nor the clock may follow. -/
theorem TariffGives.after (h : TariffGives s v) (ht : u.tariff = v.tariff) (hc : u.clock = v.clock) : TariffGives s u := by
  cases h with
  | stays hactive hlaw => exact .stays (ht ▸ hactive) (hlaw.congr ht (hc ▸ rfl) (hc ▸ rfl))
  | switched set hset hswitched hs => exact .switched set hset (ht.trans hswitched) (hc ▸ hs)

theorem TariffLaw.gives (h : TariffLaw s) (ht : u.tariff = s.tariff) (hc : u.clock = s.clock) : TariffGives s u :=
  .stays (ht ▸ rfl) (h.congr ht (hc ▸ rfl) (hc ▸ rfl))

/-- A switch that is ready completes when its effective time is reached, and stands ahead otherwise (R139). -/
theorem SwitchReady.effectiveTrigger_gives (h : SwitchReady s) : TariffGives s (effectiveTrigger s) := by
  cases hdue : s.switchDue with
  | false =>
    rw [effectiveTrigger_of_not_due hdue]
    exact .stays rfl (tariffLaw_iff.2 ⟨h, hdue⟩)
  | true =>
    obtain ⟨p, hp⟩ : ∃ p, s.tariff.pendingSwitch = some p := Option.ne_none_iff_exists'.1 fun hn => by
      simp [State.switchDue, hn] at hdue
    obtain ⟨hstate, -, set, hset, -⟩ := h p hp
    rw [effectiveTrigger_of_due hdue hset]
    exact .switched set hset (completeSwitch_tariff ..) fun _ => by rwa [completeSwitch_clock]

/-- A setting or an advance of service time is followed by the trigger (R157). -/
theorem SwitchReady.giveTrigger_gives (h : SwitchReady s) : TariffGives s (giveTrigger s) :=
  h.effectiveTrigger_gives.after (giveTrigger_tariff s) (by simp)

theorem TariffLaw.giveTrigger_gives (h : TariffLaw s) (ht : u.tariff = s.tariff)
    (hs : s.clock.state = .synced → u.clock.state = .synced) : TariffGives s (giveTrigger u) :=
  (h.ready.congr ht hs).giveTrigger_gives.before (ht ▸ rfl) (ht ▸ rfl)

/-! ### Service time (R149, R151, R154, R156) -/

theorem TariffLaw.serviceAdvance_gives (h : TariffLaw s) : TariffGives s (serviceAdvance s) := by
  unfold serviceAdvance
  dsimp only
  split
  · split
    · exact .stays rfl (h.congr rfl rfl rfl)
    · split
      · exact .stays rfl (h.congr rfl rfl rfl)
      · exact h.giveTrigger_gives rfl id
  · exact h.gives rfl rfl

theorem TariffLaw.windowExpiry_gives (h : TariffLaw s) : TariffGives s (windowExpiry s) := by
  unfold windowExpiry
  split
  · exact .stays (by simp) (.of_none (by simp))
  · exact h.gives rfl rfl

theorem TariffLaw.freeRunStart_gives (h : TariffLaw s) (t : ServiceTime) : TariffGives s (freeRunStart t s) := by
  unfold freeRunStart
  split
  · exact h.gives rfl rfl
  · next hu => exact h.giveTrigger_gives (by simp) (by simp [hu])
  · next hd _ => exact h.giveTrigger_gives (by simp) (by simp [hd])
  · next hd _ =>
    split
    · exact h.giveTrigger_gives (by simp) (by simp [hd])
    · exact h.gives rfl rfl

theorem TariffLaw.ownTimeMark_gives (h : TariffLaw s) (t : ServiceTime) : TariffGives s (ownTimeMark t s).1 := by
  unfold ownTimeMark
  dsimp only
  split
  · exact h.gives rfl rfl
  · exact h.giveTrigger_gives (by simp) fun _ => by simp

/-! ### The requests of the Tariff Store (R134 to R138, R142) -/

theorem TariffLaw.ownTariffLoad_gives (h : TariffLaw s) (n : Nat) (c : SegmentContents) : TariffGives s (ownTariffLoad n c s).1 := by
  unfold ownTariffLoad
  dsimp only
  split
  · exact h.gives rfl rfl
  · split
    · exact h.gives rfl rfl
    · next hp =>
      split
      · exact h.gives rfl rfl
      · exact .stays rfl (.of_none (by simpa using hp))

theorem TariffLaw.ownTariffClear_gives (h : TariffLaw s) : TariffGives s (ownTariffClear s).1 := by
  unfold ownTariffClear
  split
  · exact h.gives rfl rfl
  · next hp =>
    split
    · exact h.gives rfl rfl
    · exact .stays rfl (.of_none (by simpa using hp))

theorem TariffLaw.armSwitch_gives (h : TariffLaw s) {set : TariffSet} (hset : s.tariff.staged.complete? = some set)
    (ha : s.tariff.active ≠ none) (hne : set.fares.generation ≠ s.activeGeneration) (hs : s.clock.state = .synced)
    (e : Option ServiceTime) : TariffGives s (armSwitch set e s) := by
  unfold armSwitch
  split
  · exact h.gives rfl rfl
  · refine (SwitchReady.effectiveTrigger_gives fun p hp => ?_).before rfl rfl
    cases hp
    exact ⟨hs, ha, set, hset, rfl, hne⟩

theorem TariffLaw.ownTariffCommit_gives (h : TariffLaw s) (g : Nat) (e : Option ServiceTime) :
    TariffGives s (ownTariffCommit g e s).1 := by
  unfold ownTariffCommit commitReply
  split
  · exact h.gives rfl rfl
  · split
    · exact h.gives rfl rfl
    · next set hset =>
      split
      · exact h.gives rfl rfl
      · split
        · next hfirst => exact .switched set hset (by simp) fun ha => absurd hfirst ha
        · next ha =>
          split
          · exact h.gives rfl rfl
          · next hne =>
            split
            · exact h.gives rfl rfl
            · next hs => exact h.armSwitch_gives hset ha hne (not_not.1 hs) e

theorem TariffLaw.ownTariffCancel_gives (h : TariffLaw s) : TariffGives s (ownTariffCancel s).1 := by
  unfold ownTariffCancel
  split
  · exact .stays (by simp) (.of_none (by simp))
  · exact h.gives rfl rfl

/-! ### The requests of the supervisor that reach the clock or the store (R155, R184, R191) -/

theorem TariffLaw.ownSetup_gives (h : TariffLaw s) (r : SetupRequest) : TariffGives s (ownSetup r s).1 := by
  unfold ownSetup
  split
  · exact h.gives rfl rfl
  · split
    · exact h.gives rfl rfl
    · have hwindow : ∀ (p : Prop) [Decidable p] (v : State), v.tariff = s.tariff → v.clock = s.clock →
          TariffGives s (if p then v else windowExpiry v) := fun p _ v ht hc => by
        split
        · exact h.gives ht hc
        · exact (h.congr ht (hc ▸ rfl) (hc ▸ rfl)).windowExpiry_gives.before (ht ▸ rfl) (ht ▸ rfl)
      have hegress : ∀ (p : Bool) (w : State), TariffGives s w → TariffGives s (if p then enterEgress none w else w) :=
        fun p w hw => by
          split
          · exact hw.after (by simp) (by simp)
          · exact hw
      exact hegress _ _ (hwindow _ _ (by split <;> simp) (by split <;> simp))

theorem TariffLaw.ownServiceStart_gives (h : TariffLaw s) (t : Option ServiceTime) : TariffGives s (ownServiceStart t s).1 := by
  have hrun : TariffGives s (applyFreeRun t s) := by
    unfold Machine.applyFreeRun
    split
    · exact h.gives rfl rfl
    · split
      · exact h.freeRunStart_gives _
      · exact h.gives rfl rfl
  unfold ownServiceStart
  repeat' split
  case isFalse => exact hrun.after (by simp) (by simp)
  all_goals exact h.gives rfl rfl

theorem TariffLaw.ownRestart_gives (h : TariffLaw s) : TariffGives s (ownRestart s).1 := by
  unfold ownRestart
  split
  · exact h.gives rfl rfl
  · exact .stays (by simp) (.of_none (by simp))

/-! ### The owners and the commands -/

theorem TariffLaw.owner_gives (h : TariffLaw s) (q : Request) : TariffGives s (owner q s).1 := by
  cases q
  case setup r => exact h.ownSetup_gives r
  case serviceStart t => exact h.ownServiceStart_gives t
  case restart => exact h.ownRestart_gives
  case timeMark t => exact h.ownTimeMark_gives t
  case tariffLoad n c => exact h.ownTariffLoad_gives n c
  case tariffClear => exact h.ownTariffClear_gives
  case tariffCommit g e => exact h.ownTariffCommit_gives g e
  case tariffCancel => exact h.ownTariffCancel_gives
  all_goals exact h.gives (by simp [owner]) (by simp [owner])

theorem TariffLaw.fieldAct_gives (h : TariffLaw s) {c : Instr} (hc : ∀ pins, c ≠ .powerOnReset pins) :
    TariffGives s (fieldAct c s) := by
  cases c
  case powerOnReset pins => exact absurd rfl (hc pins)
  case serviceTimeAdvance => exact h.serviceAdvance_gives
  case markWindowExpiry => exact h.windowExpiry_gives
  all_goals exact h.gives (by simp [fieldAct]) (by simp [fieldAct])

end

end Sys2Proof.Machine
end

section
/-! SUPPORT. One event reaches the blocks through one act: the command's own in the field, or that of the owner of the one request it takes
(R197, R207). -/

namespace Sys2Proof.Machine

open Sys2Proof

section
variable {s t u v : State}

/-- A change of the link alone. -/
def LinkOnly (s u : State) : Prop := u = { s with link := u.link }

theorem LinkOnly.refl (s : State) : LinkOnly s s := rfl

theorem LinkOnly.trans (h : LinkOnly s u) (hv : LinkOnly u v) : LinkOnly s v :=
  Eq.trans hv (congrArg (fun w : State => { w with link := v.link }) h)

theorem LinkOnly.tariff (h : LinkOnly s u) : u.tariff = s.tariff := by
  unfold LinkOnly at h
  rw [h]

theorem LinkOnly.clock (h : LinkOnly s u) : u.clock = s.clock := by
  unfold LinkOnly at h
  rw [h]

/-- Changes of the link alone, with the act of at most one owner between them, on a request whose length agrees. -/
inductive OneOwner (s t : State) : Prop
  | still : LinkOnly s t → OneOwner s t
  | acts {q : Request} {u : State} : lengthFault q = none → LinkOnly s u → LinkOnly (owner q u).1 t → OneOwner s t

theorem OneOwner.before (h : OneOwner u t) (hs : LinkOnly s u) : OneOwner s t := by
  cases h with
  | still ht => exact .still (hs.trans ht)
  | acts hq hu ht => exact .acts hq (hs.trans hu) ht

theorem OneOwner.after (h : OneOwner s u) (ht : LinkOnly u t) : OneOwner s t := by
  cases h with
  | still hu => exact .still (hu.trans ht)
  | acts hq hv hu => exact .acts hq hv (hu.trans ht)

theorem oneOwner_takeRequest (q : RequestFrame) (s : State) : OneOwner s (takeRequest q s) := by
  have htaken : LinkOnly s (countTaken s) := rfl
  unfold takeRequest judgeRequest
  dsimp only
  split
  · exact .still (htaken.trans rfl)
  · next hq => exact .acts hq htaken rfl

theorem takeRequest_pendingRequest (q : RequestFrame) (s : State) :
    (takeRequest q s).link.pendingRequest = s.link.pendingRequest :=
  (Link.still_eq (judgeRequest_still q.request (countTaken s))).2.2.2.1

theorem oneOwner_endOfEvent (s : State) : OneOwner s (endOfEvent s) := by
  unfold endOfEvent arbitrate startAnswer
  dsimp only
  split
  · split
    · split
      · exact .still rfl
      · exact (oneOwner_takeRequest ..).before rfl
    · split
      · exact .still (.refl s)
      · exact .still rfl
  · exact .still (.refl s)

/-- An event that ends without a pending request, or on a busy line, takes no request at its end (R207). -/
theorem linkOnly_endOfEvent (h : s.link.transmitter = none → s.link.pendingRequest = none) : LinkOnly s (endOfEvent s) := by
  unfold endOfEvent arbitrate startAnswer
  dsimp only
  split
  · next hidle =>
    split
    · simp only [State.changeLink, h hidle]
      rfl
    · split
      · exact .refl s
      · exact rfl
  · exact .refl s

theorem oneOwner_complete (q : RequestFrame) (s : State) : OneOwner s (endOfEvent (completeRequest q s)) := by
  unfold completeRequest
  split
  · exact (oneOwner_endOfEvent _).before rfl
  · next hp =>
    split
    · exact (oneOwner_endOfEvent _).before rfl
    · exact (oneOwner_takeRequest q s).after (linkOnly_endOfEvent fun _ => by
        rw [takeRequest_pendingRequest]
        simpa using hp)

theorem linkOnly_discardFrame (s : State) : LinkOnly s (discardFrame s) := rfl

theorem linkOnly_frameGap (s : State) : LinkOnly s (frameGap s) := by
  unfold frameGap
  split
  · exact linkOnly_discardFrame s
  · exact .refl s

theorem linkOnly_transmitEnd (s : State) : LinkOnly s (transmitEnd s) := by
  unfold transmitEnd
  split
  · exact .refl s
  · exact rfl

theorem oneOwner_frameByte (b : Byte) (s : State) : OneOwner s (endOfEvent (frameByte b s)) := by
  unfold frameByte frameWhole
  dsimp only
  split
  · exact (oneOwner_endOfEvent _).before (linkOnly_discardFrame s)
  · split
    · split
      · exact (oneOwner_complete ..).before rfl
      · exact (oneOwner_endOfEvent _).before rfl
    · exact (oneOwner_endOfEvent _).before rfl

theorem oneOwner_receive (c : Character) (s : State) : OneOwner s (endOfEvent (receive c s)) := by
  have hgap := linkOnly_frameGap s
  unfold receive huntCharacter
  dsimp only
  split
  · split <;> exact (oneOwner_endOfEvent _).before (hgap.trans rfl)
  · split
    · exact (oneOwner_endOfEvent _).before (hgap.trans (linkOnly_discardFrame _))
    · exact (oneOwner_frameByte ..).before hgap

theorem fieldAct_still {c : Instr} (hc : ∀ pins, c ≠ .powerOnReset pins) (s : State) : (fieldAct c s).link.still = s.link.still := by
  cases c
  case powerOnReset pins => exact absurd rfl (hc pins)
  all_goals simp [fieldAct]

/-- No request waits for an idle line (R197, R207), so an event in the field takes none. -/
theorem linkOnly_field {c : Instr} (h : LineLaw s) (hc : ∀ pins, c ≠ .powerOnReset pins) :
    LinkOnly (fieldAct c s) (endOfEvent (fieldAct c s)) := by
  obtain ⟨hwaits, hidle⟩ := h
  obtain ⟨-, -, -, hpending, -, hline⟩ := Link.still_eq (fieldAct_still hc s)
  refine linkOnly_endOfEvent fun hn => ?_
  rw [hpending]
  exact not_imp_not.1 hwaits (by simpa using (hidle (hline ▸ hn)).1)

/-- An event is the command's act in the field, or that of one owner at most, with changes of the link alone. -/
theorem exec_oneAct {c : Instr} (hl : LineLaw s) (hc : ∀ pins, c ≠ .powerOnReset pins) (h : exec c s = .next t) :
    LinkOnly (fieldAct c s) t ∨ OneOwner s t := by
  have hfield := linkOnly_field hl hc
  cases c
  all_goals obtain rfl := Host.Outcome.next.inj h
  case powerOnReset pins => exact absurd rfl (hc pins)
  case receivedCharacter c => exact .inr (oneOwner_receive c s)
  case frameGapTimeout => exact .inr ((oneOwner_endOfEvent _).before (linkOnly_frameGap s))
  case transmitFrameEnd => exact .inr ((oneOwner_endOfEvent _).before (linkOnly_transmitEnd s))
  case beamRawChange | beamAcceptedChange | barrierSenseChange | barrierTimerExpiry | passageTimerExpiry | clearTimerExpiry |
      lampPulseEnd | serviceTimeAdvance | markWindowExpiry | emergencyLineRawChange | emergencyLineAcceptedChange =>
    exact .inl hfield
  all_goals exact .inr (oneOwner_complete ..)

end

end Sys2Proof.Machine
end

section
/-! SUPPORT. The law of a pending switch, and how the active set changes, at every step (R132, R136, R138 to R140, R143). -/

namespace Sys2Proof.Machine

open Sys2Proof

section
variable {s t u : State}

theorem TariffLaw.exec (h : TariffLaw s) {c : Instr} (hs : exec c s = .next t) : TariffLaw t := by
  have hfield : TariffLaw (fieldAct c s) := by
    by_cases hc : ∀ pins, c ≠ .powerOnReset pins
    · exact (h.fieldAct_gives hc).law
    · push Not at hc
      obtain ⟨pins, rfl⟩ := hc
      exact .of_none rfl
  exact (exec_linkActs hs).keep (fun _ h => h.congr rfl rfl rfl) (fun _ h => (h.owner_gives _).law) hfield

theorem TariffLaw.step (h : TariffLaw s) (hs : step s = .next t) : TariffLaw t := by
  unfold Machine.step at hs
  split at hs
  · obtain rfl := Host.Outcome.next.inj hs
    exact h.congr (by simp [tick]) (by simp [tick]) (by simp [tick])
  · next c rest _ =>
    have htaken : TariffLaw { s with pending := rest } := h.congr rfl rfl rfl
    exact htaken.exec hs

theorem TariffLaw.oneOwner_gives (h : TariffLaw s) (ht : OneOwner s t) : TariffGives s t := by
  cases ht with
  | still hlink => exact h.gives hlink.tariff hlink.clock
  | @acts q u _ hu ht =>
    have hact := (h.congr hu.tariff (hu.clock ▸ rfl) (hu.clock ▸ rfl)).owner_gives q
    exact (hact.before (hu.tariff ▸ rfl) (hu.tariff ▸ rfl)).after ht.tariff ht.clock

/-- Outside a power-on reset a step gives the store what one act gives it. -/
theorem TariffLaw.step_gives (h : TariffLaw s) (hl : LineLaw s) (hp : ∀ pins rest, s.pending ≠ .powerOnReset pins :: rest)
    (hs : Machine.step s = .next t) : TariffGives s t := by
  unfold Machine.step at hs
  split at hs
  · obtain rfl := Host.Outcome.next.inj hs
    exact h.gives (by simp [tick]) (by simp [tick])
  · next c rest hq =>
    have hc : ∀ pins, c ≠ .powerOnReset pins := fun pins e => hp pins rest (e ▸ hq)
    generalize htaken : { s with pending := rest } = u at hs
    have hlu : LineLaw u := htaken ▸ hl
    have hu : TariffLaw u := htaken ▸ h.congr rfl rfl rfl
    have hgives : TariffGives u t := by
      rcases exec_oneAct hlu hc hs with hfield | howner
      · exact (hu.fieldAct_gives hc).after hfield.tariff hfield.clock
      · exact hu.oneOwner_gives howner
    exact hgives.before (htaken ▸ rfl) (htaken ▸ rfl)

end

/-- Settles O24: a step is an act in the field and acts of owners (`exec_linkActs`), and what each gives the store keeps the law
(`TariffGives.law`), as a ready switch completes or stands ahead at every trigger (`SwitchReady.giveTrigger_gives`). -/
theorem pendingSwitchStaysSound : Obligations.PendingSwitchStaysSound := fun _ _ h _ hs => h.step hs

/-- Settles O25: a step gives the store what a single act gives it (`TariffLaw.step_gives`), the active set as it was or the staged set as
a whole. -/
theorem activeSetChangesOnlyWhole : Obligations.ActiveSetChangesOnlyWhole := by
  intro s t a h _ hl hp hs ha
  cases h.step_gives hl hp hs with
  | stays hactive _ => exact ⟨a, hactive.trans ha, fun hne => absurd rfl hne⟩
  | switched set hset ht hstate =>
    rw [ht]
    exact ⟨set, rfl, fun _ => ⟨hset, rfl, rfl, hstate (by simp [ha])⟩⟩

end Sys2Proof.Machine
end
section
/-! SUPPORT. The range checks of a segment (R76, R131), and TARIFF_LOAD (R134). -/

namespace Sys2Proof.Machine

open Sys2Proof

/-! ### The first field out of range -/

@[simp] theorem firstBad_nil : firstBad [] = none := rfl

@[simp] theorem firstBad_cons (ok : Bool) (f : FieldName) (rest : List (Bool × FieldName)) :
    firstBad ((ok, f) :: rest) = if ok then firstBad rest else some f := rfl

theorem firstBad_append (l m : List (Bool × FieldName)) : firstBad (l ++ m) = (firstBad l).or (firstBad m) := by
  induction l with
  | nil => rfl
  | cons c l ih =>
    obtain ⟨ok, f⟩ := c
    cases ok <;> simp [ih]

/-- The first bad field of a list of records is that of its first bad record, named by its place (R199; log 13). -/
theorem firstBad_recordChecks {α : Type} {f : Nat → α → List (Bool × FieldName)} {bad : α → Bool}
    {name : Nat → Option α → FieldName} (h : ∀ k x, firstBad (f k x) = if bad x then some (name k (some x)) else none) (k : Nat)
    (xs : List α) : firstBad (recordChecks f k xs) = (xs.findIdx? bad).map fun j => name (j + k) xs[j]? := by
  induction xs generalizing k with
  | nil => rfl
  | cons x xs ih =>
    rw [recordChecks, firstBad_append, h, ih, List.findIdx?_cons]
    cases bad x with
    | true => simp
    | false => simp [Function.comp_def, Nat.add_assoc, Nat.add_comm 1 k]

/-! ### The three layouts (R76, R131) -/

theorem segmentBad_fares (g : FareSegment) : segmentBad (.fares g) =
    if g.generation = 0 ∨ 65535 < g.generation then some ⟨0, 2⟩
    else ((g.matrix.findIdx? fun n => decide (9999 < n)).map fun k => ⟨k + 1, 1⟩).or
      (if g.s1 = 0 ∨ 1439 < g.s1 then some ⟨0, 4⟩
        else if g.s2 ≤ g.s1 ∨ 1439 < g.s2 then some ⟨0, 5⟩
        else if g.s3 ≤ g.s2 ∨ 1439 < g.s3 then some ⟨0, 6⟩ else none) := by
  have hmatrix := firstBad_recordChecks (f := fun k n => [(decide (n ≤ 9999), ⟨k, 1⟩)]) (bad := fun n => decide (9999 < n))
    (name := fun k _ => ⟨k, 1⟩) (fun k n => by by_cases hn : n ≤ 9999 <;> simp [hn]) 1 g.matrix
  simp only [segmentBad, fareChecks, firstBad_append, hmatrix, firstBad_cons, firstBad_nil]
  by_cases hg : g.generation = 0 ∨ 65535 < g.generation
  · have hg' : ¬(1 ≤ g.generation ∧ g.generation ≤ 65535) := by omega
    simp [hg, hg']
  · have hg' : 1 ≤ g.generation ∧ g.generation ≤ 65535 := by omega
    have h1 : (1 ≤ g.s1 ∧ g.s1 ≤ 1439) ↔ ¬(g.s1 = 0 ∨ 1439 < g.s1) := by omega
    have h2 : (1 ≤ g.s2 ∧ g.s2 ≤ 1439 ∧ g.s1 < g.s2) ↔ ¬(g.s2 ≤ g.s1 ∨ 1439 < g.s2) := by omega
    have h3 : (1 ≤ g.s3 ∧ g.s3 ≤ 1439 ∧ g.s2 < g.s3) ↔ ¬(g.s3 ≤ g.s2 ∨ 1439 < g.s3) := by omega
    simp only [hg, hg', h1, h2, h3, decide_not, Bool.not_eq_true', decide_eq_false_iff_not, ite_not, decide_true, and_self,
      if_true, if_false, Option.none_or]

theorem segmentBad_concessions (g : ConcessionSegment) : segmentBad (.concessions g) =
    ((g.table.findIdx? fun k => decide (100 < k.discount ∨ 30000 < k.cap)).map fun k =>
        ⟨k + 1, if (g.table[k]?.elim 0 fun c => c.discount) ≤ 100 then 2 else 1⟩).or
      (if 240 < g.transferWindow then some ⟨0, 3⟩
        else if 7 < g.maxTransfers then some ⟨0, 4⟩ else if 2000 < g.creditLimit then some ⟨0, 5⟩ else none) := by
  have htable := firstBad_recordChecks (f := fun k c => [(decide (c.discount ≤ 100), ⟨k, 1⟩), (decide (c.cap ≤ 30000), ⟨k, 2⟩)])
    (bad := fun c : Concession => decide (100 < c.discount ∨ 30000 < c.cap))
    (name := fun k c => ⟨k, if (c.elim 0 fun c => c.discount) ≤ 100 then 2 else 1⟩)
    (fun k c => by by_cases hd : c.discount ≤ 100 <;> by_cases hc : c.cap ≤ 30000 <;> simp [hd, hc]) 1 g.table
  rw [segmentBad, concessionChecks, firstBad_append, htable]
  congr 1
  simp only [firstBad_cons, firstBad_nil, decide_eq_true_eq, ← not_lt, ite_not]

theorem segmentBad_schemes (es : List SchemeEntry) : segmentBad (.schemes es) =
    (es.findIdx? fun e => decide (4 < e.kind ∨ 20 < e.tripsPerDay ∨ (e.kind = 3 ∧ e.tripsPerDay = 0))).map fun k =>
      ⟨k + 1, if (es[k]?.elim 0 fun e => e.kind) ≤ 4 then 3 else 1⟩ :=
  firstBad_recordChecks (f := schemeChecks)
    (name := fun k e => ⟨k, if (e.elim 0 fun e => e.kind) ≤ 4 then 3 else 1⟩)
    (fun k e => by
      have hquota : (e.tripsPerDay ≤ 20 ∧ (e.kind = 3 → 1 ≤ e.tripsPerDay)) ↔
          ¬(20 < e.tripsPerDay ∨ (e.kind = 3 ∧ e.tripsPerDay = 0)) := by omega
      simp only [schemeChecks, allowanceCode, hquota, firstBad_cons, firstBad_nil]
      by_cases hk : e.kind ≤ 4
      · simp only [hk, not_lt.2 hk, Option.elim_some, false_or, decide_true, decide_not, Bool.not_eq_true', decide_eq_false_iff_not,
          ite_not, decide_eq_true_eq, if_true]
      · simp [hk]) 1 es

/-! ### Well-formed segments (R76, R131) -/

theorem check_eq_none {p : Prop} [Decidable p] {f : FieldName} {o : Option FieldName} :
    (if p then some f else o) = none ↔ ¬p ∧ o = none := by
  by_cases hp : p <;> simp [hp]

theorem segmentBad_fares_eq_none (g : FareSegment) : segmentBad (.fares g) = none ↔
    (1 ≤ g.generation ∧ g.generation ≤ 65535) ∧ (∀ n ∈ g.matrix, n ≤ 9999) ∧
      1 ≤ g.s1 ∧ g.s1 < g.s2 ∧ g.s2 < g.s3 ∧ g.s3 ≤ 1439 := by
  simp only [segmentBad_fares, check_eq_none, Option.or_eq_none_iff, Option.map_eq_none_iff, List.findIdx?_eq_none_iff,
    decide_eq_false_iff_not, not_lt, and_true]
  refine and_congr (by omega) (and_congr_right fun _ => by omega)

theorem segmentBad_concessions_eq_none (g : ConcessionSegment) : segmentBad (.concessions g) = none ↔
    (∀ k ∈ g.table, k.discount ≤ 100 ∧ k.cap ≤ 30000) ∧ g.transferWindow ≤ 240 ∧ g.maxTransfers ≤ 7 ∧
      g.creditLimit ≤ 2000 := by
  simp only [segmentBad_concessions, check_eq_none, Option.or_eq_none_iff, Option.map_eq_none_iff, List.findIdx?_eq_none_iff,
    decide_eq_false_iff_not, not_or, not_lt, and_true]

theorem segmentBad_schemes_eq_none (es : List SchemeEntry) : segmentBad (.schemes es) = none ↔
    ∀ e ∈ es, e.kind ≤ 4 ∧ e.tripsPerDay ≤ 20 ∧ (e.kind = 3 → 1 ≤ e.tripsPerDay) := by
  simp only [segmentBad_schemes, Option.map_eq_none_iff, List.findIdx?_eq_none_iff, decide_eq_false_iff_not]
  exact forall₂_congr fun _ _ => by omega

/-! ### TARIFF_LOAD (R134) -/

section
variable {s u : State} {tag : Byte} {n : Nat} {c : SegmentContents}

theorem complete?_isSome (g : StagedSet) :
    g.complete?.isSome = (g.fares.isSome && g.concessions.isSome && g.schemesLow.isSome && g.schemesHigh.isSome) := by
  obtain ⟨f, k, l, h⟩ := g
  cases f <;> cases k <;> cases l <;> cases h <;> rfl

theorem contentsAgree_of_unnamed (h : 3 < n) (c : SegmentContents) : contentsAgree n c = true := by
  obtain ⟨m, rfl⟩ := Nat.exists_eq_add_of_le' h
  rfl

/-- What a segment number that names a layout lets a TARIFF_LOAD carry (R131). -/
theorem contents_of_agree (hn : n ≤ 3) (h : contentsAgree n c = true) :
    (∃ f, c = .fares f ∧ n = 0) ∨ (∃ k, c = .concessions k ∧ n = 1) ∨ ∃ es, c = .schemes es ∧ (n = 2 ∨ n = 3) := by
  unfold contentsAgree at h
  split at h
  · exact .inl ⟨_, rfl, rfl⟩
  · exact .inr (.inl ⟨_, rfl, rfl⟩)
  · exact .inr (.inr ⟨_, rfl, .inl rfl⟩)
  · exact .inr (.inr ⟨_, rfl, .inr rfl⟩)
  case h_9 h0 h1 h2 h3 _ _ _ _ => exact absurd ⟨h0, h1, h2, h3⟩ (by omega : ¬(n ≠ 0 ∧ n ≠ 1 ∧ n ≠ 2 ∧ n ≠ 3))
  all_goals exact nomatch h

theorem exec_tariffLoad {p : Reply} (hs : s.slotFree) (hc : contentsAgree n c = true)
    (ho : ownTariffLoad n c (countTaken s) = (u, p)) : exec (.tariffLoad tag n c) s = .next (State.answering 0x18 tag p u) :=
  exec_of_owner (q := .tariffLoad n c) hs rfl (by simp [lengthFault, hc]) ho

end

/-- Settles O20: the checks of a layout name the first bad field (`segmentBad_fares`, `segmentBad_concessions`, `segmentBad_schemes`), of
which the ranges follow, and contents that agree with a segment number are those of its layout (`contents_of_agree`). -/
theorem tariffLoadReplacesOneSegment : Obligations.TariffLoadReplacesOneSegment := by
  refine ⟨⟨segmentBad_fares_eq_none, segmentBad_concessions_eq_none, segmentBad_schemes_eq_none⟩,
    ⟨fun g => ?_, fun g => ?_, fun es => ?_⟩, fun tag s hs => ⟨fun n c hn => ?_, fun n c hn hc hp => ?_, fun n c f hn hc hp hf => ?_,
      fun n c hn hc hp hf => ?_⟩⟩
  · rw [segmentBad_fares]
    cases g.matrix.findIdx? fun n => decide (9999 < n) <;> simp
  · rw [segmentBad_concessions]
    cases g.table.findIdx? fun k => decide (100 < k.discount ∨ 30000 < k.cap) <;> simp
  · rw [segmentBad_schemes]
    cases es.findIdx? fun e => decide (4 < e.kind ∨ 20 < e.tripsPerDay ∨ (e.kind = 3 ∧ e.tripsPerDay = 0)) <;> rfl
  · exact exec_tariffLoad hs (contentsAgree_of_unnamed hn c) (by simp [ownTariffLoad, hn])
  · exact exec_tariffLoad hs hc (by simp [ownTariffLoad, not_lt.2 hn, Option.isSome_iff_ne_none.2 hp])
  · exact exec_tariffLoad hs hc (by simp [ownTariffLoad, not_lt.2 hn, hp, hf])
  · refine ⟨s.tariff.staged.load n c, exec_tariffLoad hs hc ?_, ?_⟩
    · simp [ownTariffLoad, not_lt.2 hn, hp, hf, complete?_isSome, StagedSet.presentSegments, StagedSet.generation]
    · rcases contents_of_agree hn hc with ⟨f, rfl, rfl⟩ | ⟨k, rfl, rfl⟩ | ⟨es, rfl, rfl | rfl⟩ <;> simp [StagedSet.load]

end Sys2Proof.Machine
end

section
/-! SUPPORT. TARIFF_CLEAR, TARIFF_COMMIT and TARIFF_CANCEL (R135 to R138, R140, R142). -/

namespace Sys2Proof.Machine

open Sys2Proof

section
variable {s u : State} {tag : Byte}

theorem completeSwitch_eq (set : TariffSet) (s : State) :
    completeSwitch set s =
      State.posting [.tariffSwitched s.activeGeneration set.fares.generation s.clock.time]
        { s with tariff := ⟨some set, StagedSet.empty, none⟩ } := rfl

theorem cancelSwitch_eq {p : PendingSwitch} (h : s.tariff.pendingSwitch = some p) (c : CancelCause) :
    cancelSwitch c s =
      State.posting [.tariffCancelled c p.generation p.effective s.activeGeneration]
        { s with tariff := { s.tariff with pendingSwitch := none } } := by
  unfold cancelSwitch
  rw [h]
  rfl

/-! ### TARIFF_CLEAR and TARIFF_CANCEL (R135, R142) -/

theorem exec_tariffClear {p : Reply} (hs : s.slotFree) (ho : ownTariffClear (countTaken s) = (u, p)) :
    exec (.tariffClear tag) s = .next (State.answering 0x19 tag p u) :=
  exec_of_owner (q := .tariffClear) hs rfl rfl ho

theorem exec_tariffCancel {p : Reply} (hs : s.slotFree) (ho : ownTariffCancel (countTaken s) = (u, p)) :
    exec (.tariffCancel tag) s = .next (State.answering 0x1B tag p u) :=
  exec_of_owner (q := .tariffCancel) hs rfl rfl ho

end

/-- Settles O21: each outcome is the owner's, the cancelled switch written out by `cancelSwitch_eq`. -/
theorem tariffClearAndCancel : Obligations.TariffClearAndCancel := by
  intro tag s hs
  refine ⟨fun hp hne => ?_, fun hp he => ?_, fun p hp => ⟨?_, ?_⟩, fun hp => ?_⟩
  · exact exec_tariffClear hs (by simp [ownTariffClear, hp, StagedSet.empty, hne])
  · exact exec_tariffClear hs (by simp [ownTariffClear, hp, StagedSet.empty, he])
  · exact exec_tariffClear hs (by simp [ownTariffClear, hp])
  · have hcancelled := cancelSwitch_eq (s := countTaken s) hp .request
    exact exec_tariffCancel hs (by simp [ownTariffCancel, hp, hcancelled, State.activeGeneration])
  · exact exec_tariffCancel hs (by simp [ownTariffCancel, hp])

section
variable {s u : State} {tag : Byte} {g : Nat} {e : Option ServiceTime} {set : TariffSet}

/-! ### The checks of TARIFF_COMMIT (R136) -/

theorem exec_tariffCommit {p : Reply} (hs : s.slotFree) (ho : ownTariffCommit g e (countTaken s) = (u, p)) :
    exec (.tariffCommit tag g e) s = .next (State.answering 0x1A tag p u) :=
  exec_of_owner (q := .tariffCommit g e) hs rfl rfl ho

theorem fares_of_complete {staged : StagedSet} (h : staged.complete? = some set) : staged.fares = some set.fares := by
  unfold StagedSet.complete? at h
  split at h
  · next hf _ _ _ =>
    cases h
    exact hf
  · exact nomatch h

theorem elim_timeInRange_eq_false : e.elim true timeInRange = false ↔ ∃ t, e = some t ∧ 86399 < t.second := by
  cases e <;> simp [timeInRange]

theorem ownTariffCommit_range (hr : g = 0 ∨ ∃ t, e = some t ∧ 86399 < t.second) : ownTariffCommit g e s = commitReply .range s := by
  simp only [ownTariffCommit, elim_timeInRange_eq_false, hr, if_true]

section
variable (hr : ¬(g = 0 ∨ ∃ t, e = some t ∧ 86399 < t.second))
include hr

theorem ownTariffCommit_incomplete (hset : s.tariff.staged.complete? = none) :
    ownTariffCommit g e s = commitReply .incomplete s := by
  simp only [ownTariffCommit, elim_timeInRange_eq_false, hr, if_false, hset]

theorem ownTariffCommit_mismatch (hset : s.tariff.staged.complete? = some set) (hg : set.fares.generation ≠ g) :
    ownTariffCommit g e s = commitReply .mismatch s := by
  simp only [ownTariffCommit, elim_timeInRange_eq_false, hr, if_false, hset, ne_eq, hg.symm, not_false_eq_true, if_true]

/-- The first activation asks for no time state (R137). -/
theorem ownTariffCommit_first (hset : s.tariff.staged.complete? = some set) (hg : set.fares.generation = g)
    (ha : s.tariff.active = none) : ownTariffCommit g e s = commitReply .ok (completeSwitch set s) := by
  simp only [ownTariffCommit, elim_timeInRange_eq_false, hr, if_false, hset, ne_eq, hg, not_true_eq_false, ha, if_true]

theorem ownTariffCommit_later {a : TariffSet} (hset : s.tariff.staged.complete? = some set) (hg : set.fares.generation = g)
    (ha : s.tariff.active = some a) : ownTariffCommit g e s =
      if a.fares.generation = g then commitReply .redundant s
      else if s.clock.state ≠ .synced then commitReply .timeNotSynced s else commitReply .ok (armSwitch set e s) := by
  simp only [ownTariffCommit, elim_timeInRange_eq_false, hr, if_false, hset, ne_eq, hg, not_true_eq_false, State.activeGeneration,
    ha, reduceCtorEq, Option.elim_some, eq_comm (a := g) (b := a.fares.generation)]

end

end

/-- Settles O22, check by check: what the staged set, the active set and the time state make of `ownTariffCommit`. -/
theorem tariffCommitRefusals : Obligations.TariffCommitRefusals := by
  intro tag g e s hs r hr hne
  suffices ho : ownTariffCommit g e (countTaken s) = commitReply r (countTaken s) from exec_tariffCommit hs ho
  rw [← countTaken_tariff s, ← countTaken_clock s] at hr
  generalize countTaken s = u at hr ⊢
  split at hr
  · next hrange => rw [hr, ownTariffCommit_range hrange]
  · next hrange =>
    cases hset : u.tariff.staged.complete? with
    | none =>
      rw [if_pos hset] at hr
      rw [hr, ownTariffCommit_incomplete hrange hset]
    | some set =>
      simp only [hset, reduceCtorEq, if_false, fares_of_complete hset, Option.map_some, ne_eq, Option.some.injEq] at hr
      split at hr
      · next hg => rw [hr, ownTariffCommit_mismatch hrange hset hg]
      · next hg =>
        cases ha : u.tariff.active with
        | none => exact absurd (by simpa [ha] using hr) hne
        | some a =>
          simp only [ha, reduceCtorEq, if_false, Option.map_some, Option.some.injEq] at hr
          rw [ownTariffCommit_later hrange hset (not_not.1 hg) ha]
          split at hr
          · next hsame => rw [hr, if_pos hsame]
          · next hother =>
            rw [if_neg hother]
            split at hr
            · next hstate => rw [hr, if_pos hstate]
            · exact absurd hr hne

section
variable {s : State} {set : TariffSet} {e : Option ServiceTime} {now t : ServiceTime}

/-! ### The switch of a TARIFF_COMMIT that passes (R137, R138) -/

theorem armSwitch_eq (hn : s.clock.time = some now) : armSwitch set e s =
    effectiveTrigger { s with tariff := { s.tariff with pendingSwitch := some ⟨set.fares.generation, e.getD now⟩ } } := by
  unfold armSwitch
  rw [hn]
  cases e <;> rfl

/-- An effective time that is absent or reached switches at once. -/
theorem armSwitch_of_reached (hset : s.tariff.staged.complete? = some set) (hn : s.clock.time = some now)
    (h : absSecond (e.getD now) ≤ absSecond now) : armSwitch set e s = completeSwitch set s := by
  rw [armSwitch_eq hn]
  exact effectiveTrigger_of_due (by simp [State.switchDue, hn, h]) hset

/-- An effective time that lies ahead leaves the staged set as it is. -/
theorem armSwitch_of_ahead (hn : s.clock.time = some now) (h : absSecond now < absSecond t) :
    armSwitch set (some t) s = { s with tariff := { s.tariff with pendingSwitch := some ⟨set.fares.generation, t⟩ } } := by
  rw [armSwitch_eq hn]
  exact effectiveTrigger_of_not_due (by simp [State.switchDue, hn, h])

/-- What a completed switch answers and leaves (R136, R140). -/
theorem commitReply_completeSwitch (r : ResultCode) (set : TariffSet) (s : State) :
    commitReply r (completeSwitch set s) =
      (State.posting [.tariffSwitched (s.tariff.active.elim 0 fun a => a.fares.generation) set.fares.generation s.clock.time]
        { s with tariff := ⟨some set, ⟨none, none, none, none⟩, none⟩ }, .tariffCommit r set.fares.generation none) := by
  rw [commitReply, State.activeGeneration, completeSwitch_tariff]
  rfl

end

/-- Settles O23: past its checks a TARIFF_COMMIT is `completeSwitch` or `armSwitch` (`ownTariffCommit_first`, `ownTariffCommit_later`), and
arming switches at once or stands ahead by the effective time (`armSwitch_of_reached`, `armSwitch_of_ahead`). -/
theorem tariffCommitActivatesOrArms : Obligations.TariffCommitActivatesOrArms := by
  intro tag g e set s hs hg he hset hgen
  subst hgen
  have hrange : ¬(set.fares.generation = 0 ∨ ∃ t, e = some t ∧ 86399 < t.second) := by
    rintro (h0 | ⟨t, ht, hlt⟩)
    · exact hg h0
    · exact absurd (he t ht) (not_le.2 hlt)
  refine ⟨fun ha => ?_, fun a now ha hne hstate hn => ?_⟩
  · have hfirst := ownTariffCommit_first (s := countTaken s) hrange hset rfl ha
    rw [commitReply_completeSwitch, countTaken_tariff, ha] at hfirst
    exact exec_tariffCommit hs hfirst
  · have hlater := ownTariffCommit_later (s := countTaken s) hrange hset rfl ha
    rw [if_neg hne, countTaken_clock, if_neg (not_not.2 hstate)] at hlater
    refine ⟨fun hdue => ?_, fun t ht hlt => ?_⟩
    · rw [armSwitch_of_reached (s := countTaken s) hset hn hdue, commitReply_completeSwitch, countTaken_tariff, ha, countTaken_clock,
        hn] at hlater
      exact exec_tariffCommit hs hlater
    · subst ht
      rw [armSwitch_of_ahead (s := countTaken s) hn hlt] at hlater
      refine exec_tariffCommit hs (hlater.trans ?_)
      simp [commitReply, State.activeGeneration, ha]

end Sys2Proof.Machine
end

section
/-! SUPPORT. The requests that one event can take (R196, R197, R207): those that its command brings, and the pending one. A claim that the
Link Controller's own changes and the owners of such requests keep is kept by the event. -/

namespace Sys2Proof.Machine

open Sys2Proof

section
variable {P : Request → Prop} {C : State → Prop} {s t : State}

/-- A pending request is one of `P`. -/
def State.pendingIs (P : Request → Prop) (s : State) : Prop := ∀ f, s.link.pendingRequest = some f → P f.request

/-- The requests a command can bring are of `P`: the one it stands for, and one that the next byte makes whole in the framer. -/
def Brings (P : Request → Prop) (c : Instr) (s : State) : Prop :=
  (∀ f, requestFrameOf c = some f → P f.request) ∧
  ∀ b, 6 ≤ (s.link.framer.stored ++ [b]).length → P (frameRequest (s.link.framer.stored ++ [b])).request

/-- The claim `C` is kept by changes of the link alone and by the owners of the requests of `P`. -/
structure KeptOn (P : Request → Prop) (C : State → Prop) : Prop where
  link : ∀ {s : State} (f : Link → Link), C s → C (s.changeLink f)
  owner : ∀ {s : State} {q : Request}, lengthFault q = none → P q → C s → C (owner q s).1

theorem KeptOn.takeRequest (hk : KeptOn P C) {f : RequestFrame} (hf : P f.request) (hc : C s) (hp : s.pendingIs P) :
    C (takeRequest f s) ∧ (takeRequest f s).pendingIs P := by
  refine ⟨?_, fun g hg => hp g (takeRequest_pendingRequest f s ▸ hg)⟩
  have htaken : C (countTaken s) := by
    unfold countTaken State.count
    exact hk.link _ hc
  unfold Machine.takeRequest judgeRequest
  refine hk.link _ ?_
  split
  · exact htaken
  · next hq => exact hk.owner hq hf htaken

theorem KeptOn.completeRequest (hk : KeptOn P C) {f : RequestFrame} (hf : P f.request) (hc : C s) (hp : s.pendingIs P) :
    C (completeRequest f s) ∧ (completeRequest f s).pendingIs P := by
  unfold Machine.completeRequest
  split
  · exact ⟨hk.link _ hc, hp⟩
  · split
    · exact ⟨hk.link _ hc, fun g hg => Option.some.inj hg ▸ hf⟩
    · exact hk.takeRequest hf hc hp

theorem KeptOn.endOfEvent (hk : KeptOn P C) (h : C s ∧ s.pendingIs P) : C (endOfEvent s) ∧ (endOfEvent s).pendingIs P := by
  obtain ⟨hc, hp⟩ := h
  unfold Machine.endOfEvent arbitrate startAnswer
  dsimp only
  split
  · split
    · split
      · exact ⟨hk.link _ hc, hp⟩
      · next f hf => exact hk.takeRequest (hp f hf) (hk.link _ (hk.link _ hc)) nofun
    · split
      · exact ⟨hc, hp⟩
      · exact ⟨hk.link _ hc, hp⟩
  · exact ⟨hc, hp⟩

theorem KeptOn.discardFrame (hk : KeptOn P C) (hc : C s) (hp : s.pendingIs P) :
    C (discardFrame s) ∧ (discardFrame s).pendingIs P := by
  unfold Machine.discardFrame State.count State.setFramer
  exact ⟨hk.link _ (hk.link _ hc), hp⟩

theorem KeptOn.frameGap (hk : KeptOn P C) (hc : C s) (hp : s.pendingIs P) : C (frameGap s) ∧ (frameGap s).pendingIs P := by
  unfold Machine.frameGap
  split
  · exact hk.discardFrame hc hp
  · exact ⟨hc, hp⟩

theorem KeptOn.transmitEnd (hk : KeptOn P C) (hc : C s) (hp : s.pendingIs P) :
    C (transmitEnd s) ∧ (transmitEnd s).pendingIs P := by
  unfold Machine.transmitEnd
  split
  · exact ⟨hc, hp⟩
  · exact ⟨hk.link _ hc, hp⟩

theorem KeptOn.frameByte (hk : KeptOn P C) {b : Byte}
    (hb : 6 ≤ (s.link.framer.stored ++ [b]).length → P (frameRequest (s.link.framer.stored ++ [b])).request)
    (hc : C s) (hp : s.pendingIs P) : C (frameByte b s) ∧ (frameByte b s).pendingIs P := by
  have hidle : C (s.setFramer Framer.idle) := hk.link _ hc
  unfold Machine.frameByte frameWhole
  dsimp only
  split
  · exact hk.discardFrame hc hp
  · split
    · next hwhole =>
      split
      · exact hk.completeRequest (hb (by omega)) hidle hp
      · exact ⟨hk.link _ hidle, hp⟩
    · exact ⟨hk.link _ hc, hp⟩

/-- A gap before the character leaves no frame in assembly, so the byte joins the bytes that were stored. -/
theorem frameGap_stored (h : (frameGap s).link.framer.state ≠ .hunt) : (frameGap s).link.framer = s.link.framer := by
  unfold frameGap at h ⊢
  split at h
  · exact absurd rfl h
  · next hgap => rw [if_neg hgap]

theorem KeptOn.receive (hk : KeptOn P C) {ch : Character}
    (hb : ∀ b, 6 ≤ (s.link.framer.stored ++ [b]).length → P (frameRequest (s.link.framer.stored ++ [b])).request)
    (hc : C s) (hp : s.pendingIs P) : C (receive ch s) ∧ (receive ch s).pendingIs P := by
  obtain ⟨hgap, hpgap⟩ := hk.frameGap hc hp
  unfold Machine.receive huntCharacter
  dsimp only
  split
  · split <;> exact ⟨hk.link _ hgap, hpgap⟩
  · next hstate =>
    split
    · exact hk.discardFrame hgap hpgap
    · next b => exact hk.frameByte (frameGap_stored hstate ▸ hb b) hgap hpgap

/-- A command whose requests are of `P` keeps the claim when its act in the field does. -/
theorem KeptOn.exec (hk : KeptOn P C) {c : Instr} (hb : Brings P c s) (hc : C (fieldAct c s)) (hp : s.pendingIs P)
    (h : exec c s = .next t) : C t ∧ t.pendingIs P := by
  obtain ⟨hrequest, hframe⟩ := hb
  have hfield (hn : ∀ pins, c ≠ .powerOnReset pins) :
      C (Machine.endOfEvent (fieldAct c s)) ∧ (Machine.endOfEvent (fieldAct c s)).pendingIs P := by
    obtain ⟨-, -, -, hkept, -, -⟩ := Link.still_eq (fieldAct_still hn s)
    exact hk.endOfEvent ⟨hc, fun f hf => hp f (hkept ▸ hf)⟩
  cases c
  all_goals obtain rfl := Host.Outcome.next.inj h
  case powerOnReset pins => exact ⟨hc, nofun⟩
  case receivedCharacter ch => exact hk.endOfEvent (hk.receive hframe hc hp)
  case frameGapTimeout => exact hk.endOfEvent (hk.frameGap hc hp)
  case transmitFrameEnd => exact hk.endOfEvent (hk.transmitEnd hc hp)
  case beamRawChange | beamAcceptedChange | barrierSenseChange | barrierTimerExpiry | passageTimerExpiry | clearTimerExpiry |
      lampPulseEnd | serviceTimeAdvance | markWindowExpiry | emergencyLineRawChange | emergencyLineAcceptedChange =>
    exact hfield (by simp)
  all_goals exact hk.endOfEvent (hk.completeRequest (hrequest _ rfl) hc hp)

end

/-! ### The requests that commands and frames spell (R198, R199) -/

theorem requestFrameOf_timeMark {c : Instr} {tag : Byte} {m : ServiceTime} (h : requestFrameOf c = some ⟨tag, .timeMark m⟩) :
    c = .timeMark tag m := by
  cases c <;> simp_all [requestFrameOf]

theorem requestFrameOf_serviceStart {c : Instr} {tag : Byte} {o : Option ServiceTime}
    (h : requestFrameOf c = some ⟨tag, .serviceStart o⟩) : c = .serviceStart tag o := by
  cases c <;> simp_all [requestFrameOf]

section
variable {k : Nat} {bs stored : List Byte} {b : Byte}

theorem requestOf_timeMark {m : ServiceTime} (h : requestOf k bs = .timeMark m) : k = 0x10 ∧ m = timeAt 0 bs := by
  unfold requestOf fieldsOf at h
  repeat' split at h
  all_goals simp_all

theorem requestOf_serviceStart {o : Option ServiceTime} (h : requestOf k bs = .serviceStart o) : o = optAt timeAt 0 bs := by
  unfold requestOf fieldsOf at h
  repeat' split at h
  all_goals simp_all

theorem numAt_one {o : Nat} (h : o < bs.length) : numAt o 1 bs = bs[o].toNat := by
  rw [numAt, List.drop_eq_getElem_cons h, List.take_succ_cons, List.take_zero]
  simp [ofBe]

/-- Two bytes spell a number below 65536. -/
theorem numAt_two_le (o : Nat) (bs : List Byte) : numAt o 2 bs ≤ 65535 := by
  unfold numAt ofBe
  match bs.drop o with
  | [] => simp
  | [x] => simpa using by omega
  | x :: y :: _ => simpa using by omega

/-- A frame whose third stored byte is not the kind of TIME_MARK spells none. -/
theorem frameRequest_ne_timeMark (hkind : stored[2]? ≠ some 0x10#8) (hlen : 6 ≤ (stored ++ [b]).length) (m : ServiceTime) :
    (frameRequest (stored ++ [b])).request ≠ .timeMark m := by
  intro h
  have hthird : (2 : Nat) < stored.length := by simp at hlen; omega
  obtain ⟨hk, -⟩ := requestOf_timeMark h
  rw [numAt_one (by simp; omega), List.getElem_append_left hthird] at hk
  exact hkind (List.getElem?_eq_some_iff.2 ⟨hthird, BitVec.eq_of_toNat_eq hk⟩)

end

end Sys2Proof.Machine
end

section
/-! SUPPORT. What the acts of an event make of the Service Clock (R148, R149, R151, R154, R156), said once for every command and owner. -/

namespace Sys2Proof.Machine

open Sys2Proof

section
variable {P : Request → Prop} {s : State}

/-! ### The operations of the clock -/

@[simp] theorem setTimeState_clock (st : TimeState) (c : TimeCause) (s : State) :
    (setTimeState st c s).clock = { s.clock with state := st } := by
  unfold setTimeState
  split
  · next h => rw [← h]
  · simp

@[simp] theorem setTime_clock (t : ServiceTime) (s : State) :
    (setTime t s).clock = ⟨s.clock.state, some t, some s.runTime, s.clock.lastMark, 0⟩ := rfl

/-- An advance that is due counts, and raises service time by a second unless the last one is held (R149). -/
theorem serviceAdvance_clock (s : State) : (serviceAdvance s).clock =
    if s.advanceDue then { s.clock with time := s.clock.time.map nextSecond, advances := s.clock.advances + 1 } else s.clock := by
  unfold serviceAdvance
  dsimp only
  split
  · split
    · next hn => simp [hn]
    · next t hn =>
      split
      · next hheld => simp [hn, hheld]
      · simp [hn]
  · rfl

theorem windowExpiry_clock (s : State) :
    (windowExpiry s).clock = if s.windowOut then { s.clock with state := .degraded } else s.clock := by
  unfold windowExpiry
  split <;> simp

theorem windowOut_synced (h : s.windowOut = true) : s.clock.state = .synced := by
  simp only [State.windowOut, Bool.and_eq_true, decide_eq_true_eq] at h
  exact h.1

/-! ### What one act makes of the clock -/

/-- An act at run time `now` leaves the clock as it is, advances it, ends SYNCED, or sets it by a TIME_MARK or a free-run start of `P`;
a free-run start never sets a running time back (R149, R151, R154, R156). -/
inductive ClockGives (P : Request → Prop) (now : Nat) (c : Clock) : Clock → Prop
  | stays : ClockGives P now c c
  | advance : ClockGives P now c { c with time := c.time.map nextSecond, advances := c.advances + 1 }
  | degrade : c.state = .synced → ClockGives P now c { c with state := .degraded }
  | mark {t : ServiceTime} : P (.timeMark t) → t.second ≤ 86399 → ClockGives P now c ⟨.synced, some t, some now, some now, 0⟩
  | freeRun {t : ServiceTime} : P (.serviceStart (some t)) → t.second ≤ 86399 →
      (c.state = .unset ∨ ∀ o, c.time = some o → absSecond o ≤ absSecond t) →
      ClockGives P now c ⟨.degraded, some t, some now, c.lastMark, 0⟩

theorem serviceAdvance_gives (P : Request → Prop) (s : State) : ClockGives P s.runTime s.clock (serviceAdvance s).clock := by
  rw [serviceAdvance_clock]
  split
  · exact .advance
  · exact .stays

theorem windowExpiry_gives (P : Request → Prop) (s : State) : ClockGives P s.runTime s.clock (windowExpiry s).clock := by
  rw [windowExpiry_clock]
  split
  · next hout => exact .degrade (windowOut_synced hout)
  · exact .stays

theorem timeInRange_iff (t : ServiceTime) : timeInRange t = true ↔ t.second ≤ 86399 := by simp [timeInRange]

theorem ownTimeMark_gives {t : ServiceTime} (hp : P (.timeMark t)) : ClockGives P s.runTime s.clock (ownTimeMark t s).1.clock := by
  unfold ownTimeMark
  dsimp only
  split
  · exact .stays
  · next hr =>
    rw [Bool.not_eq_false, timeInRange_iff] at hr
    simpa using ClockGives.mark hp hr

theorem freeRunStart_gives {t : ServiceTime} (hp : P (.serviceStart (some t))) (hr : t.second ≤ 86399) :
    ClockGives P s.runTime s.clock (freeRunStart t s).clock := by
  unfold freeRunStart
  split
  · exact .stays
  · next hunset => simpa using ClockGives.freeRun hp hr (.inl hunset)
  · next hstate hn => simpa [hstate] using ClockGives.freeRun (c := s.clock) hp hr (.inr fun o ho => by simp [hn] at ho)
  · next o hstate hn =>
    split
    · next hle =>
      have hahead : ∀ o', s.clock.time = some o' → absSecond o' ≤ absSecond t := fun o' ho => by
        obtain rfl := Option.some.inj (hn.symm.trans ho)
        exact hle
      simpa [hstate] using ClockGives.freeRun (c := s.clock) hp hr (.inr hahead)
    · exact .stays

theorem ownServiceStart_gives {o : Option ServiceTime} (hp : P (.serviceStart o)) :
    ClockGives P s.runTime s.clock (ownServiceStart o s).1.clock := by
  have hrun : o.elim true timeInRange = true → ClockGives P s.runTime s.clock (applyFreeRun o s).clock := fun hr => by
    unfold applyFreeRun
    split
    · exact .stays
    · next t =>
      split
      · exact freeRunStart_gives hp ((timeInRange_iff t).1 hr)
      · exact .stays
  unfold ownServiceStart
  split
  · exact .stays
  · split
    · exact .stays
    · next hr =>
      split
      · exact .stays
      · split
        · exact .stays
        · simpa using hrun (by simpa using hr)

/-- Of the clock a SETUP does no more than end SYNCED, when a shorter mark window has run out (R155). -/
theorem ownSetup_gives (P : Request → Prop) (r : SetupRequest) (s : State) :
    ClockGives P s.runTime s.clock (ownSetup r s).1.clock := by
  unfold ownSetup
  split
  · exact .stays
  · split
    · exact .stays
    · have hwindow (p : Prop) [Decidable p] (v : State) (hc : v.clock = s.clock) (hn : v.runTime = s.runTime) :
          ClockGives P s.runTime s.clock (if p then v else windowExpiry v).clock := by
        rw [← hc, ← hn]
        split
        · exact .stays
        · exact windowExpiry_gives P v
      have hegress (p : Bool) (w : State) : (if p then enterEgress none w else w).clock = w.clock := by
        split <;> simp
      dsimp only
      rw [hegress]
      exact hwindow _ _ (by split <;> simp) (by split <;> simp)

theorem owner_gives {q : Request} (hp : P q) (s : State) : ClockGives P s.runTime s.clock (owner q s).1.clock := by
  cases q
  case setup r => exact ownSetup_gives P r s
  case serviceStart o => exact ownServiceStart_gives hp
  case timeMark t => exact ownTimeMark_gives hp
  all_goals
    rw [show (owner _ s).1.clock = s.clock by simp [owner]]
    exact .stays

theorem fieldAct_gives (P : Request → Prop) {c : Instr} (hc : ∀ pins, c ≠ .powerOnReset pins) (s : State) :
    ClockGives P s.runTime s.clock (fieldAct c s).clock := by
  cases c
  case powerOnReset pins => exact absurd rfl (hc pins)
  case serviceTimeAdvance => exact serviceAdvance_gives P s
  case markWindowExpiry => exact windowExpiry_gives P s
  all_goals
    rw [show (fieldAct _ s).clock = s.clock by simp [fieldAct]]
    exact .stays

theorem fieldAct_runTime {c : Instr} (hc : ∀ pins, c ≠ .powerOnReset pins) (s : State) : (fieldAct c s).runTime = s.runTime := by
  cases c
  case powerOnReset pins => exact absurd rfl (hc pins)
  all_goals simp [fieldAct]

@[simp] theorem fieldAct_pending (c : Instr) (s : State) : (fieldAct c s).pending = s.pending := by
  cases c
  case powerOnReset pins => rfl
  all_goals simp [fieldAct]

end

end Sys2Proof.Machine
end

section
/-! SUPPORT. The law of the Service Clock and the range of its day at every step (R148), and how far a step can move service time (R160). -/

namespace Sys2Proof.Machine

open Sys2Proof

section
variable {P : Request → Prop} {s t u : State} {now : Nat} {c d e : Clock}

/-! ### The second after a service time (R149) -/

theorem nextSecond_second {t : ServiceTime} (h : t.second ≤ 86399) : (nextSecond t).second ≤ 86399 := by
  unfold nextSecond
  split
  · dsimp only; omega
  · split
    · exact Nat.zero_le _
    · exact h

theorem nextSecond_day {t : ServiceTime} (h : t.day ≤ 65535) : (nextSecond t).day ≤ 65535 := by
  unfold nextSecond
  split
  · exact h
  · split
    · dsimp only; omega
    · exact h

theorem le_nextSecond {t : ServiceTime} (h : t.second ≤ 86399) : absSecond t ≤ absSecond (nextSecond t) := by
  unfold nextSecond
  split
  · simp only [absSecond]; omega
  · split
    · simp only [absSecond, Config.daySeconds]; omega
    · exact le_rfl

/-! ### The laws of the clock (R148) -/

/-- Any one change of the clock keeps its law. -/
theorem ClockLaw.gives (h : ClockLaw s) (hc : ClockGives P s.runTime s.clock u.clock) (hn : u.runTime = s.runTime) : ClockLaw u := by
  obtain ⟨hunset, hset, hmarked, hsecond, hsetting, hmark⟩ := h
  unfold ClockLaw
  rw [hn]
  generalize u.clock = d at hc
  cases hc with
  | stays => exact ⟨hunset, hset, hmarked, hsecond, hsetting, hmark⟩
  | advance =>
    refine ⟨by simpa using hunset, by simpa using hset, hmarked, fun t ht => ?_, hsetting, hmark⟩
    obtain ⟨o, ho, rfl⟩ := Option.map_eq_some_iff.1 ht
    exact nextSecond_second (hsecond o ho)
  | degrade hs =>
    refine ⟨?_, hset, nofun, hsecond, hsetting, hmark⟩
    simpa [hs] using hunset
  | mark _ hr => exact ⟨by simp, by simp, by simp, by simpa using hr, by simp, by simp⟩
  | freeRun _ hr _ => exact ⟨by simp, by simp, by simp, by simpa using hr, by simp, hmark⟩

theorem ClockLaw.congr (h : ClockLaw s) (hc : u.clock = s.clock) (hn : s.runTime ≤ u.runTime) : ClockLaw u := by
  obtain ⟨hunset, hset, hmarked, hsecond, hsetting, hmark⟩ := h
  unfold ClockLaw
  rw [hc]
  exact ⟨hunset, hset, hmarked, hsecond, fun r hr => (hsetting r hr).trans hn, fun r hr => (hmark r hr).trans hn⟩

theorem ClockLaw.owner (h : ClockLaw s) (q : Request) : ClockLaw (owner q s).1 :=
  h.gives (owner_gives (P := fun _ => True) trivial s) (owner_runTime q s)

theorem ClockLaw.fieldAct (h : ClockLaw s) (c : Instr) : ClockLaw (fieldAct c s) := by
  by_cases hc : ∀ pins, c ≠ .powerOnReset pins
  · exact h.gives (fieldAct_gives (fun _ => True) hc s) (fieldAct_runTime hc s)
  · push Not at hc
    obtain ⟨pins, rfl⟩ := hc
    exact ⟨by simp [Machine.fieldAct, powerOnReset, State.powerOn], by simp [Machine.fieldAct, powerOnReset, State.powerOn], nofun,
      nofun, nofun, nofun⟩

theorem ClockLaw.step (h : ClockLaw s) (hs : step s = .next t) : ClockLaw t := by
  unfold Machine.step at hs
  split at hs
  · obtain rfl := Host.Outcome.next.inj hs
    exact h.congr (by simp [tick]) (by simp [tick])
  · next c rest _ =>
    have hrest : ClockLaw { s with pending := rest } := h.congr rfl le_rfl
    exact (exec_linkActs hs).keep (fun _ h => h.congr rfl le_rfl) (fun {_ q} _ h => h.owner q) (hrest.fieldAct c)

/-! ### The day (R148, R199) -/

/-- The day that a request carries to the clock fits its field (R199). -/
def DayFits (q : Request) : Prop := ∀ t, q = .timeMark t ∨ q = .serviceStart (some t) → t.day ≤ 65535

theorem DayLaw.gives (h : DayLaw s) (hc : ClockGives DayFits now s.clock u.clock) : DayLaw u := by
  unfold DayLaw
  generalize u.clock = d at hc
  cases hc with
  | stays | degrade => exact h
  | advance =>
    intro t ht
    obtain ⟨o, ho, rfl⟩ := Option.map_eq_some_iff.1 ht
    exact nextSecond_day (h o ho)
  | mark hp => exact fun t ht => Option.some.inj ht ▸ hp _ (.inl rfl)
  | freeRun hp => exact fun t ht => Option.some.inj ht ▸ hp _ (.inr rfl)

theorem keptOn_dayLaw : KeptOn DayFits DayLaw := ⟨fun _ h => h, fun _ hq h => h.gives (owner_gives hq _)⟩

theorem pendingTimesFit_iff : s.pendingTimesFit ↔ s.pendingIs DayFits :=
  ⟨fun h f hf t ht => h f t hf ht, fun h f t hf ht => h f hf t ht⟩

theorem timeAt_day (o : Nat) (bs : List Byte) : (timeAt o bs).day ≤ 65535 := numAt_two_le ..

theorem requestOf_dayFits (k : Nat) (bs : List Byte) : DayFits (requestOf k bs) := by
  rintro t (ht | ht)
  · obtain ⟨-, rfl⟩ := requestOf_timeMark ht
    exact timeAt_day ..
  · have hread := requestOf_serviceStart ht
    unfold optAt at hread
    split at hread
    · exact Option.some.inj hread ▸ timeAt_day ..
    · exact nomatch hread

theorem day_of_fits {t : ServiceTime} (h : t.fits = true) : t.day ≤ 65535 := by
  simp only [ServiceTime.fits, fits16, Bool.and_eq_true, decide_eq_true_eq] at h
  omega

/-- A command that can reach the controller brings no day beyond its field, and nor does a frame. -/
theorem brings_dayFits {c : Instr} (h : c.wellFormed = true) (s : State) : Brings DayFits c s := by
  refine ⟨fun f hf t ht => ?_, fun b _ => requestOf_dayFits _ _⟩
  obtain ⟨tag, q⟩ := f
  rcases ht with rfl | rfl
  · obtain rfl := requestFrameOf_timeMark hf
    exact day_of_fits h
  · obtain rfl := requestFrameOf_serviceStart hf
    exact day_of_fits h

theorem DayLaw.fieldAct (h : DayLaw s) (c : Instr) : DayLaw (fieldAct c s) := by
  by_cases hc : ∀ pins, c ≠ .powerOnReset pins
  · exact h.gives (fieldAct_gives _ hc s)
  · push Not at hc
    obtain ⟨pins, rfl⟩ := hc
    exact nofun

theorem DayLaw.step (h : DayLaw s) (hf : s.commandsFit) (hp : s.pendingTimesFit) (hs : step s = .next t) :
    DayLaw t ∧ t.pendingTimesFit := by
  rw [pendingTimesFit_iff] at hp ⊢
  unfold Machine.step at hs
  split at hs
  · obtain rfl := Host.Outcome.next.inj hs
    exact ⟨by simpa [tick, DayLaw] using h, by simpa [tick, State.pendingIs] using hp⟩
  · next c rest hq =>
    have hrest : DayLaw { s with pending := rest } := h
    exact keptOn_dayLaw.exec (brings_dayFits (hf c (by simp [hq])) _) (hrest.fieldAct c) hp hs

/-! ### Service time moves backward only by a TIME_MARK (R160) -/

/-- Service time and the run times of the last mark and of the setting are kept or raised. -/
def Clock.KeptOrRaised (c d : Clock) : Prop :=
  (∀ o, c.time = some o → ∃ n, d.time = some n ∧ absSecond o ≤ absSecond n) ∧
  (∀ r, c.lastMark = some r → ∃ q, d.lastMark = some q ∧ r ≤ q) ∧
  (∀ r, c.settingRunTime = some r → ∃ q, d.settingRunTime = some q ∧ r ≤ q)

theorem Clock.KeptOrRaised.refl (c : Clock) : c.KeptOrRaised c :=
  ⟨fun o ho => ⟨o, ho, le_rfl⟩, fun r hr => ⟨r, hr, le_rfl⟩, fun r hr => ⟨r, hr, le_rfl⟩⟩

theorem exists_le_trans {α : Type} {f : α → Nat} {a b d : Option α} (h : ∀ x, a = some x → ∃ y, b = some y ∧ f x ≤ f y)
    (h' : ∀ x, b = some x → ∃ y, d = some y ∧ f x ≤ f y) (x : α) (hx : a = some x) : ∃ y, d = some y ∧ f x ≤ f y := by
  obtain ⟨y, hy, hxy⟩ := h x hx
  obtain ⟨z, hz, hyz⟩ := h' y hy
  exact ⟨z, hz, hxy.trans hyz⟩

theorem Clock.KeptOrRaised.trans (h : c.KeptOrRaised d) (h' : d.KeptOrRaised e) : c.KeptOrRaised e := by
  obtain ⟨htime, hmark, hset⟩ := h
  obtain ⟨htime', hmark', hset'⟩ := h'
  exact ⟨exists_le_trans htime htime', exists_le_trans (f := id) hmark hmark', exists_le_trans (f := id) hset hset'⟩

/-- A request that is no TIME_MARK. -/
def NoMark (q : Request) : Prop := ∀ m, q ≠ .timeMark m

/-- Of the changes of a sound clock only the setting of a TIME_MARK can move service time back. -/
theorem ClockGives.keptOrRaised (h : ClockLaw s) (hc : ClockGives NoMark s.runTime s.clock d) :
    s.clock.KeptOrRaised d := by
  obtain ⟨hunset, -, -, hsecond, hsetting, -⟩ := h
  obtain ⟨htime, hmark, hset⟩ := Clock.KeptOrRaised.refl s.clock
  cases hc with
  | stays | degrade => exact ⟨htime, hmark, hset⟩
  | advance => exact ⟨fun o ho => ⟨nextSecond o, by simp [ho], le_nextSecond (hsecond o ho)⟩, hmark, hset⟩
  | mark hp => exact absurd rfl (hp _)
  | @freeRun t _ _ hahead =>
    refine ⟨fun o ho => ⟨t, rfl, ?_⟩, hmark, fun r hr => ⟨s.runTime, rfl, hsetting r hr⟩⟩
    rcases hahead with hu | hle
    · simp [hunset.1 hu] at ho
    · exact hle o ho

/-- From a clock `c` an event that takes no TIME_MARK keeps or raises service time. -/
theorem keptOn_keptOrRaised (c : Clock) :
    KeptOn NoMark (fun u => ClockLaw u ∧ c.KeptOrRaised u.clock) := by
  refine ⟨fun _ h => h, fun _ hq h => ?_⟩
  obtain ⟨hlaw, hraised⟩ := h
  exact ⟨hlaw.owner _, hraised.trans (ClockGives.keptOrRaised hlaw (owner_gives hq _))⟩

theorem brings_no_timeMark {c : Instr} (hc : ∀ tag m, c ≠ .timeMark tag m) (hf : s.link.framer.stored[2]? ≠ some 0x10#8) :
    Brings NoMark c s := by
  refine ⟨fun f hrequest m hm => ?_, fun b hb => frameRequest_ne_timeMark hf hb⟩
  obtain ⟨tag, q⟩ := f
  subst hm
  exact hc tag m (requestFrameOf_timeMark hrequest)

theorem ClockLaw.step_keptOrRaised (h : ClockLaw s) (hs : Machine.step s = .next t)
    (hr : ∀ pins rest, s.pending ≠ .powerOnReset pins :: rest)
    (hm : ∀ tag m rest, s.pending ≠ .timeMark tag m :: rest) (hp : s.pendingIs NoMark)
    (hf : s.link.framer.stored[2]? ≠ some 0x10#8) : s.clock.KeptOrRaised t.clock := by
  unfold Machine.step at hs
  split at hs
  · obtain rfl := Host.Outcome.next.inj hs
    simpa [tick] using Clock.KeptOrRaised.refl s.clock
  · next c rest hq =>
    have hc : ∀ pins, c ≠ .powerOnReset pins := fun pins e => hr pins rest (e ▸ hq)
    have hrest : ClockLaw { s with pending := rest } := h.congr rfl le_rfl
    have hfield := ClockGives.keptOrRaised hrest (fieldAct_gives _ hc _)
    have hkept := (keptOn_keptOrRaised s.clock).exec (s := { s with pending := rest })
      (brings_no_timeMark (fun tag m e => hm tag m rest (e ▸ hq)) hf) ⟨hrest.fieldAct c, hfield⟩ hp hs
    exact hkept.1.2

end

/-- Settles O28: every act is one of the changes of `ClockGives`, each of which keeps the law (`ClockLaw.gives`) and, with days that fit
their fields, the range of the day (`DayLaw.gives`); commands and frames bring only such days (`brings_dayFits`). -/
theorem clockStaysSound : Obligations.ClockStaysSound := ⟨fun _ _ h hs => h.step hs, fun _ _ h hf hp hs => h.step hf hp hs⟩

/-- Settles O29: without a TIME_MARK each change of `ClockGives` keeps or raises service time (`ClockGives.keptOrRaised`), and none of the
requests that the step can take is one (`brings_no_timeMark`). -/
theorem onlyMarksMoveTimeBack : Obligations.OnlyMarksMoveTimeBack := by
  intro s t o h hs ho hr hm hp hf
  obtain ⟨htime, hmark, hset⟩ := h.step_keptOrRaised hs hr hm (fun f hf m => hp f m hf) hf
  exact ⟨htime o ho, hmark, hset⟩

end Sys2Proof.Machine
end

section
/-! SUPPORT. The free orders as permutations (log 3), and the timed events that an idle millisecond queues (R147; log 2). -/

namespace Sys2Proof.Machine

open Sys2Proof

section
variable {s t : State}

/-! ### Free orders (log 3) -/

theorem insertKeyed_perm {α : Type} (x : Nat × α) (l : List (Nat × α)) : (insertKeyed x l).Perm (x :: l) := by
  induction l with
  | nil => exact .refl _
  | cons y l ih =>
    unfold insertKeyed
    split
    · exact .refl _
    · exact (ih.cons y).trans (.swap x y l)

theorem sortKeyed_perm {α : Type} (l : List (Nat × α)) : (sortKeyed l).Perm l := by
  induction l with
  | nil => exact .refl _
  | cons x l ih => exact (insertKeyed_perm x _).trans (ih.cons x)

theorem arrange_perm {α : Type} (draw : Nat) (l : List α) : (arrange draw l).Perm l := by
  have h := (sortKeyed_perm (keyed draw 0 l)).map Prod.snd
  rwa [keyed_map_snd] at h

theorem freeOrder_perm {α : Type} (l : List α) (s : State) : (freeOrder l s).1.Perm l := by
  unfold freeOrder
  split
  · exact .refl _
  · exact .refl _
  · exact arrange_perm ..

/-- A free order changes nothing but the count of orders drawn, which rises when there is a choice. -/
theorem freeOrder_state {α : Type} (l : List α) (s : State) :
    (freeOrder l s).2 = { s with draws := if l.length < 2 then s.draws else s.draws + 1 } := by
  unfold freeOrder
  split
  · rfl
  · rfl
  · next h0 h1 =>
    match l, h0, h1 with
    | [], h0, _ => exact absurd rfl h0
    | [x], _, h1 => exact absurd rfl (h1 x)
    | x :: y :: l, _, _ => simp

/-! ### The events that are due (R36, R47, R49, R147, R149, R154, R177, R196, R207) -/

theorem mem_dueWhen {b : Bool} {i c : Instr} : c ∈ dueWhen b i ↔ c = i ∧ b = true := by
  unfold dueWhen
  split <;> simp [*]

theorem elim_decide_iff {α : Type} {o : Option α} {p : α → Prop} [DecidablePred p] :
    (o.elim false fun x => decide (p x)) = true ↔ ∃ x, o = some x ∧ p x := by cases o <;> simp

theorem advanceDue_iff : s.advanceDue = true ↔
    s.clock.state ≠ .unset ∧ ∃ r, s.clock.settingRunTime = some r ∧ r + 1000 * (s.clock.advances + 1) ≤ s.runTime := by
  simp only [State.advanceDue, Bool.and_eq_true, decide_eq_true_eq, elim_decide_iff]

theorem windowOut_iff : s.windowOut = true ↔
    s.clock.state = .synced ∧ ∃ r, s.clock.lastMark = some r ∧ 1000 * s.supervisor.setup.markWindow < s.runTime - r := by
  simp only [State.windowOut, Bool.and_eq_true, decide_eq_true_eq, elim_decide_iff]

theorem beam_due_iff (now : Nat) (b : Beam) : b.due now = true ↔ ∃ m, b.measure = some m ∧ m.start + m.length ≤ now := by
  simp only [Beam.due, elim_decide_iff]

theorem timerDue_iff (now : Nat) (d : Option Nat) : timerDue now d = true ↔ ∃ x, d = some x ∧ x ≤ now := by
  simp only [timerDue, elim_decide_iff]

theorem mem_laneDue (c : Instr) (i : LaneIx) : c ∈ s.laneDue i ↔
    (c = .beamAcceptedChange i ∧ ∃ m, ((s.lane i).beamA.measure = some m ∨ (s.lane i).beamB.measure = some m) ∧
      m.start + m.length ≤ s.runTime) ∨
    (c = .barrierTimerExpiry i ∧ ∃ d, (s.lane i).barrierTimer = some d ∧ d ≤ s.runTime) ∨
    (c = .passageTimerExpiry i ∧ ∃ d, (s.lane i).passageTimer = some d ∧ d ≤ s.runTime) ∨
    (c = .clearTimerExpiry i ∧ ∃ d, (s.lane i).clearTimer = some d ∧ d ≤ s.runTime) ∨
    (c = .lampPulseEnd i ∧ ∃ d, (s.lamp i).pulseDue = some d ∧ d ≤ s.runTime) := by
  simp only [State.laneDue, List.mem_append, mem_dueWhen, Bool.or_eq_true, beam_due_iff, timerDue_iff, or_and_right, exists_or,
    or_assoc]

theorem mem_dueEvents (c : Instr) : c ∈ s.dueEvents ↔
    (c = .serviceTimeAdvance ∧ s.advanceDue = true) ∨ (c = .markWindowExpiry ∧ s.windowOut = true) ∨
    (c = .emergencyLineAcceptedChange ∧ s.lineDue = true) ∨ (c = .frameGapTimeout ∧ s.gapOver = true) ∨
    (c = .transmitFrameEnd ∧ s.frameDue = true) ∨ ∃ i, c ∈ s.laneDue i := by
  simp only [State.dueEvents, List.mem_append, mem_dueWhen, List.mem_flatMap, mem_allLanes, true_and, or_assoc]

/-- One millisecond later. -/
def State.later (s : State) : State := { s with runTime := s.runTime + 1 }

/-- An idle step lets a millisecond pass, draws an order if there is a choice, and queues what is then due (R147). -/
theorem tick_eq (s : State) : ∃ due draws,
    tick s = { s with runTime := s.runTime + 1, draws := draws, pending := s.pending ++ due } ∧
      ∀ c, c ∈ due ↔ c ∈ s.later.dueEvents := by
  refine ⟨(freeOrder s.later.dueEvents s.later).1, (freeOrder s.later.dueEvents s.later).2.draws, ?_, fun c => mem_freeOrder ..⟩
  change { (freeOrder s.later.dueEvents s.later).2 with
    pending := (freeOrder s.later.dueEvents s.later).2.pending ++ (freeOrder s.later.dueEvents s.later).1 } = _
  rw [freeOrder_state]
  rfl

/-! ### Every command answers (R147) -/

theorem exec_next (c : Instr) (s : State) : ∃ t, exec c s = .next t := by cases c <;> exact ⟨_, rfl⟩

theorem exec_pending {c : Instr} (h : exec c s = .next t) : t.pending = s.pending :=
  (exec_linkActs h).keep (P := fun u => u.pending = s.pending) (fun _ hu => hu) (fun _ hu => (owner_pending ..).trans hu)
    (fieldAct_pending c s)

theorem exec_runTime {c : Instr} (hc : ∀ pins, c ≠ .powerOnReset pins) (h : exec c s = .next t) : t.runTime = s.runTime :=
  (exec_linkActs h).keep (P := fun u => u.runTime = s.runTime) (fun _ hu => hu) (fun _ hu => (owner_runTime ..).trans hu)
    (fieldAct_runTime hc s)

end

/-- Settles O2: acts in the field and owners leave the queue and run time as they are (`exec_pending`, `exec_runTime`), and an idle step
queues the due events (`tick_eq`, `mem_dueEvents`). -/
theorem runTimePassesOnlyInIdleSteps : Obligations.RunTimePassesOnlyInIdleSteps := by
  refine ⟨fun c s => ?_, fun s hq => ?_⟩
  · obtain ⟨t, ht⟩ := exec_next c s
    exact ⟨t, ht, exec_pending ht, fun hc => exec_runTime hc ht⟩
  · obtain ⟨due, draws, htick, hdue⟩ := tick_eq s
    refine ⟨tick s, by simp [step, hq], ?_, ?_, fun c => ?_⟩
    · rw [htick]
    · rw [htick, ← hq]
    · rw [htick, hq, List.nil_append, hdue, mem_dueEvents]
      simp only [mem_laneDue, advanceDue_iff, windowOut_iff, State.lineDue, State.gapOver, State.frameDue, elim_decide_iff,
        Bool.and_eq_true, decide_eq_true_eq]
      rfl

end Sys2Proof.Machine
end

section
/-! SUPPORT. The trigger of the clock as one order of closings and the switch (R157, R19, R139, R140; log 3), and what a TIME_MARK, an
advance and the end of the mark window make of the state (R149, R151 to R155). -/

namespace Sys2Proof.Machine

open Sys2Proof

@[simp] theorem posting_tariff (ns : List Notice) (s : State) : (State.posting ns s).tariff = s.tariff := by rw [posting_eq]

section
variable {s u : State} {now : ServiceTime}

/-! ### Whose test at a trigger has an effect (R19, R139) -/

theorem departureDue_iff (b : BerthIx) : s.departureDue b = true ↔
    ∃ trip d now, s.berth b = some trip ∧ trip.phase = .opened ∧ trip.context.closeAtDeparture = true ∧
      trip.context.departure = some d ∧ s.clock.time = some now ∧ absSecond d ≤ absSecond now := by
  unfold State.departureDue Trip.departureReached
  cases s.berth b with
  | none => simp
  | some t => cases hd : t.context.departure <;> cases s.clock.time <;> simp [hd]

theorem switchDue_iff : s.switchDue = true ↔
    ∃ p now, s.tariff.pendingSwitch = some p ∧ s.clock.time = some now ∧ absSecond p.effective ≤ absSecond now := by
  unfold State.switchDue
  cases s.tariff.pendingSwitch <;> cases s.clock.time <;> simp

/-- A trigger at a moment before every closing and switch that waits changes nothing. -/
theorem giveTrigger_of_ahead (hn : s.clock.time = some now)
    (hb : ∀ b t d, s.berth b = some t → t.phase = .opened → t.context.closeAtDeparture = true → t.context.departure = some d →
      absSecond now < absSecond d)
    (hp : ∀ p, s.tariff.pendingSwitch = some p → absSecond now < absSecond p.effective) : giveTrigger s = s := by
  have hberth : ∀ b, s.departureDue b = false := fun b => by
    rw [← Bool.not_eq_true, departureDue_iff]
    rintro ⟨t, d, n, ht, ho, hc, hd, hn', hle⟩
    obtain rfl := Option.some.inj (hn.symm.trans hn')
    exact absurd (hb b t d ht ho hc hd) (not_lt.2 hle)
  have hswitch : s.switchDue = false := switchDue_eq_false.2 fun p n hs hn' => by
    obtain rfl := Option.some.inj (hn.symm.trans hn')
    exact hp p hs
  have hnone : s.triggerTasks = [] := by simp [State.triggerTasks, hberth, hswitch]
  rw [giveTrigger_eq, hnone]
  rfl

/-! ### The order of a trigger's effects (R157; log 3) -/

/-- A task as `TriggerGives` names it. -/
def TriggerTask.place : TriggerTask → Option BerthIx
  | .berth b => some b
  | .tariff => none

theorem place_injective : Function.Injective TriggerTask.place := by
  intro x y h
  cases x <;> cases y <;> simp_all [TriggerTask.place]

theorem triggerTasks_nodup (s : State) : s.triggerTasks.Nodup := by
  have hberths : ((allBerths.filter fun b => s.departureDue b).map TriggerTask.berth).Nodup :=
    (nodup_allBerths.filter _).map fun _ _ h => TriggerTask.berth.inj h
  unfold State.triggerTasks
  refine hberths.append (by split <;> simp) fun x hx hx' => ?_
  obtain ⟨b, -, rfl⟩ := List.mem_map.1 hx
  split at hx' <;> simp at hx'

/-- The owners' tests are the effects `f` of their places: each task's own test still finds what it found in `s`, as none is run twice and
no other touches its berth or the store. -/
theorem foldl_runTask_eq {f : State → Option BerthIx → State} (hf : ∀ u b, f u (some b) = closeBerth b .departureTime u)
    (hf' : ∀ u, u.tariff = s.tariff → u.clock = s.clock → s.switchDue = true → f u none = effectiveTrigger u)
    (tasks : List TriggerTask) (hdue : ∀ x ∈ tasks, x ∈ s.triggerTasks) (hnodup : tasks.Nodup) (hclock : u.clock = s.clock)
    (hberth : ∀ b, .berth b ∈ tasks → u.berth b = s.berth b) (htariff : .tariff ∈ tasks → u.tariff = s.tariff) :
    tasks.foldl runTask u = (tasks.map TriggerTask.place).foldl f u := by
  induction tasks generalizing u with
  | nil => rfl
  | cons x tasks ih =>
    obtain ⟨hx, hnodup⟩ := List.nodup_cons.1 hnodup
    have hdx := hdue x List.mem_cons_self
    have hsame : runTask u x = f u x.place := by
      cases x with
      | berth b =>
        have hd : u.departureDue b = true := by
          rw [State.departureDue, hberth b List.mem_cons_self, hclock]
          exact (mem_triggerTasks s b).1 hdx
        exact (if_pos hd).trans (hf u b).symm
      | tariff => exact (hf' u (htariff List.mem_cons_self) hclock ((tariff_mem_triggerTasks s).1 hdx)).symm
    rw [List.foldl_cons, List.map_cons, List.foldl_cons, ← hsame]
    refine ih (fun y hy => hdue y (List.mem_cons_of_mem x hy)) hnodup ((runTask_clock ..).trans hclock) (fun b hb => ?_) fun ht => ?_
    · exact (runTask_berth_other (fun e : x = .berth b => hx (e ▸ hb)) u).trans (hberth b (List.mem_cons_of_mem x hb))
    · cases x with
      | berth b => exact (closeAtDeparture_tariff b u).trans (htariff (List.mem_cons_of_mem _ ht))
      | tariff => exact absurd ht hx

/-- A trigger runs the tests that have an effect, each once, in a free order. -/
theorem triggerGives_giveTrigger (s : State) : TriggerGives s (giveTrigger s) := by
  have hperm := freeOrder_perm s.triggerTasks s
  have hnodup := hperm.nodup_iff.2 (triggerTasks_nodup s)
  refine ⟨(freeOrder s.triggerTasks s).1.map TriggerTask.place, hnodup.map place_injective, fun b => ?_, ?_, ?_⟩
  · have hplace := List.mem_map_of_injective place_injective (a := .berth b) (l := (freeOrder s.triggerTasks s).1)
    exact hplace.trans ((mem_freeOrder ..).trans ((mem_triggerTasks s b).trans (departureDue_iff b)))
  · have hplace := List.mem_map_of_injective place_injective (a := .tariff) (l := (freeOrder s.triggerTasks s).1)
    exact hplace.trans ((mem_freeOrder ..).trans ((tariff_mem_triggerTasks s).trans switchDue_iff))
  · rw [giveTrigger_eq, freeOrder_state, List.length_map, hperm.length_eq]
    refine foldl_runTask_eq (s := s) (fun u b => rfl) (fun u ht hc hd => ?_) _ (fun x hx => (mem_freeOrder ..).1 hx) hnodup rfl
      (fun _ _ => rfl) fun _ => rfl
    have hdu : u.switchDue = true := by rwa [State.switchDue, ht, hc]
    cases hset : s.tariff.staged.complete? with
    | none => simp [effectiveTrigger, ht, hset]
    | some set =>
      rw [effectiveTrigger_of_due hdu (ht ▸ hset), completeSwitch_eq, State.activeGeneration, ht, hc]
      rfl

/-! ### TIME_MARK (R151, R152, R153) -/

theorem setTimeState_eq (st : TimeState) (c : TimeCause) (s : State) : setTimeState st c s =
    State.posting (if s.clock.state = st then [] else [.timeState s.clock.state st c s.clock.time])
      { s with clock := { s.clock with state := st } } := by
  unfold setTimeState
  split
  · next h => subst h; rfl
  · rfl

/-- The notices of a TIME_MARK that finds the clock `c` (R152, R153). -/
def markNotices (c : Clock) (m : ServiceTime) : List Notice :=
  (match c.time with
    | none => []
    | some o =>
      if absSecond o + 2 < absSecond m then [.timeStep o m .forward]
      else if absSecond m + 2 < absSecond o then [.timeStep o m .backward] else []) ++
    (if c.state = .synced then [] else [.timeState c.state .synced .mark (some m)])

theorem markNotices_eq (c : Clock) (m : ServiceTime) :
    markNotices c m =
      (stepNotice c.time m).toList ++ (if c.state = .synced then [] else [.timeState c.state .synced .mark (some m)]) := by
  unfold markNotices stepNotice
  cases c.time with
  | none => rfl
  | some o => dsimp only; split_ifs <;> rfl

/-- The state in which the trigger of a TIME_MARK is given. -/
def marked (m : ServiceTime) (s : State) : State :=
  State.posting (markNotices s.clock m) { s with clock := ⟨.synced, some m, some s.runTime, some s.runTime, 0⟩ }

@[simp] theorem marked_time (m : ServiceTime) (s : State) : (marked m s).clock.time = some m := by simp [marked]
@[simp] theorem marked_tariff (m : ServiceTime) (s : State) : (marked m s).tariff = s.tariff := by simp [marked]
@[simp] theorem marked_berth (m : ServiceTime) (s : State) (b : BerthIx) : (marked m s).berth b = s.berth b :=
  posting_berth ..

theorem ownTimeMark_eq {m : ServiceTime} (h : m.second ≤ 86399) (s : State) : ownTimeMark m s =
    (giveTrigger (marked m s), .timeMark .synced m (s.clock.time.map fun o => (absSecond m : Int) - absSecond o)) := by
  have hr : timeInRange m ≠ false := by rwa [Ne, Bool.not_eq_false, timeInRange_iff]
  unfold ownTimeMark marked
  rw [if_neg hr]
  dsimp only
  rw [setTimeState_eq, postOpt_eq, markNotices_eq, posting_append]
  simp only [posting_eq, setTime]

theorem exec_timeMark {tag : Byte} {m : ServiceTime} {p : Reply} (hs : s.slotFree) (ho : ownTimeMark m (countTaken s) = (u, p)) :
    exec (.timeMark tag m) s = .next (State.answering 0x10 tag p u) :=
  exec_of_owner (q := .timeMark m) hs rfl rfl ho

/-! ### The advance of service time (R149) -/

theorem exec_serviceTimeAdvance (h : serviceAdvance s = u) : exec .serviceTimeAdvance s = .next (endOfEvent u) := h ▸ rfl

theorem serviceAdvance_of_due (hd : s.advanceDue = true) (hn : s.clock.time = some now) : serviceAdvance s =
    if nextSecond now = now then { s with clock := { s.clock with advances := s.clock.advances + 1 } }
    else giveTrigger { s with clock := { s.clock with time := some (nextSecond now), advances := s.clock.advances + 1 } } := by
  unfold serviceAdvance
  rw [if_pos hd]
  dsimp only
  rw [hn]

/-! ### The end of the mark window (R154, R143) -/

theorem exec_markWindowExpiry (h : windowExpiry s = u) : exec .markWindowExpiry s = .next (endOfEvent u) := h ▸ rfl

theorem windowExpiry_of_not_out (h : ¬s.windowOut = true) : windowExpiry s = s := if_neg h

theorem cancelSwitch_of_none (h : s.tariff.pendingSwitch = none) (c : CancelCause) : cancelSwitch c s = s := by
  unfold cancelSwitch
  rw [h]

theorem windowExpiry_of_out (h : s.windowOut = true) : windowExpiry s = State.posting
    (.timeState .synced .degraded .window s.clock.time ::
      (match s.tariff.pendingSwitch with
        | none => []
        | some p => [.tariffCancelled .time p.generation p.effective s.activeGeneration]))
    { s with clock := { s.clock with state := .degraded }, tariff := { s.tariff with pendingSwitch := none } } := by
  have hs := windowOut_synced h
  unfold windowExpiry
  rw [if_pos h, setTimeState_eq, hs, if_neg (by decide)]
  cases hp : s.tariff.pendingSwitch with
  | none =>
    have hkept : { s.tariff with pendingSwitch := none } = s.tariff := by rw [← hp]
    rw [hkept, cancelSwitch_of_none (by simpa using hp)]
  | some p =>
    rw [cancelSwitch_eq (p := p) (by simpa using hp)]
    simp only [posting_eq, List.foldl_cons, List.foldl_nil]
    rfl

end

/-- Settles O26: a TIME_MARK in range sets the clock and gives its trigger (`ownTimeMark_eq`), which changes nothing when all that waits
lies ahead (`giveTrigger_of_ahead`), and otherwise acts in a free order (`triggerGives_giveTrigger`). -/
theorem timeMarkSetsServiceTime : Obligations.TimeMarkSetsServiceTime := by
  intro tag m s hs
  refine ⟨fun hlate => ?_, fun hr hb hp => ?_, fun hr => ⟨giveTrigger (marked m (countTaken s)), ?_, ?_⟩⟩
  · exact exec_timeMark hs (by simp [ownTimeMark, timeInRange, hlate])
  · have hquiet : giveTrigger (marked m (countTaken s)) = marked m (countTaken s) :=
      giveTrigger_of_ahead (marked_time ..) (by simpa using hb) (by simpa using hp)
    have hmark := ownTimeMark_eq hr (countTaken s)
    rw [hquiet] at hmark
    exact exec_timeMark hs hmark
  · exact triggerGives_giveTrigger _
  · exact exec_timeMark hs (ownTimeMark_eq hr _)

/-- Settles O27: an advance that is due moves the clock by `nextSecond` and gives its trigger unless the last second is held
(`serviceAdvance_of_due`), and the mark window runs out exactly when `windowOut_iff` says so (`windowExpiry_of_out`). -/
theorem serviceTimeAdvancesAndMarkWindowRunsOut : Obligations.ServiceTimeAdvancesAndMarkWindowRunsOut := by
  refine ⟨fun s r now hu hset hn => ⟨fun hearly => ?_, fun hdue n hnext => ?_⟩, fun s => ⟨fun r hs hm hlt => ?_,
    fun hle => ?_, fun hs => ?_⟩⟩
  · have hno : ¬s.advanceDue = true := fun h => by
      obtain ⟨-, r', hr', hle⟩ := advanceDue_iff.1 h
      obtain rfl := Option.some.inj (hset.symm.trans hr')
      omega
    exact exec_serviceTimeAdvance (if_neg hno)
  · have hadvance := serviceAdvance_of_due (advanceDue_iff.2 ⟨hu, r, hset, hdue⟩) hn
    obtain rfl : n = nextSecond now := hnext
    refine ⟨fun hb hp => exec_serviceTimeAdvance (hadvance.trans ?_), fun hheld => ?_, fun hmoves => ?_⟩
    · split
      · next hheld => rw [hheld, ← hn]
      · exact giveTrigger_of_ahead (now := nextSecond now) (by rfl) hb hp
    · exact exec_serviceTimeAdvance (hadvance.trans (if_pos hheld))
    · exact ⟨_, triggerGives_giveTrigger _, exec_serviceTimeAdvance (hadvance.trans (if_neg hmoves))⟩
  · exact exec_markWindowExpiry (windowExpiry_of_out (windowOut_iff.2 ⟨hs, r, hm, hlt⟩))
  · refine exec_markWindowExpiry (windowExpiry_of_not_out fun h => ?_)
    obtain ⟨-, r, hm, hlt⟩ := windowOut_iff.1 h
    exact absurd (hle r hm) (not_le.2 hlt)
  · exact exec_markWindowExpiry (windowExpiry_of_not_out fun h => hs (windowOut_synced h))

end Sys2Proof.Machine
end

section
/-! SUPPORT. What a step can do to the berths and the journal, said once for every claim about these alone: a claim that each operation of a
berth keeps is kept by every step, whatever the lanes and the supervisor make of it. The chains of moves (`step_moves`) do not serve here: a
move that keeps the berths vacant (`Move.vacant`) leaves the waiting list open, and speaks only of states with trips in service. -/

namespace Sys2Proof.Machine

open Sys2Proof

/-- A claim about the berths and the journal alone that each operation of a berth keeps. -/
structure BerthRules (P : State → Prop) : Prop where
  same : ∀ {s u : State}, P s → u.berths = s.berths → u.journal = s.journal → P u
  powerOnReset : ∀ pins s, P (powerOnReset pins s)
  settle : ∀ {s}, P s → ∀ b, P (settle b s)
  edit : ∀ {s f}, P s → TripEdit f → ∀ b, P (recomputeFill b (changeTrip b f s))
  refuse : ∀ {s}, P s → ∀ b, P (countRefusal b s)
  close : ∀ {s b t}, P s → s.berth b = some t → t.phase = .opened → ∀ cause, P (closeBerth b cause s)
  justOpen : ∀ {s b}, P s → s.berth b = none → ∀ r, P (justOpened b r s)
  release : ∀ {s r rest}, P s → s.journal.records = r :: rest →
    P (serveWaiting { s with journal := { s.journal with records := rest } })

section
variable {P : State → Prop} {s : State}

/-! ### Closing conditions, triggers and reports (R5, R11 to R13, R17, R19, R20, R157) -/

theorem BerthRules.closeWhenFull (hP : BerthRules P) (h : P s) (b : BerthIx) : P (closeWhenFull b s) := by
  rcases closeWhenFull_eq b s with ⟨⟨t, ht, hp, -⟩, he⟩ | ⟨-, he⟩ <;> rw [he]
  · exact hP.close h ht hp _
  · exact h

theorem BerthRules.closeAtDeparture (hP : BerthRules P) (h : P s) (b : BerthIx) : P (closeAtDeparture b s) := by
  rcases closeAtDeparture_eq b s with ⟨⟨t, ht, hp, -⟩, he⟩ | ⟨-, he⟩ <;> rw [he]
  · exact hP.close h ht hp _
  · exact h

theorem BerthRules.openBerth (hP : BerthRules P) (h : P s) {b : BerthIx} (hv : s.berth b = none) (r : OpenRequest) :
    P (openBerth b r s) := by
  rw [openBerth_eq]
  exact hP.closeAtDeparture (hP.closeWhenFull (hP.justOpen h hv r) b) b

theorem BerthRules.amend (hP : BerthRules P) (h : P s) (b : BerthIx) (r : AmendRequest) :
    P (Machine.closeAtDeparture b (Machine.closeWhenFull b (recomputeFill b (changeTrip b (Trip.amend r) s)))) :=
  hP.closeAtDeparture (hP.closeWhenFull (hP.edit h (.amend r) b) b) b

theorem BerthRules.giveTrigger (hP : BerthRules P) (h : P s) : P (giveTrigger s) := by
  rw [giveTrigger_eq]
  refine List.foldlRecOn _ _ (hP.same h (by simp) (by simp)) fun u hu task _ => ?_
  cases task with
  | berth b => exact hP.closeAtDeparture hu b
  | tariff => exact hP.same hu (by simp [runTask]) (by simp [runTask])

/-- A lane's report changes a trip short of DEPARTED, then its berth's condition and settlement are tested (R11 to R13). -/
theorem BerthRules.report (hP : BerthRules P) (h : P s) {fwd : Bool} {f : Trip → Trip} (hf : LaneReport fwd f) (b : BerthIx) :
    P (tripEvent b fwd f s) := by
  have hedit := hP.edit h (.report hf) b
  unfold tripEvent
  split
  · exact h
  · split
    · exact h
    · refine hP.settle ?_ b
      split
      · exact hP.closeWhenFull hedit b
      · exact hedit

/-! ### One lane (R22, R31 to R43) -/

theorem BerthRules.post (hP : BerthRules P) (h : P s) (n : Notice) : P (post n s) := hP.same h (by simp) (by simp)

theorem BerthRules.settleBerthOf (hP : BerthRules P) (h : P s) (i : LaneIx) : P (settleBerthOf i s) := by
  unfold Machine.settleBerthOf
  split
  · exact h
  · exact hP.settle h _

theorem BerthRules.settleOpt (hP : BerthRules P) (h : P s) (o : Option BerthIx) : P (settleOpt o s) := by
  cases o with
  | none => exact h
  | some b => exact hP.settle h b

theorem BerthRules.reportTo (hP : BerthRules P) (h : P s) {fwd : Bool} {f : Trip → Trip} (hf : LaneReport fwd f) (i : LaneIx) :
    P (reportTo i (fun b => tripEvent b fwd f) s) := by
  unfold Machine.reportTo
  split
  · exact h
  · exact hP.report h hf _

theorem BerthRules.changeLane (hP : BerthRules P) (h : P s) (i : LaneIx) (f : Lane → Lane) : P (changeLane i f s) :=
  hP.same (u := Machine.changeLane i f s) h rfl rfl

/-- A lane takes another form, and its berth tests its settlement. -/
theorem BerthRules.turn (hP : BerthRules P) (h : P s) (i : LaneIx) (f : Lane → Lane) :
    P (Machine.settleBerthOf i (Machine.changeLane i f s)) :=
  hP.settleBerthOf (hP.changeLane h i f) i

theorem BerthRules.faultLane (hP : BerthRules P) (h : P s) (i : LaneIx) (c : LaneFaultCause) : P (faultLane i c s) :=
  hP.settleBerthOf (hP.post (hP.changeLane h i _) _) i

theorem BerthRules.dropHold (hP : BerthRules P) (h : P s) (i : LaneIx) (c : VoidCause) (k : Hold) (next : Lane → Lane) :
    P (dropHold i c k next s) :=
  hP.same h (by simp [Machine.dropHold]) (by simp [Machine.dropHold])

theorem BerthRules.voidHold (hP : BerthRules P) (h : P s) (i : LaneIx) (c : VoidCause) (k : Hold) (next : Lane → Lane) :
    P (voidHold i c k next s) :=
  hP.reportTo (hP.dropHold h i c k next) .void i

theorem BerthRules.consumeHold (hP : BerthRules P) (h : P s) (i : LaneIx) (k : Hold) : P (consumeHold i k s) :=
  hP.reportTo (hP.same h (by simp) (by simp)) .consumption i

theorem BerthRules.completeClosing (hP : BerthRules P) (h : P s) (i : LaneIx) : P (completeClosing i s) := by
  unfold Machine.completeClosing
  dsimp only
  split
  · exact hP.settleBerthOf (hP.post (hP.changeLane h i _) _) i
  · exact hP.turn h i _

theorem BerthRules.startClosing (hP : BerthRules P) (h : P s) (i : LaneIx) (f : Lane → Lane) : P (startClosing i f s) := by
  have hclosing := hP.turn h i fun l => (f l).toClosing s.runTime
  unfold Machine.startClosing
  dsimp only
  split
  · exact hclosing
  · exact hP.completeClosing hclosing i

/-! ### Beams and passages (R33, R34, R40) -/

theorem BerthRules.reportPassage (hP : BerthRules P) (h : P s) (i : LaneIx) (m : Movement) (eg : Bool) :
    P (reportPassage i m eg s) := by
  unfold Machine.reportPassage
  split
  · exact h
  · exact hP.reportTo h (.passage m eg) i

theorem BerthRules.takeMovement (hP : BerthRules P) (h : P s) (i : LaneIx) (m : Movement) (entry : EntrySide) :
    P (takeMovement i m entry s) := by
  have hpost (n : Option Notice) : P (postOpt n s) := hP.same h (by simp) (by simp)
  unfold Machine.takeMovement
  dsimp only
  split
  · split
    · exact hP.consumeHold (hpost _) i _
    · split
      · exact hP.reportPassage (hpost _) i m _
      · exact hP.reportTo (hP.reportPassage (hP.dropHold (hpost _) i _ _ _) i m _) .void i
  · exact h

theorem BerthRules.takeAccepted (hP : BerthRules P) (h : P s) (i : LaneIx) (old : Lane) : P (takeAccepted i old s) := by
  have hset (f : Lane → Lane) {v : State} (hv : P v) : P (setLane i f v) := hP.same hv rfl rfl
  unfold Machine.takeAccepted takeBeams
  dsimp only
  refine hP.same ?_ (followClear_berths ..) (followClear_journal ..)
  split
  · exact hset _ (hset _ h)
  · exact hP.takeMovement (hset _ (hset _ h)) i _ _

theorem BerthRules.beamRaw (hP : BerthRules P) (h : P s) (i : LaneIx) (a b : Bool) : P (beamRaw i a b s) := by
  have hset (f : Lane → Lane) : P (setLane i f s) := hP.same h rfl rfl
  unfold Machine.beamRaw
  dsimp only
  split
  · exact hset _
  · exact hP.takeAccepted (hset _) i _

theorem BerthRules.beamAccepted (hP : BerthRules P) (h : P s) (i : LaneIx) : P (beamAccepted i s) := by
  unfold Machine.beamAccepted
  split
  · exact hP.takeAccepted h i _
  · exact h

/-! ### Barrier events and timers (R31, R32, R34, R36 to R38) -/

theorem BerthRules.senseChange (hP : BerthRules P) (h : P s) (i : LaneIx) (o : Bool) : P (senseChange i o s) := by
  have hset : P (setLane i (fun l => { l with sense := o }) s) := hP.same h rfl rfl
  unfold Machine.senseChange
  dsimp only
  split
  · exact h
  · split
    · exact hP.turn hset i _
    · exact hP.turn hset i _
    · exact hP.faultLane hset i _
    · exact hP.completeClosing hset i
    · exact hP.faultLane hset i _
    · exact hset

theorem BerthRules.barrierExpiry (hP : BerthRules P) (h : P s) (i : LaneIx) : P (barrierExpiry i s) := by
  unfold Machine.barrierExpiry
  split
  · split
    · split
      · next k _ =>
        have hdrop := hP.dropHold h i .fault k (Lane.toFault .openTimeout)
        exact hP.reportTo (hP.post hdrop _) .void i
      · exact hP.faultLane h i _
    · exact hP.faultLane h i _
    · exact h
  · exact h

theorem BerthRules.passageExpiry (hP : BerthRules P) (h : P s) (i : LaneIx) : P (passageExpiry i s) := by
  unfold Machine.passageExpiry
  split
  · split
    · split
      · exact hP.voidHold h i _ _ _
      · exact hP.turn h i _
    · exact hP.same h rfl rfl
  · exact h

theorem BerthRules.clearExpiry (hP : BerthRules P) (h : P s) (i : LaneIx) : P (clearExpiry i s) := by
  unfold Machine.clearExpiry
  split
  · split
    · exact hP.startClosing h i _
    · exact hP.turn h i _
    · exact h
  · exact h

/-! ### Service and egress (R41 to R43, R186 to R189) -/

theorem BerthRules.laneAtStart (hP : BerthRules P) (h : P s) (i : LaneIx) : P (laneAtStart s i) := by
  unfold Machine.laneAtStart
  split
  · split
    · exact hP.faultLane h i _
    · exact hP.changeLane h i _
  · exact h

theorem BerthRules.laneToEgress (hP : BerthRules P) (h : P s) (i : LaneIx) : P (laneToEgress s i) := by
  unfold Machine.laneToEgress
  split
  · split
    · exact hP.voidHold h i _ _ _
    · exact hP.turn h i _
  · exact h

theorem BerthRules.laneFromEgress (hP : BerthRules P) (h : P s) (i : LaneIx) : P (laneFromEgress s i) := by
  unfold Machine.laneFromEgress
  split
  · exact hP.turn h i _
  · exact h

theorem BerthRules.setPontoon (hP : BerthRules P) (h : P s) (st : PontoonState) (ret : Option PontoonState) (c : PontoonCause) :
    P (setPontoon st ret c s) :=
  hP.same h (by simp) (by simp)

theorem BerthRules.enterEgress (hP : BerthRules P) (h : P s) (changed : Option EgressCause) : P (enterEgress changed s) := by
  have hentered := hP.setPontoon h .egress (some s.supervisor.state) .egressBegin
  unfold Machine.enterEgress
  exact foldl_lanes (f := Machine.laneToEgress) hP.laneToEgress (hP.same hentered (postOpt_berths ..) (postOpt_journal ..))

theorem BerthRules.leaveEgress (hP : BerthRules P) (h : P s) (c : EgressCause) : P (leaveEgress c s) := by
  have hleft := hP.setPontoon h (s.supervisor.returnState.getD .outOfService) none .egressEnd
  unfold Machine.leaveEgress
  exact foldl_lanes (f := Machine.laneFromEgress) hP.laneFromEgress (hP.post hleft _)

theorem BerthRules.demandEvent (hP : BerthRules P) (h : P s) (before : Bool) (c : EgressCause) : P (demandEvent before c s) := by
  unfold Machine.demandEvent
  split
  · exact h
  · split
    · split
      · exact hP.enterEgress h _
      · exact hP.enterEgress h _
      · exact hP.post h _
    · split
      · exact hP.leaveEgress h _
      · exact hP.post h _

/-- A change of the emergency line or of the request latch, with what it makes of the demand. -/
theorem BerthRules.supervisor (hP : BerthRules P) (h : P s) (v : Supervisor) (c : EgressCause) :
    P (Machine.demandEvent s.demand c { s with supervisor := v }) :=
  hP.demandEvent (hP.same (u := { s with supervisor := v }) h rfl rfl) _ _

theorem BerthRules.lineAccepted (hP : BerthRules P) (h : P s) : P (lineAccepted s) := by
  unfold Machine.lineAccepted
  split
  · exact hP.supervisor h _ _
  · exact h

theorem BerthRules.ownSetup (hP : BerthRules P) (h : P s) (r : SetupRequest) : P (ownSetup r s).1 := by
  unfold Machine.ownSetup
  split
  · exact h
  · split
    · exact h
    · dsimp only
      have hegress (p : Bool) {v : State} (hv : P v) : P (if p then Machine.enterEgress none v else v) := by
        split
        · exact hP.enterEgress hv none
        · exact hv
      have hwindow (p : Prop) [Decidable p] {v : State} (hv : P v) : P (if p then v else windowExpiry v) := by
        split
        · exact hv
        · exact hP.same hv (by simp) (by simp)
      have hout (p : Bool) {v : State} (hv : P v) : P (if p then Machine.setPontoon .outOfService none .setup v else v) := by
        split
        · exact hP.setPontoon hv ..
        · exact hv
      exact hegress _ (hwindow _ (hout _ (hP.same h (by simp) (by simp))))

theorem BerthRules.freeRun (hP : BerthRules P) (h : P s) (o : Option ServiceTime) : P (applyFreeRun o s) := by
  unfold applyFreeRun freeRunStart
  split
  · exact h
  · split
    · split
      · exact h
      · exact hP.giveTrigger (hP.same h (by simp) (by simp))
      · exact hP.giveTrigger (hP.same h (by simp) (by simp))
      · split
        · exact hP.giveTrigger (hP.same h (by simp) (by simp))
        · exact h
    · exact h

theorem BerthRules.ownServiceStart (hP : BerthRules P) (h : P s) (o : Option ServiceTime) : P (ownServiceStart o s).1 := by
  have hstarted := foldl_lanes (f := Machine.laneAtStart) hP.laneAtStart (hP.setPontoon (hP.freeRun h o) .inService none .start)
  unfold Machine.ownServiceStart
  split
  · exact h
  · split
    · exact h
    · split
      · exact h
      · split
        · exact h
        · dsimp only
          exact hstarted

/-! ### Service time (R149, R151, R157) -/

theorem BerthRules.ownTimeMark (hP : BerthRules P) (h : P s) (t : ServiceTime) : P (ownTimeMark t s).1 := by
  unfold Machine.ownTimeMark
  split
  · exact h
  · exact hP.giveTrigger (hP.same h (by simp) (by simp))

theorem BerthRules.serviceAdvance (hP : BerthRules P) (h : P s) : P (serviceAdvance s) := by
  unfold Machine.serviceAdvance
  dsimp only
  split
  · split
    · exact hP.same h rfl rfl
    · split
      · exact hP.same h rfl rfl
      · exact hP.giveTrigger (hP.same h rfl rfl)
  · exact h

/-! ### The berth and lane requests (R4, R15, R16, R39, R45) -/

theorem BerthRules.ownBerthOpen (hP : BerthRules P) (h : P s) (r : OpenRequest) : P (ownBerthOpen r s).1 := by
  refine atBerth_keeps h fun b => ?_
  dsimp only
  split
  · exact h
  · split
    · exact h
    · split
      · exact h
      · next hv =>
        split
        · exact h
        · exact hP.openBerth h (not_not.mp hv) r

theorem BerthRules.ownBerthClose (hP : BerthRules P) (h : P s) (n : Nat) : P (ownBerthClose n s).1 := by
  refine atBerth_keeps h fun b => ?_
  split
  · exact h
  · next ht =>
    split
    · next hp => exact hP.close h ht hp _
    · exact h
    · exact h

theorem BerthRules.ownBerthAmend (hP : BerthRules P) (h : P s) (r : AmendRequest) : P (ownBerthAmend r s).1 := by
  refine atBerth_keeps h fun b => ?_
  dsimp only
  split
  · exact h
  · split
    · exact h
    · exact hP.amend h b r

theorem BerthRules.ownLaneAssign (hP : BerthRules P) (h : P s) (n : Nat) (o : Option Nat) : P (ownLaneAssign n o s).1 := by
  refine atLane_keeps h fun i _ => ?_
  split
  · exact h
  · split
    · exact h
    · unfold assignLane
      dsimp only
      split
      · exact h
      · exact hP.settleOpt (hP.settleOpt (hP.changeLane h i _) _) _

theorem BerthRules.ownLaneReturn (hP : BerthRules P) (h : P s) (n : Nat) : P (ownLaneReturn n s).1 := by
  refine atLane_keeps h fun i _ => ?_
  split
  · exact h
  · exact hP.startClosing h i _

/-! ### Admissions (R10, R14) -/

theorem BerthRules.applyRefusal (hP : BerthRules P) (h : P s) (lane : Nat) : P (applyRefusal lane s) := by
  unfold Machine.applyRefusal Machine.reportTo
  split
  · exact h
  · refine hP.same (s := _) ?_ (raiseEvent_berths ..) (raiseEvent_journal ..)
    split
    · exact h
    · exact hP.refuse h _

theorem BerthRules.applyGrant (hP : BerthRules P) (h : P s) (i : LaneIx) (b : BerthIx) (ref card : Nat) (kind : AdmissionKind)
    (charge : Nat) (n : Option Notice) : P (applyGrant i b ref card kind charge n s) := by
  have htaken : P (takeHold i ⟨card, ref, charge, kind⟩ s) := hP.same h (by simp) (by simp)
  have hgrant := hP.edit htaken (.grant kind charge s.activeGeneration) b
  exact hP.same hgrant (postOpt_berths ..) (postOpt_journal ..)

theorem BerthRules.ownPresent (hP : BerthRules P) (h : P s) (lane : Nat) (c : Credential) : P (ownPresent lane c s).1 := by
  unfold Machine.ownPresent
  split
  · exact hP.applyRefusal h lane
  · dsimp only
    exact hP.applyGrant h _ _ _ _ _ _ _
  · dsimp only
    exact hP.applyGrant h _ _ _ _ _ _ _

theorem BerthRules.ownJournalRelease (hP : BerthRules P) (h : P s) (ref : Nat) : P (ownJournalRelease ref s).1 := by
  unfold Machine.ownJournalRelease
  split
  · exact h
  · split
    · exact h
    · next hrec =>
      split
      · exact h
      · exact hP.release h hrec

/-! ### The step -/

theorem BerthRules.owner (hP : BerthRules P) (h : P s) (q : Request) : P (owner q s).1 := by
  cases q with
  | setup r => exact hP.ownSetup h r
  | serviceStart t => exact hP.ownServiceStart h t
  | egressBegin =>
    unfold Machine.owner ownEgressBegin egressReply
    dsimp only
    split
    · exact h
    · exact hP.supervisor h _ _
  | egressEnd =>
    unfold Machine.owner ownEgressEnd egressReply
    dsimp only
    split
    · exact hP.supervisor h _ _
    · exact h
  | timeMark t => exact hP.ownTimeMark h t
  | berthOpen r => exact hP.ownBerthOpen h r
  | berthClose n => exact hP.ownBerthClose h n
  | berthAmend r => exact hP.ownBerthAmend h r
  | laneAssign n o => exact hP.ownLaneAssign h n o
  | laneReturn n => exact hP.ownLaneReturn h n
  | present n c => exact hP.ownPresent h n c
  | journalRelease ref => exact hP.ownJournalRelease h ref
  | _ => exact hP.same h (by simp [Machine.owner]) (by simp [Machine.owner])

/-- Each event and each owner of a request keeps what each operation of a berth keeps. -/
theorem BerthRules.stepRules (hP : BerthRules P) : StepRules P where
  frames _ hb hj _ h := hP.same h hb hj
  owner _ h := hP.owner h _
  powerOnReset := hP.powerOnReset
  beamRaw i a b _ h := hP.beamRaw h i a b
  beamAccepted i _ h := hP.beamAccepted h i
  senseChange i o _ h := hP.senseChange h i o
  barrierExpiry i _ h := hP.barrierExpiry h i
  passageExpiry i _ h := hP.passageExpiry h i
  clearExpiry i _ h := hP.clearExpiry h i
  serviceAdvance h := hP.serviceAdvance h
  lineRaw _ _ h := hP.same h (by simp) (by simp)
  lineAccepted h := hP.lineAccepted h

end

end Sys2Proof.Machine
end

section
/-! SUPPORT. The law of the Trip Journal and its waiting list under each operation of a berth (R22 to R24, R169, R171, R174). -/

namespace Sys2Proof.Machine

open Sys2Proof

/-- The berth stands DEPARTED. -/
def Departed (x : Berth) : Prop := ∃ t, x = some t ∧ t.phase = .departed

/-- A trip holds its record exactly while it is DEPARTED (R23). -/
def RecordStands (x : Berth) : Prop := ∀ t, x = some t → (t.phase = .departed ↔ t.record ≠ none)

/-- The laws of the journal and of its waiting list together, each clause about one berth at a time (R24, R169). -/
structure Filed (s : State) : Prop where
  depth : s.journal.records.length ≤ 8
  full : s.journal.waiting ≠ [] → s.journal.records.length = 8
  once : s.journal.waiting.Nodup
  waits : ∀ b, b ∈ s.journal.waiting ↔ Departed (s.berth b)
  records : ∀ b, RecordStands (s.berth b)

theorem filed_iff (s : State) : Filed s ↔ JournalLaw s ∧ WaitingLaw s := by
  constructor
  · rintro ⟨hdepth, hfull, honce, hwaits, hrecords⟩
    refine ⟨⟨hdepth, hfull, honce, fun b t ht => ⟨?_, hrecords b t ht⟩⟩, fun b hb => ?_⟩
    · rw [hwaits b, Departed, ht]
      simp
    · obtain ⟨t, ht, -⟩ := (hwaits b).mp hb
      simp [ht]
  · rintro ⟨⟨hdepth, hfull, honce, htrips⟩, hwaiting⟩
    refine ⟨hdepth, hfull, honce, fun b => ⟨fun hb => ?_, ?_⟩, fun b t ht => (htrips b t ht).2⟩
    · obtain ⟨t, ht⟩ := Option.ne_none_iff_exists'.mp (hwaiting b hb)
      exact ⟨t, ht, (htrips b t ht).1.mp hb⟩
    · rintro ⟨t, ht, hp⟩
      exact (htrips b t ht).1.mpr hp

section
variable {s u : State} {b : BerthIx} {t : Trip}

@[simp] theorem not_departed_none : ¬Departed none := fun ⟨_, h, _⟩ => nomatch h

@[simp] theorem departed_some (t : Trip) : Departed (some t) ↔ t.phase = .departed := by simp [Departed]

@[simp] theorem recordStands_none : RecordStands none := fun _ h => nomatch h

@[simp] theorem recordStands_some (t : Trip) : RecordStands (some t) ↔ (t.phase = .departed ↔ t.record ≠ none) := by
  simp [RecordStands]

theorem Filed.same (h : Filed s) (hb : u.berths = s.berths) (hj : u.journal = s.journal) : Filed u where
  depth := hj ▸ h.depth
  full := hj ▸ h.full
  once := hj ▸ h.once
  waits c := by rw [hj, berth_congr hb]; exact h.waits c
  records c := by rw [berth_congr hb]; exact h.records c

/-- One berth takes another form and waits exactly if it is then DEPARTED; the other berths wait as they did. -/
theorem Filed.refile (h : Filed s) {x : Berth} (hb : u.berths = s.berths.set b x) (hdepth : u.journal.records.length ≤ 8)
    (hfull : u.journal.waiting ≠ [] → u.journal.records.length = 8) (honce : u.journal.waiting.Nodup)
    (hself : b ∈ u.journal.waiting ↔ Departed x) (hother : ∀ c, c ≠ b → (c ∈ u.journal.waiting ↔ c ∈ s.journal.waiting))
    (hr : RecordStands x) : Filed u := by
  have hberth (c : BerthIx) : u.berth c = if c = b then x else s.berth c := by
    rw [State.berth, hb, PerBerth.get_set, State.berth]
  refine ⟨hdepth, hfull, honce, fun c => ?_, fun c => ?_⟩ <;> rw [hberth] <;> split
  · next hc => rw [hc, hself]
  · next hc => rw [hother c hc, h.waits c]
  · exact hr
  · exact h.records c

/-- A berth takes another form, DEPARTED only if it was; the journal stands. -/
theorem Filed.set (h : Filed s) {x : Berth} (hb : u.berths = s.berths.set b x) (hj : u.journal = s.journal)
    (hd : Departed x ↔ Departed (s.berth b)) (hr : RecordStands x) : Filed u :=
  h.refile hb (hj ▸ h.depth) (hj ▸ h.full) (hj ▸ h.once) (by rw [hj, h.waits b, hd]) (fun _ _ => by rw [hj]) hr

/-- A trip changes but for its phase and record. -/
theorem Filed.trip (h : Filed s) {f : Trip → Trip} (hb : u.berths = s.berths.set b ((s.berth b).map f))
    (hj : u.journal = s.journal) (hp : ∀ t, (f t).phase = t.phase) (hr : ∀ t, (f t).record = t.record) : Filed u := by
  refine h.set hb hj ?_ ?_
  · cases s.berth b <;> simp [hp]
  · have hstands := h.records b
    cases hx : s.berth b with
    | none => simp
    | some t =>
      rw [hx, recordStands_some] at hstands
      simpa [hp, hr] using hstands

/-- A berth that holds a trip short of DEPARTED is not waiting, and holds no record. -/
theorem Filed.aboard (h : Filed s) (ht : s.berth b = some t) (hp : t.phase ≠ .departed) :
    b ∉ s.journal.waiting ∧ t.record = none := by
  refine ⟨fun hb => ?_, ?_⟩
  · obtain ⟨t', ht', hp'⟩ := (h.waits b).mp hb
    exact hp (Option.some.inj (ht.symm.trans ht') ▸ hp')
  · have hstands := h.records b t ht
    simpa [hp] using hstands

/-- While the journal has room no berth waits. -/
theorem Filed.no_wait (h : Filed s) (hr : s.journal.records.length < 8) : s.journal.waiting = [] := by
  by_contra hw
  exact absurd (h.full hw) (by omega)

/-- A berth departs: its record is stored and it is VACANT, or it waits DEPARTED behind a full journal (R22, R24). -/
theorem Filed.depart (h : Filed s) (ht : s.berth b = some t) (hp : t.phase ≠ .departed) : Filed (depart b t s) := by
  obtain ⟨hb, -⟩ := h.aboard ht hp
  by_cases hr : s.journal.records.length < 8
  · have hempty := h.no_wait hr
    rw [depart_of_room hr]
    refine h.refile (b := b) (x := none) (by simp) ?_ ?_ ?_ ?_ (by simp) (by simp)
    · simpa using Nat.succ_le_of_lt hr
    · simp [hempty]
    · simpa using h.once
    · simpa using hb
  · have hfull : s.journal.records.length = 8 := le_antisymm h.depth (not_lt.mp hr)
    rw [depart_of_full (not_lt.mp hr)]
    refine h.refile (b := b) (x := some (t.departedAt b s.clock.time)) (by simp) ?_ ?_ ?_ ?_ ?_ ?_
    · simpa using h.depth
    · simp [hfull]
    · simpa using h.once.concat hb
    · simp [Trip.departedAt]
    · simp +contextual
    · simp [Trip.departedAt]

theorem Filed.settle (h : Filed s) (b : BerthIx) : Filed (settle b s) := by
  by_cases hset : ∃ t, s.berth b = some t ∧ t.phase = .closing ∧ s.settled b t = true
  · obtain ⟨t, ht, hp, hs⟩ := hset
    rw [settle_of_settled ht hp hs]
    exact h.depart ht (by simp [hp])
  · rw [settle_of_unsettled fun t ht hp => by simpa using fun hs => hset ⟨t, ht, hp, hs⟩]
    exact h

/-- An OPEN berth closes, and settles if nothing holds it back (R15, R22). -/
theorem Filed.closeBerth (h : Filed s) (ht : s.berth b = some t) (hp : t.phase = .opened) (cause : CloseCause) :
    Filed (closeBerth b cause s) := by
  obtain ⟨-, hrec⟩ := h.aboard ht (by simp [hp])
  rw [closeBerth_eq cause ht]
  refine Filed.settle (h.set (closed_berths ..) (closed_journal ..) ?_ ?_) b
  · simp [ht, hp, Trip.closedBy]
  · simp [hrec, Trip.closedBy]

theorem Filed.edit (h : Filed s) {f : Trip → Trip} (hf : TripEdit f) (b : BerthIx) :
    Filed (recomputeFill b (changeTrip b f s)) := by
  refine h.trip (recomputeFill_changeTrip_berths b f s) (by simp) (fun t => ?_) fun t => ?_
  · obtain ⟨hphase, -⟩ := hf.keeps t
    rw [refill_phase, hphase]
  · obtain ⟨-, -, hrecord, -⟩ := hf.keeps t
    rw [refill_record, hrecord]

theorem Filed.refuse (h : Filed s) (b : BerthIx) : Filed (countRefusal b s) :=
  h.trip (countRefusal_berths b s) (by simp) (fun t => by split <;> rfl) fun t => by split <;> rfl

theorem Filed.justOpen (h : Filed s) (hv : s.berth b = none) (r : OpenRequest) : Filed (justOpened b r s) :=
  h.set (justOpened_berths ..) (justOpened_journal ..) (by simp [hv, openedTrip]) (by simp [openedTrip])

/-! ### Releasing a record (R173, R174) -/

/-- The berth that has waited longest stores its record and is VACANT again (R174). -/
theorem serveWaiting_of_waiting {own : TripRecord} {waiting : List BerthIx} (hw : s.journal.waiting = b :: waiting)
    (ht : s.berth b = some t) (hr : t.record = some own) :
    serveWaiting s = State.posting
      [.tripStored b own.tripRef (s.journal.records.length + 1), .berthState b .vacant own.tripRef none s.clock.time]
      { s with journal := ⟨s.journal.records ++ [own], waiting⟩, berths := s.berths.set b none } := by
  have hb : State.berth { s with journal := { s.journal with waiting := waiting } } b = some t := ht
  unfold serveWaiting
  rw [hw]
  dsimp only
  rw [hb]
  dsimp only
  rw [hr]
  dsimp only
  unfold storeRecord
  dsimp only
  rw [changeBerth_const_still (x := none) fun t h => nomatch h]
  simp only [State.putBerth, postBerthState, post_eq, posting_eq, List.foldl_cons, List.foldl_nil, List.length_append,
    List.length_singleton]

theorem serveWaiting_of_empty (hw : s.journal.waiting = []) : serveWaiting s = s := by
  unfold serveWaiting
  rw [hw]

/-- The first waiting berth holds its record, the journal is full, and the other waiting berths are other ones. -/
theorem Filed.first_waiting (h : Filed s) {waiting : List BerthIx} (hw : s.journal.waiting = b :: waiting) :
    ∃ t own, s.berth b = some t ∧ t.record = some own ∧ s.journal.records.length = 8 ∧ b ∉ waiting ∧ waiting.Nodup := by
  have hnodup := h.once
  rw [hw, List.nodup_cons] at hnodup
  obtain ⟨t, ht, hp⟩ := (h.waits b).mp (by simp [hw])
  obtain ⟨own, hown⟩ := Option.ne_none_iff_exists'.mp ((h.records b t ht).mp hp)
  exact ⟨t, own, ht, hown, h.full (by simp [hw]), hnodup⟩

theorem Filed.release (h : Filed s) {r : TripRecord} {rest : List TripRecord} (hrec : s.journal.records = r :: rest) :
    Filed (serveWaiting { s with journal := { s.journal with records := rest } }) := by
  have hdepth := h.depth
  cases hw : s.journal.waiting with
  | nil =>
    rw [serveWaiting_of_empty (s := { s with journal := { s.journal with records := rest } }) hw]
    refine ⟨?_, fun hne => absurd hw hne, h.once, h.waits, h.records⟩
    simp only [hrec, List.length_cons] at hdepth
    exact Nat.le_of_succ_le hdepth
  | cons b waiting =>
    obtain ⟨t, own, ht, hown, hfull, hb, hnodup⟩ := h.first_waiting hw
    have hrest : rest.length + 1 = 8 := by simpa [hrec] using hfull
    rw [serveWaiting_of_waiting (s := { s with journal := { s.journal with records := rest } }) hw ht hown]
    refine h.refile (b := b) (x := none) (by simp) ?_ ?_ ?_ ?_ ?_ (by simp)
    · simp [hrest]
    · simp [hrest]
    · simpa using hnodup
    · simpa using hb
    · simp +contextual [hw]

theorem filed_powerOnReset (pins : Pins) (s : State) : Filed (powerOnReset pins s) := by
  obtain ⟨hjournal, hwaiting, -⟩ := berthLaws_powerOn pins
  exact ((filed_iff _).mpr ⟨hjournal, hwaiting⟩).same rfl rfl

end

/-- Every operation of a berth keeps the law. -/
theorem filed_rules : BerthRules Filed where
  same h hb hj := h.same hb hj
  powerOnReset := filed_powerOnReset
  settle h := h.settle
  edit h hf := h.edit hf
  refuse h := h.refuse
  close h ht hp := h.closeBerth ht hp
  justOpen h hv := h.justOpen hv
  release h hrec := h.release hrec

/-- Settles O19: the two laws are one about each berth (`filed_iff`), which a departure, a closing and a release keep (`Filed.depart`,
`Filed.closeBerth`, `Filed.release`) and so every step (`BerthRules.stepRules`). -/
theorem journalStaysInOrder : Obligations.JournalStaysInOrder := fun s t hj hw hs =>
  (filed_iff t).mp (filed_rules.stepRules.step ((filed_iff s).mpr ⟨hj, hw⟩) hs)

end Sys2Proof.Machine
end

section
/-! SUPPORT. JOURNAL_READ and JOURNAL_RELEASE (R172 to R174). -/

namespace Sys2Proof.Machine

open Sys2Proof

section
variable {s u : State} {tag : Byte} {ref : Nat} {r : TripRecord} {rest : List TripRecord} {p : Reply}

theorem exec_journalRead (hs : s.slotFree) (ho : ownJournalRead (countTaken s) = (u, p)) :
    exec (.journalRead tag) s = .next (State.answering 0x3C tag p u) :=
  exec_of_owner (q := .journalRead) hs rfl rfl ho

theorem exec_journalRelease (hs : s.slotFree) (ho : ownJournalRelease ref (countTaken s) = (u, p)) :
    exec (.journalRelease tag ref) s = .next (State.answering 0x3D tag p u) :=
  exec_of_owner (q := .journalRelease ref) hs rfl rfl ho

theorem ownJournalRead_eq (s : State) : ownJournalRead s = (s, match s.journal.records with
    | [] => .journalEmptyRead 0 s.journal.waiting.length
    | r :: _ => .journalRead s.journal.records.length s.journal.waiting.length r) := by
  unfold ownJournalRead
  cases s.journal.records <;> rfl

theorem ownJournalRelease_empty (h0 : ref ≠ 0) (hrec : s.journal.records = []) :
    ownJournalRelease ref s = (s, .journalEmptyRelease 0) := by
  unfold ownJournalRelease
  rw [if_neg h0, hrec]

/-- Another reference than the oldest record's releases nothing (R173). -/
theorem ownJournalRelease_mismatch (h0 : ref ≠ 0) (hrec : s.journal.records = r :: rest) (hne : ref ≠ r.tripRef) :
    ownJournalRelease ref s = (s, .journalMismatch r.tripRef (rest.length + 1)) := by
  unfold ownJournalRelease
  rw [if_neg h0, hrec]
  exact if_pos hne

/-- The oldest record's reference removes it, and the freed slot is offered to the waiting berths (R173, R174). -/
theorem ownJournalRelease_oldest (h0 : ref ≠ 0) (hrec : s.journal.records = r :: rest) (he : ref = r.tripRef)
    (hserved : serveWaiting { s with journal := { s.journal with records := rest } } = u) :
    ownJournalRelease ref s =
      (u, .journalRelease ref u.journal.records.length u.journal.waiting.length (u.journal.records.head?.map TripRecord.tripRef)) := by
  unfold ownJournalRelease
  rw [if_neg h0, hrec, ← hserved]
  exact if_neg (not_not.mpr he)

end

/-- Settles O18: the outcomes of a release in the order of its checks; the freed slot goes to the first waiting berth, which stands DEPARTED
with its record while the journal is full (`Filed.first_waiting`), and takes its record (`serveWaiting_of_waiting`). -/
theorem journalReadAndRelease : Obligations.JournalReadAndRelease := by
  intro tag ref s hs hwaiting hjournal
  have hfiled := (filed_iff s).mpr ⟨hjournal, hwaiting⟩
  refine ⟨exec_journalRead hs (ownJournalRead_eq _), exec_journalRelease hs (if_pos rfl), fun h0 hrec => ?_,
    fun r rest h0 hrec hne => ?_, fun r rest h0 hrec he hw => ?_, fun r rest b waiting h0 hrec he hw => ?_⟩
  · exact exec_journalRelease hs (ownJournalRelease_empty h0 hrec)
  · exact exec_journalRelease hs (ownJournalRelease_mismatch h0 hrec hne)
  · refine exec_journalRelease hs (ownJournalRelease_oldest (s := countTaken s) (r := r) (rest := rest) h0 hrec he ?_)
    rw [serveWaiting_of_empty (by exact hw)]
    simp only [countTaken_journal, hw]
  · obtain ⟨t, own, ht, hown, hfull, -, -⟩ := hfiled.first_waiting hw
    have hrest : rest.length + 1 = 8 := by simpa [hrec] using hfull
    have hserved := serveWaiting_of_waiting
      (s := { countTaken s with journal := { (countTaken s).journal with records := rest } }) hw ht hown
    have hreleased := ownJournalRelease_oldest (s := countTaken s) h0 hrec he hserved
    refine ⟨t, own, _, ht, hown, exec_journalRelease hs (hreleased.trans ?_), rfl⟩
    simp [hrest]

end Sys2Proof.Machine
end

section
/-! SUPPORT. The numbers of a deny request taken one after another: the checks they pass first, and what each number makes of the Deny List
and of the counts (R163 to R166). -/

namespace Sys2Proof.Machine

open Sys2Proof

section
variable {xs pre post deny : List Nat} {n : Nat} {p : AddProgress}

/-! ### The checks (R164) -/

theorem firstZero_of_mem (h : 0 ∉ pre) (k : Nat) : firstZero k (pre ++ 0 :: post) = some (k + pre.length) := by
  induction pre generalizing k with
  | nil => rfl
  | cons x pre ih =>
    obtain ⟨hx, hpre⟩ := not_or.mp <| mt List.mem_cons.mpr h
    simp only [List.cons_append, firstZero, if_neg (Ne.symm hx), ih hpre, List.length_cons, Option.some.injEq]
    omega

theorem firstZero_eq_none (k : Nat) : firstZero k xs = none ↔ 0 ∉ xs := by
  induction xs generalizing k with
  | nil => simp [firstZero]
  | cons x xs ih =>
    unfold firstZero
    split
    · next hx => simp [hx]
    · next hx => simp [ih, Ne.symm hx]

theorem denyRefusal_eq_none : denyRefusal n xs = none ↔ (n ≠ 0 ∧ n ≤ 32) ∧ 0 ∉ xs := by
  unfold denyRefusal
  split
  · next hn => simp only [Config.denyRequestLimit] at hn; simp; omega
  · next hn => simp only [Config.denyRequestLimit] at hn; simp [firstZero_eq_none]; omega

theorem denyRefusal_of_count (h : n = 0 ∨ 32 < n) : denyRefusal n xs = some (.code .range) := if_pos h

theorem denyRefusal_of_zero (hn : n ≠ 0 ∧ n ≤ 32) (h : 0 ∉ pre) :
    denyRefusal n (pre ++ 0 :: post) = some (.rangeField ⟨pre.length + 1, 1⟩) := by
  have hcount : ¬(n = 0 ∨ Config.denyRequestLimit < n) := by simp only [Config.denyRequestLimit]; omega
  rw [denyRefusal, if_neg hcount, firstZero_of_mem h, Option.map_some, Nat.add_comm]

/-! ### An insertion at its place (R165) -/

theorem insertSorted_eq (n : Nat) (xs : List Nat) : insertSorted n xs = xs.orderedInsert (· < ·) n := by
  induction xs with
  | nil => rfl
  | cons x xs ih => simp [insertSorted, List.orderedInsert_cons, ih]

@[simp] theorem mem_insertSorted {m : Nat} : m ∈ insertSorted n xs ↔ m = n ∨ m ∈ xs := by
  rw [insertSorted_eq, List.mem_orderedInsert]

@[simp] theorem insertSorted_length : (insertSorted n xs).length = xs.length + 1 := by
  rw [insertSorted_eq, List.orderedInsert_length]

theorem insertSorted_pairwise (h : xs.Pairwise (· < ·)) (hn : n ∉ xs) : (insertSorted n xs).Pairwise (· < ·) := by
  induction xs with
  | nil => exact List.pairwise_singleton ..
  | cons x xs ih =>
    obtain ⟨hx, hxs⟩ := List.pairwise_cons.mp h
    obtain ⟨hne, hnxs⟩ := not_or.mp <| mt List.mem_cons.mpr hn
    unfold insertSorted
    split
    · next hlt => exact .cons (fun m hm => (List.mem_cons.mp hm).elim (· ▸ hlt) fun hm => hlt.trans (hx m hm)) h
    · next hle =>
      refine .cons (fun m hm => ?_) (ih hxs hnxs)
      rcases mem_insertSorted.mp hm with rfl | hm
      · omega
      · exact hx m hm

/-! ### Adding (R165) -/

/-- How far a DENY_ADD on the list `deny` has come after the numbers `taken`. -/
structure Adding (deny taken : List Nat) (p : AddProgress) : Prop where
  sorted : p.list.Pairwise (· < ·)
  grown : p.list.length = deny.length + p.added
  bound : p.list.length ≤ 2048
  counts : p.added + p.already + p.notAdded = taken.length
  source : ∀ n, n ∈ p.list → n ∈ deny ∨ n ∈ taken
  kept : ∀ n ∈ deny, n ∈ p.list
  first : p.firstNotAdded = taken.find? (fun n => decide (n ∉ p.list))
  missing : p.notAdded = (taken.filter fun n => decide (n ∉ p.list)).length
  full : 0 < p.notAdded → p.list.length = 2048
  before : ∀ f, p.firstNotAdded = some f →
    ∃ pre post, taken = pre ++ f :: post ∧ f ∉ pre ∧ ∀ n ∈ p.list, n ∈ deny ∨ n ∈ pre

theorem Adding.start (hs : deny.Pairwise (· < ·)) (hl : deny.length ≤ 2048) : Adding deny [] ⟨deny, 0, 0, 0, none⟩ where
  sorted := hs
  grown := rfl
  bound := hl
  counts := rfl
  source _ := .inl
  kept _ := id
  first := rfl
  missing := rfl
  full h := absurd h (Nat.lt_irrefl 0)
  before _ h := nomatch h

/-- A number that is held changes no list (R165). -/
theorem Adding.held (h : Adding deny xs p) (hn : n ∈ p.list) : Adding deny (xs ++ [n]) { p with already := p.already + 1 } where
  sorted := h.sorted
  grown := h.grown
  bound := h.bound
  counts := by
    have hcounts := h.counts
    simp only [List.length_append, List.length_singleton]
    omega
  source m hm := (h.source m hm).imp_right (List.mem_append_left _)
  kept := h.kept
  first := by simp [h.first, List.find?_append, hn]
  missing := by simp [h.missing, List.filter_append, hn]
  full := h.full
  before f hf := by
    obtain ⟨pre, post, rfl, hpre, hlist⟩ := h.before f hf
    exact ⟨pre, post ++ [n], by simp, hpre, hlist⟩

/-- While the list has room no number has been left out. -/
theorem Adding.all_held (h : Adding deny xs p) (hroom : p.list.length < 2048) :
    p.notAdded = 0 ∧ p.firstNotAdded = none ∧ ∀ m ∈ xs, m ∈ p.list := by
  have hnone : p.notAdded = 0 := by
    by_contra hne
    exact absurd (h.full (Nat.pos_of_ne_zero hne)) hroom.ne
  have hall : ∀ m ∈ xs, m ∈ p.list := by
    have hmissing := h.missing.symm.trans hnone
    simpa using hmissing
  exact ⟨hnone, h.first.trans (List.find?_eq_none.mpr (by simpa using hall)), hall⟩

/-- A number that is absent joins a list with room (R165). -/
theorem Adding.joins (h : Adding deny xs p) (hn : n ∉ p.list) (hroom : p.list.length < 2048) :
    Adding deny (xs ++ [n]) { p with list := insertSorted n p.list, added := p.added + 1 } := by
  obtain ⟨hnone, hfirst, hall⟩ := h.all_held hroom
  have hheld : ∀ m ∈ xs ++ [n], m ∈ insertSorted n p.list := fun m hm => mem_insertSorted.mpr <| by
    rcases List.mem_append.mp hm with hm | hm
    · exact .inr (hall m hm)
    · exact .inl (List.mem_singleton.mp hm)
  exact {
    sorted := insertSorted_pairwise h.sorted hn
    grown := by
      have hgrown := h.grown
      simp only [insertSorted_length]
      omega
    bound := by simpa using Nat.succ_le_of_lt hroom
    counts := by
      have hcounts := h.counts
      simp only [List.length_append, List.length_singleton]
      omega
    source := fun m hm => by
      rcases mem_insertSorted.mp hm with rfl | hm
      · simp
      · exact (h.source m hm).imp_right (List.mem_append_left _)
    kept := fun m hm => mem_insertSorted.mpr (.inr (h.kept m hm))
    first := hfirst.trans (List.find?_eq_none.mpr fun m hm hf => absurd (hheld m hm) (of_decide_eq_true hf)).symm
    missing := by
      rw [hnone, eq_comm, List.length_eq_zero_iff, List.filter_eq_nil_iff]
      exact fun m hm hf => absurd (hheld m hm) (of_decide_eq_true hf)
    full := fun hpos => absurd hnone hpos.ne'
    before := fun f hf => nomatch hfirst.symm.trans hf }

/-- A number that is absent from a full list is left out, and is named if it is the first (R165). -/
theorem Adding.left_out (h : Adding deny xs p) (hn : n ∉ p.list) (hfull : p.list.length = 2048) :
    Adding deny (xs ++ [n]) { p with notAdded := p.notAdded + 1, firstNotAdded := p.firstNotAdded.or (some n) } where
  sorted := h.sorted
  grown := h.grown
  bound := h.bound
  counts := by
    have hcounts := h.counts
    simp only [List.length_append, List.length_singleton]
    omega
  source m hm := (h.source m hm).imp_right (List.mem_append_left _)
  kept := h.kept
  first := by simp [h.first, List.find?_append, hn]
  missing := by simp [h.missing, List.filter_append, hn]
  full _ := hfull
  before f hf := by
    rcases Option.or_eq_some_iff.mp hf with hf | ⟨hnone, hf⟩
    · obtain ⟨pre, post, rfl, hpre, hlist⟩ := h.before f hf
      exact ⟨pre, post ++ [n], by simp, hpre, hlist⟩
    · obtain rfl := Option.some.inj hf
      have hall : ∀ m ∈ xs, m ∈ p.list := by
        have hfind := h.first.symm.trans hnone
        simpa using hfind
      exact ⟨xs, [], rfl, fun hm => hn (hall n hm), h.source⟩

theorem Adding.number (h : Adding deny xs p) (n : Nat) : Adding deny (xs ++ [n]) (addNumber p n) := by
  unfold addNumber
  split
  · next hn => exact h.held (List.contains_iff_mem.mp hn)
  · next hn =>
    have habsent : n ∉ p.list := fun hm => hn (List.contains_iff_mem.mpr hm)
    split
    · next hroom => exact h.joins habsent hroom
    · next hfull => exact h.left_out habsent (le_antisymm h.bound (not_lt.mp hfull))

theorem Adding.numbers (h : Adding deny pre p) (xs : List Nat) : Adding deny (pre ++ xs) (xs.foldl addNumber p) := by
  induction xs generalizing pre p with
  | nil => simpa using h
  | cons x xs ih => simpa using ih (h.number x)

/-! ### Removing (R166) -/

/-- How far a DENY_REMOVE on the list `deny` has come after the numbers `taken`: the list, the count removed and the count absent. -/
structure Removing (deny taken : List Nat) (p : List Nat × Nat × Nat) : Prop where
  list : p.1 = deny.filter (fun n => decide (n ∉ taken))
  shrunk : p.2.1 + p.1.length = deny.length
  counts : p.2.1 + p.2.2 = taken.length

theorem Removing.start (deny : List Nat) : Removing deny [] (deny, 0, 0) where
  list := by simp
  shrunk := Nat.zero_add _
  counts := rfl

theorem filter_not_mem_concat (deny pre : List Nat) (n : Nat) :
    deny.filter (fun m => decide (m ∉ pre ++ [n])) = (deny.filter fun m => decide (m ∉ pre)).filter (fun m => decide (m ≠ n)) := by
  rw [List.filter_filter]
  refine List.filter_congr fun m _ => ?_
  simp [not_or, and_comm]

theorem Removing.number {p : List Nat × Nat × Nat} (hd : deny.Nodup) (h : Removing deny pre p) (n : Nat) :
    Removing deny (pre ++ [n]) (removeNumber p n) := by
  obtain ⟨list, removed, absent⟩ := p
  obtain ⟨hlist, hshrunk, hcounts⟩ := h
  have hfilter := filter_not_mem_concat deny pre n
  rw [← hlist] at hfilter
  unfold removeNumber
  split
  · next hn =>
    have hmem : n ∈ list := List.contains_iff_mem.mp hn
    have hpos := List.length_pos_of_mem hmem
    refine ⟨?_, ?_, ?_⟩
    · rw [hfilter, List.Nodup.erase_eq_filter (hlist ▸ hd.filter _)]
      exact List.filter_congr fun m _ => by simp [bne, Bool.beq_eq_decide_eq]
    · simp only [List.length_erase_of_mem hmem] at hshrunk ⊢
      omega
    · simp only [List.length_append, List.length_singleton] at hcounts ⊢
      omega
  · next hn =>
    have habsent : n ∉ list := fun hm => hn (List.contains_iff_mem.mpr hm)
    refine ⟨?_, hshrunk, ?_⟩
    · rw [hfilter]
      exact (List.filter_eq_self.mpr fun m hm => decide_eq_true (p := m ≠ n) fun e => habsent (e ▸ hm)).symm
    · simp only [List.length_append, List.length_singleton] at hcounts ⊢
      omega

theorem Removing.numbers {p : List Nat × Nat × Nat} (hd : deny.Nodup) (h : Removing deny pre p) (xs : List Nat) :
    Removing deny (pre ++ xs) (xs.foldl removeNumber p) := by
  induction xs generalizing pre p with
  | nil => simpa using h
  | cons x xs ih => simpa using ih (h.number hd x)

end

end Sys2Proof.Machine
end

section
/-! SUPPORT. The requests of the Deny List, and step 6 of a presentation (R92, R164 to R168). -/

namespace Sys2Proof.Machine

open Sys2Proof

section
variable {s u : State} {tag : Byte} {n card : Nat} {xs : List Nat} {p : Reply}

theorem exec_denyAdd (hs : s.slotFree) (ho : ownDenyAdd xs.length xs (countTaken s) = (u, p)) :
    exec (.denyAdd tag xs.length xs) s = .next (State.answering 0x38 tag p u) :=
  exec_of_owner (q := .denyAdd xs.length xs) hs rfl (if_pos rfl) ho

theorem exec_denyRemove (hs : s.slotFree) (ho : ownDenyRemove xs.length xs (countTaken s) = (u, p)) :
    exec (.denyRemove tag xs.length xs) s = .next (State.answering 0x39 tag p u) :=
  exec_of_owner (q := .denyRemove xs.length xs) hs rfl (if_pos rfl) ho

theorem exec_denyClear (hs : s.slotFree) (ho : ownDenyClear (countTaken s) = (u, p)) :
    exec (.denyClear tag) s = .next (State.answering 0x3A tag p u) :=
  exec_of_owner (q := .denyClear) hs rfl rfl ho

theorem exec_denyCheck (hs : s.slotFree) (ho : ownDenyCheck card (countTaken s) = (u, p)) :
    exec (.denyCheck tag card) s = .next (State.answering 0x3B tag p u) :=
  exec_of_owner (q := .denyCheck card) hs rfl rfl ho

theorem ownDenyAdd_refused {r : Reply} (h : denyRefusal n xs = some r) : ownDenyAdd n xs s = (s, r) := by
  unfold ownDenyAdd
  rw [h]

theorem ownDenyRemove_refused {r : Reply} (h : denyRefusal n xs = some r) : ownDenyRemove n xs s = (s, r) := by
  unfold ownDenyRemove
  rw [h]

/-- Past its checks a DENY_ADD takes its numbers one after another (R165). -/
theorem ownDenyAdd_adding (h : DenyLaw s) (hr : denyRefusal n xs = none) : ∃ p, Adding s.deny xs p ∧
    ownDenyAdd n xs s = ({ s with deny := p.list },
      .denyAdd p.added p.already p.notAdded p.firstNotAdded p.list.length (decide (p.list.length = 2048))) := by
  obtain ⟨hsorted, hlength, -⟩ := h
  refine ⟨_, (Adding.start hsorted hlength).numbers xs, ?_⟩
  unfold ownDenyAdd
  rw [hr]
  rfl

/-- Past its checks a DENY_REMOVE takes its numbers one after another (R166). -/
theorem ownDenyRemove_removing (h : DenyLaw s) (hr : denyRefusal n xs = none) : ∃ p, Removing s.deny xs p ∧
    ownDenyRemove n xs s = ({ s with deny := p.1 }, .denyRemove p.2.1 p.2.2 p.1.length) := by
  obtain ⟨hsorted, -⟩ := h
  refine ⟨_, (Removing.start s.deny).numbers (hsorted.imp fun h => h.ne) xs, ?_⟩
  unfold ownDenyRemove
  rw [hr]

theorem ownDenyCheck_eq (h : card ≠ 0) : ownDenyCheck card s = (s, .denyCheck card (decide (card ∈ s.deny)) s.deny.length) := by
  rw [ownDenyCheck, if_neg h, State.denied, List.contains_eq_mem]

end

/-- Settles O14: a count out of range and the first 0 refuse (`denyRefusal_of_count`, `denyRefusal_of_zero`); past the checks the numbers
are taken one after another, each held, joining or left out (`Adding.number`). -/
theorem denyAddAddsWhatFits : Obligations.DenyAddAddsWhatFits := by
  intro tag xs s hs hlaw
  refine ⟨exec_denyCheck hs (if_pos rfl), fun hcount => ?_, fun hne hle hzero => ?_, fun hne hle hzero => ?_⟩
  · have hrefused := denyRefusal_of_count (n := xs.length) (xs := xs) (hcount.imp_left fun e => by rw [e]; rfl)
    exact ⟨exec_denyAdd hs (ownDenyAdd_refused hrefused), exec_denyRemove hs (ownDenyRemove_refused hrefused)⟩
  · obtain ⟨pre, post, hxs, hpre⟩ := List.eq_append_cons_of_mem hzero
    have hrefused := denyRefusal_of_zero (n := xs.length) (post := post) ⟨mt List.length_eq_zero_iff.mp hne, hle⟩ hpre
    rw [← hxs] at hrefused
    exact ⟨pre, post, hxs, hpre, exec_denyAdd hs (ownDenyAdd_refused hrefused),
      exec_denyRemove hs (ownDenyRemove_refused hrefused)⟩
  · have hpass := denyRefusal_eq_none.mpr ⟨⟨mt List.length_eq_zero_iff.mp hne, hle⟩, hzero⟩
    obtain ⟨p, hadding, hanswer⟩ := ownDenyAdd_adding (s := countTaken s) hlaw hpass
    exact ⟨p.list, p.added, p.already, p.notAdded, p.firstNotAdded, exec_denyAdd hs hanswer, hadding.sorted, hadding.grown,
      hadding.bound, hadding.counts, hadding.source, hadding.kept, hadding.first, hadding.missing, hadding.full, hadding.before⟩

/-- Settles O15: past the checks the numbers are taken one after another, each removed or absent (`Removing.number`). -/
theorem denyRemoveRemovesWhatItCarries : Obligations.DenyRemoveRemovesWhatItCarries := by
  intro tag xs s hs hlaw hne hle hzero
  have hpass := denyRefusal_eq_none.mpr ⟨⟨mt List.length_eq_zero_iff.mp hne, hle⟩, hzero⟩
  obtain ⟨p, hremoving, hanswer⟩ := ownDenyRemove_removing (s := countTaken s) hlaw hpass
  exact ⟨p.1, p.2.1, p.2.2, exec_denyRemove hs hanswer, hremoving.list, hremoving.shrunk, hremoving.counts⟩

section
variable {s : State} {i : LaneIx} {b : BerthIx} {t : Trip} {c : Credential} {r : Reason} {slot : Option Nat}
  {detail : Option EntryDetail}

/-! ### Step 6 of a presentation (R92) -/

theorem card_ne_zero (hm : malformed c = false) : c.card ≠ 0 := by
  rintro h
  simp [malformed, h] at hm

theorem judgeCard_denied (hm : malformed c = false) (hc : c.cardState = 0) (hd : c.card ∈ s.deny) :
    judgeCard s i b t c = .refuse .denied none none := by
  simp [judgeCard, hm, hc, State.denied, hd]

theorem judgeFare_not_denied : judgeFare s i b t c ≠ .refuse .denied slot detail := by
  intro h
  unfold judgeFare at h
  dsimp only at h
  split at h
  · split at h
    · exact nomatch h
    · next hwalk =>
      cases h
      exact absurd (walk_reason hwalk) (by decide)
  · exact nomatch h

theorem judgePlace_not_denied : judgePlace s i b t c ≠ .refuse .denied slot detail := by
  unfold judgePlace
  split <;> split
  · exact nofun
  · exact nofun
  · exact judgeFare_not_denied
  · exact nofun

/-- No other check than step 6 refuses with DENIED. -/
theorem judgeCard_not_denied (hd : c.card ∉ s.deny) : judgeCard s i b t c ≠ .refuse .denied slot detail := by
  have hpass : ¬s.denied c.card = true := by simpa [State.denied] using hd
  unfold judgeCard
  rw [if_neg hpass]
  split
  · exact nofun
  · split
    · exact nofun
    · split
      · exact nofun
      · split
        · exact nofun
        · exact judgePlace_not_denied

/-- The decision of a presentation refuses exactly as the checks do, with the refusal's write-back (R74, R84, R102). -/
theorem ownPresent_decision (s : State) (n : Nat) (c : Credential) : ∃ u d, ownPresent n c s = (u, .decision d) ∧
    (∀ r slot, d.outcome = .refused r slot ↔ ∃ detail, judge s n c = .refuse r slot detail) ∧
    ∀ r slot detail, judge s n c = .refuse r slot detail → d.writeBack = refusalWriteBack r := by
  unfold ownPresent
  cases judge s n c with
  | refuse r slot detail => exact ⟨_, _, rfl, by simp [decisionOf], by simp +contextual [decisionOf]⟩
  | courtesy i b t detail => exact ⟨_, _, rfl, by simp [decisionOf], by simp⟩
  | pays i b t x g p pay => exact ⟨_, _, rfl, by simp [decisionOf], by simp⟩

end

/-- Settles O16: the lists agree as step 6 and DENY_CHECK read the same list (`judgeCard_denied`, `ownDenyCheck_eq`), and no other check
refuses with DENIED (`judgeCard_not_denied`). -/
theorem denyClearAndCheckAndPresentAgree : Obligations.DenyClearAndCheckAndPresentAgree := by
  refine ⟨fun tag card s hs => ⟨fun he => ?_, fun hne => ?_, fun h0 => exec_denyCheck hs (ownDenyCheck_eq h0)⟩,
    fun tag i b t c s hs hv hi hb hbp hst ht hp hm hc hcount => ⟨fun s' hs' hd => ?_, ?_⟩⟩
  · exact exec_denyClear hs (if_pos he)
  · exact exec_denyClear hs (if_neg hne)
  · refine ⟨s'.deny.length, ?_⟩
    rw [← hd]
    exact exec_denyCheck hs' (ownDenyCheck_eq (card_ne_zero hm))
  · have hjudge : judge (countTaken s) i.val c = judgeCard (countTaken s) i b t c :=
      judge_passes (s := countTaken s) hv (by simpa [State.lanePresent] using hi) hb (by simpa [State.berthPresent] using hbp) hst
        ht hp
    obtain ⟨u, d, howner, houtcome, hwrite⟩ := ownPresent_decision (countTaken s) i.val c
    have hdenied (hd : c.card ∈ s.deny) : judge (countTaken s) i.val c = .refuse .denied none none :=
      hjudge.trans (judgeCard_denied hm hc hd)
    refine ⟨u, d, exec_present hs hcount howner, ?_, fun hd => hwrite _ _ _ (hdenied hd)⟩
    rw [houtcome]
    refine ⟨fun ⟨detail, h⟩ => ?_, fun hd => ⟨none, hdenied hd⟩⟩
    by_contra hd
    exact judgeCard_not_denied (s := countTaken s) hd (hjudge.symm.trans h)

end Sys2Proof.Machine
end

section
/-! SUPPORT. The law of the Deny List at every step, and the numbers that commands and frames carry to it (R163, R165, R199). -/

namespace Sys2Proof.Machine

open Sys2Proof

section
variable {s t u : State} {xs : List Nat} {bs : List Byte}

/-! ### The numbers of a DENY_ADD (R199) -/

/-- The card numbers that a request adds fit their fields. -/
def NumbersFit (q : Request) : Prop := ∀ n xs, q = .denyAdd n xs → ∀ x ∈ xs, x ≤ 4294967295

theorem pendingNumbersFit_iff : s.pendingNumbersFit ↔ s.pendingIs NumbersFit :=
  ⟨fun h f hf n xs => h f n xs hf, fun h f n xs hf => h f hf n xs⟩

theorem ofBe_lt (bs : List Byte) : ofBe bs < 256 ^ bs.length := by
  induction bs using List.reverseRecOn with
  | nil => decide
  | append_singleton bs b ih =>
    have hstep : ofBe (bs ++ [b]) = 256 * ofBe bs + b.toNat := by simp [ofBe]
    have hbyte : b.toNat < 256 := b.isLt
    rw [hstep, List.length_append, List.length_singleton, pow_succ]
    omega

/-- Records of four bytes spell numbers of 32 bits. -/
theorem recordsAt_ofBe_le {n o x : Nat} (hx : x ∈ recordsAt ofBe 4 o n bs) : x ≤ 4294967295 := by
  induction n generalizing o with
  | zero => exact nomatch hx
  | succ n ih =>
    rcases List.mem_cons.mp hx with rfl | hx
    · have hlt := ofBe_lt ((bs.drop o).take 4)
      have hpow := Nat.pow_le_pow_right (n := 256) (by decide) (List.length_take_le 4 (bs.drop o))
      omega
    · exact ih hx

theorem requestOf_denyAdd {k n : Nat} (h : requestOf k bs = .denyAdd n xs) : xs = numbersOf bs := by
  unfold requestOf fieldsOf at h
  repeat' split at h
  all_goals simp_all

theorem requestOf_numbersFit (k : Nat) (bs : List Byte) : NumbersFit (requestOf k bs) := by
  intro n xs h x hx
  rw [requestOf_denyAdd h] at hx
  exact recordsAt_ofBe_le hx

theorem requestFrameOf_denyAdd {c : Instr} {tag : Byte} {n : Nat} (h : requestFrameOf c = some ⟨tag, .denyAdd n xs⟩) :
    c = .denyAdd tag n xs := by
  cases c <;> simp_all [requestFrameOf]

theorem numbers_of_fits {n : Nat} (h : numbersFit n xs = true) : ∀ x ∈ xs, x ≤ 4294967295 := by
  simp only [numbersFit, Bool.and_eq_true, List.all_eq_true, fits32, decide_eq_true_eq] at h
  obtain ⟨⟨-, hfit⟩, -⟩ := h
  exact fun x hx => Nat.le_of_lt_succ (hfit x hx)

/-- A command that can reach the controller brings no card number beyond its field, and nor does a frame. -/
theorem brings_numbersFit {c : Instr} (h : c.wellFormed = true) (s : State) : Brings NumbersFit c s := by
  refine ⟨fun f hf n xs hq => ?_, fun b _ => requestOf_numbersFit _ _⟩
  obtain ⟨tag, q⟩ := f
  subst hq
  obtain rfl := requestFrameOf_denyAdd hf
  exact numbers_of_fits h

/-! ### The law (R163) -/

theorem DenyLaw.congr (h : DenyLaw s) (hd : u.deny = s.deny) : DenyLaw u := by
  unfold DenyLaw
  rw [hd]
  exact h

/-- A DENY_ADD adds card numbers only: no 0 passes its checks. -/
theorem DenyLaw.ownDenyAdd (h : DenyLaw s) {n : Nat} (hx : ∀ x ∈ xs, x ≤ 4294967295) : DenyLaw (ownDenyAdd n xs s).1 := by
  cases hr : denyRefusal n xs with
  | some r =>
    rw [ownDenyAdd_refused hr]
    exact h
  | none =>
    obtain ⟨p, hadding, hanswer⟩ := ownDenyAdd_adding h hr
    obtain ⟨-, -, hcards⟩ := h
    obtain ⟨-, hzero⟩ := denyRefusal_eq_none.mp hr
    rw [hanswer]
    refine ⟨hadding.sorted, hadding.bound, fun m hm => ?_⟩
    rcases hadding.source m hm with hm | hm
    · exact hcards m hm
    · exact ⟨Nat.pos_of_ne_zero fun e => hzero (e ▸ hm), hx m hm⟩

theorem DenyLaw.ownDenyRemove (h : DenyLaw s) (n : Nat) : DenyLaw (ownDenyRemove n xs s).1 := by
  cases hr : denyRefusal n xs with
  | some r =>
    rw [ownDenyRemove_refused hr]
    exact h
  | none =>
    obtain ⟨p, hremoving, hanswer⟩ := ownDenyRemove_removing h hr
    obtain ⟨hsorted, hlength, hcards⟩ := h
    rw [hanswer, hremoving.list]
    exact ⟨hsorted.filter _, (List.length_filter_le ..).trans hlength, fun m hm => hcards m (List.mem_of_mem_filter hm)⟩

theorem DenyLaw.ownDenyClear (h : DenyLaw s) : DenyLaw (ownDenyClear s).1 := by
  unfold Machine.ownDenyClear
  split
  · exact h
  · exact ⟨.nil, Nat.zero_le _, nofun⟩

theorem DenyLaw.owner (h : DenyLaw s) {q : Request} (hq : NumbersFit q) : DenyLaw (owner q s).1 := by
  cases q with
  | denyAdd n xs => exact h.ownDenyAdd (hq n xs rfl)
  | denyRemove n xs => exact h.ownDenyRemove n
  | denyClear => exact h.ownDenyClear
  | _ => exact h.congr (by simp [Machine.owner])

theorem keptOn_denyLaw : KeptOn NumbersFit DenyLaw := ⟨fun _ h => h, fun _ hq h => h.owner hq⟩

theorem DenyLaw.fieldAct (h : DenyLaw s) (c : Instr) : DenyLaw (fieldAct c s) := by
  cases c
  case powerOnReset pins => exact denyLaw_powerOn pins
  all_goals exact h.congr (by simp [Machine.fieldAct])

/-! ### The waiting commands (log 1, log 2) -/

/-- The timed events carry no field (R199). -/
theorem dueEvent_wellFormed {c : Instr} (h : c ∈ s.dueEvents) : c.wellFormed = true := by
  rcases (mem_dueEvents c).mp h with ⟨rfl, -⟩ | ⟨rfl, -⟩ | ⟨rfl, -⟩ | ⟨rfl, -⟩ | ⟨rfl, -⟩ | ⟨i, hi⟩
  · rfl
  · rfl
  · rfl
  · rfl
  · rfl
  · rcases (mem_laneDue c i).mp hi with ⟨rfl, -⟩ | ⟨rfl, -⟩ | ⟨rfl, -⟩ | ⟨rfl, -⟩ | ⟨rfl, -⟩ <;> rfl

theorem commandsFit_step (h : s.commandsFit) (hs : step s = .next t) : t.commandsFit := by
  unfold step at hs
  split at hs
  · obtain rfl := Host.Outcome.next.inj hs
    obtain ⟨due, draws, htick, hdue⟩ := tick_eq s
    rw [htick]
    intro c hc
    rcases List.mem_append.mp hc with hc | hc
    · exact h c hc
    · exact dueEvent_wellFormed ((hdue c).mp hc)
  · next c rest hq =>
    intro d hd
    rw [exec_pending hs] at hd
    exact h d (hq ▸ List.mem_cons_of_mem c hd)

theorem DenyLaw.step (h : DenyLaw s) (hf : s.commandsFit) (hp : s.pendingNumbersFit) (hs : step s = .next t) :
    DenyLaw t ∧ t.pendingNumbersFit := by
  rw [pendingNumbersFit_iff] at hp ⊢
  unfold Machine.step at hs
  split at hs
  · obtain rfl := Host.Outcome.next.inj hs
    obtain ⟨due, draws, htick, -⟩ := tick_eq s
    rw [htick]
    exact ⟨h, hp⟩
  · next c rest hq =>
    have hrest : DenyLaw { s with pending := rest } := h
    exact keptOn_denyLaw.exec (brings_numbersFit (hf c (by simp [hq])) _) (hrest.fieldAct c) hp hs

end

/-- Settles O17: only the deny requests change the list, a DENY_ADD with numbers that pass its checks (`DenyLaw.ownDenyAdd`) and fit their
fields, as commands and frames bring no others (`brings_numbersFit`); the timed events that an idle step queues carry no field. -/
theorem denyListStaysOrdered : Obligations.DenyListStaysOrdered := by
  intro s t h hf hp hs
  obtain ⟨hlaw, hpending⟩ := h.step hf hp hs
  exact ⟨hlaw, commandsFit_step hf hs, hpending⟩

end Sys2Proof.Machine
end

section
/-! SUPPORT. The law of the pontoon's states, the egress demand and the lanes in EGRESS, under each event and each request (R26, R177, R187,
R189). -/

namespace Sys2Proof.Machine

open Sys2Proof

section
variable {s u : State} {i : LaneIx} {l : Lane}

/-! ### The law by the pontoon's state -/

theorem egressLaw_idle (h : s.supervisor.state ≠ .egress) : EgressLaw s ↔
    (s.supervisor.state ≠ .config → s.demand = false) ∧ s.supervisor.returnState = none ∧ ∀ i, (s.lane i).state ≠ .egress := by
  simp only [EgressLaw, h, false_iff, or_false, and_false, iff_false, Bool.not_eq_true]
  constructor
  · rintro ⟨hd, -, hret, hl⟩
    exact ⟨hd, hret, hl⟩
  · rintro ⟨hd, hret, hl⟩
    exact ⟨hd, by simp [hret], hret, hl⟩

theorem egressLaw_egress (h : s.supervisor.state = .egress) : EgressLaw s ↔ s.demand = true ∧
    (s.supervisor.returnState = some .outOfService ∨ s.supervisor.returnState = some .inService) ∧
    ∀ i, (s.lane i).state = .egress ↔ s.lanePresent i = true := by
  simp [EgressLaw, h]

theorem lanePresent_congr (h : u.supervisor.setup = s.supervisor.setup) (i : LaneIx) : u.lanePresent i = s.lanePresent i := by
  rw [State.lanePresent, h, State.lanePresent]

/-- The law reads of a state its pontoon state, return state, demand and number of lanes, and which lanes are in EGRESS. -/
theorem EgressLaw.congr (h : EgressLaw s) (hst : u.supervisor.state = s.supervisor.state)
    (hret : u.supervisor.returnState = s.supervisor.returnState) (hd : u.demand = s.demand)
    (hset : u.supervisor.setup = s.supervisor.setup) (hl : ∀ i, (u.lane i).state = .egress ↔ (s.lane i).state = .egress) :
    EgressLaw u := by
  simpa only [EgressLaw, hst, hret, hd, lanePresent_congr hset, hl] using h

theorem EgressLaw.frames (h : EgressLaw s) (hv : u.supervisor = s.supervisor) (hl : u.lanes = s.lanes) : EgressLaw u :=
  h.congr (by rw [hv]) (by rw [hv]) (demand_congr hv) (by rw [hv]) fun i => by rw [lane_congr hl]

/-- One lane changes, neither into nor out of EGRESS. -/
theorem EgressLaw.turn (h : EgressLaw s) (hv : u.supervisor = s.supervisor) (hl : u.lanes = s.lanes.set i l)
    (hs : l.state = .egress ↔ (s.lane i).state = .egress) : EgressLaw u :=
  h.congr (by rw [hv]) (by rw [hv]) (demand_congr hv) (by rw [hv]) fun j => by
    by_cases hj : j = i
    · rw [hj, lane_of_set hl]
      exact hs
    · rw [lane_of_set_other hl hj]

/-- One lane that is not in EGRESS takes another such state. -/
theorem EgressLaw.pass (h : EgressLaw s) (hv : u.supervisor = s.supervisor) (hl : u.lanes = s.lanes.set i l)
    (hfrom : (s.lane i).state ≠ .egress) (hto : l.state ≠ .egress) : EgressLaw u :=
  h.turn hv hl (iff_of_false hto hfrom)

/-- A lane in EGRESS holds no hold (R29). -/
theorem LaneLaw.holding_not_egress (h : LaneLaw s) (hh : (s.lane i).hold ≠ none) : (s.lane i).state ≠ .egress := by
  rcases (h.sound i).coherent.holding hh with hs | hs <;> simp [hs]

/-! ### Beams (R33, R34, R49 to R57) -/

theorem EgressLaw.takeBeams (h : EgressLaw s) (hh : (s.lane i).hold ≠ none → (s.lane i).state ≠ .egress) :
    EgressLaw (takeBeams i s) := by
  rcases takeBeams_lanes i s with ⟨hl, -⟩ | ⟨hl, hn⟩
  · exact h.turn (by simp) hl (by rw [(followed_state_berth ..).1]; rfl)
  · exact h.pass (by simp) hl (hh hn) (by rw [(followed_state_berth ..).1]; nofun)

theorem EgressLaw.takeAccepted (h : EgressLaw s) (hh : (s.lane i).hold ≠ none → (s.lane i).state ≠ .egress) (old : Lane) :
    EgressLaw (takeAccepted i old s) := by
  unfold Machine.takeAccepted
  dsimp only
  refine EgressLaw.takeBeams (h.turn rfl (setLane_lanes ..) ?_) ?_
  · rw [acceptWaiting_state]
    rfl
  · rw [setLane_lane_self, acceptWaiting_state, acceptWaiting_hold]
    exact hh

theorem EgressLaw.beamRaw (h : EgressLaw s) (hl : LaneLaw s) (i : LaneIx) (a b : Bool) : EgressLaw (beamRaw i a b s) := by
  unfold Machine.beamRaw
  dsimp only
  generalize (s.lane i).beamA.rawChange (s.lane i).filterCode s.runTime a = a
  generalize (s.lane i).beamB.rawChange (s.lane i).filterCode s.runTime b = b
  have hset : EgressLaw (setLane i (fun l => { l with beamA := a, beamB := b }) s) := h.turn rfl (setLane_lanes ..) Iff.rfl
  split
  · exact hset
  · exact hset.takeAccepted (by rw [setLane_lane_self]; exact hl.holding_not_egress) _

theorem EgressLaw.beamAccepted (h : EgressLaw s) (hl : LaneLaw s) (i : LaneIx) : EgressLaw (beamAccepted i s) := by
  unfold Machine.beamAccepted
  split
  · exact h.takeAccepted hl.holding_not_egress _
  · exact h

/-! ### Barrier events and timers (R31, R32, R34, R36 to R38) -/

theorem EgressLaw.faultLane (h : EgressLaw s) (hs : (s.lane i).state ≠ .egress) (c : LaneFaultCause) :
    EgressLaw (faultLane i c s) :=
  h.pass (by simp) (faultLane_lanes ..) hs nofun

theorem EgressLaw.completeClosing (h : EgressLaw s) (hs : (s.lane i).state ≠ .egress) : EgressLaw (completeClosing i s) :=
  h.pass (by simp) (completeClosing_lanes ..) hs (by dsimp only; split <;> nofun)

theorem EgressLaw.startClosing (h : EgressLaw s) (hs : (s.lane i).state ≠ .egress) (f : Lane → Lane) :
    EgressLaw (startClosing i f s) :=
  h.pass (by simp) (startClosing_lanes ..) hs (by
    split
    · nofun
    · dsimp only
      split <;> nofun)

/-- A change of one lane from and to another state than EGRESS, with its berth's test of settlement. -/
theorem EgressLaw.settling (h : EgressLaw s) {f : Lane → Lane} (hfrom : (s.lane i).state ≠ .egress)
    (hto : (f (s.lane i)).state ≠ .egress) : EgressLaw (settleBerthOf i (changeLane i f s)) :=
  h.pass (by simp) (by simp) hfrom hto

theorem EgressLaw.senseChange (h : EgressLaw s) (i : LaneIx) (o : Bool) : EgressLaw (senseChange i o s) := by
  unfold Machine.senseChange
  dsimp only
  have hset : EgressLaw (setLane i (fun l => { l with sense := o }) s) := h.turn rfl (setLane_lanes ..) Iff.rfl
  split
  · exact h
  · generalize setLane i (fun l => { l with sense := o }) s = u at hset ⊢
    split
    · next hs _ => exact hset.settling (by simp [hs]) nofun
    · next hs _ => exact hset.settling (by simp [hs]) nofun
    · next hs _ => exact hset.faultLane (by simp [hs]) _
    · next hs _ => exact hset.completeClosing (by simp [hs])
    · next hs _ => exact hset.faultLane (by simp [hs]) _
    · exact hset

theorem EgressLaw.barrierExpiry (h : EgressLaw s) (i : LaneIx) : EgressLaw (barrierExpiry i s) := by
  unfold Machine.barrierExpiry
  split
  · split
    · next hs =>
      split
      · refine h.pass (i := i) (l := (s.lane i).toFault .openTimeout) ?_ ?_ (by simp [hs]) nofun
        · unfold reportTo
          split <;> simp
        · rw [reportTo_lanes (by simp), post_lanes, dropHold_lanes]
          rfl
      · exact h.faultLane (by simp [hs]) _
    · next hs => exact h.faultLane (by simp [hs]) _
    · exact h
  · exact h

theorem EgressLaw.passageExpiry (h : EgressLaw s) (i : LaneIx) : EgressLaw (passageExpiry i s) := by
  unfold Machine.passageExpiry
  split
  · next hs =>
    split
    · split
      · exact h.pass (by simp) (voidHold_lanes ..) (by simp [hs.1]) nofun
      · exact h.settling (by simp [hs.1]) nofun
    · exact h.turn rfl (setLane_lanes ..) Iff.rfl
  · exact h

theorem EgressLaw.clearExpiry (h : EgressLaw s) (i : LaneIx) : EgressLaw (clearExpiry i s) := by
  unfold Machine.clearExpiry
  split
  · next hs =>
    split
    · exact h.startClosing (by simp [hs.1]) _
    · exact h.settling (by simp [hs.1]) nofun
    · exact h
  · exact h

/-! ### Into EGRESS and out of it (R186, R187, R189) -/

/-- A fold over the lanes whose turn at each changes that lane alone, as long as a condition that it keeps stands. -/
theorem foldl_lane_while {C : State → Prop} {f : State → LaneIx → State} {g : LaneIx → Lane → Lane}
    (hf : ∀ s i, C s → (f s i).lanes = s.lanes.set i (g i (s.lane i)) ∧ C (f s i)) {is : List LaneIx} (hn : is.Nodup)
    (hs : C s) (j : LaneIx) : (is.foldl f s).lane j = if j ∈ is then g j (s.lane j) else s.lane j := by
  induction is generalizing s with
  | nil => simp
  | cons i is ih =>
    obtain ⟨hi, hn⟩ := List.nodup_cons.mp hn
    obtain ⟨hl, hc⟩ := hf s i hs
    rw [List.foldl_cons, ih hn hc]
    by_cases hj : j = i
    · subst hj
      simp [hi, lane_of_set hl]
    · simp [hj, lane_of_set_other hl hj]

theorem laneToEgress_lanes (s : State) (i : LaneIx) : (laneToEgress s i).lanes = s.lanes.set i
    (if s.lanePresent i ∧ (s.lane i).state ≠ .egress then (s.lane i).toEgress else s.lane i) := by
  unfold laneToEgress
  split
  · split
    · exact voidHold_lanes ..
    · exact (settleBerthOf_lanes ..).trans (changeLane_lanes ..)
  · exact (lanes_set_lane s i).symm

theorem laneFromEgress_lanes (s : State) (i : LaneIx) : (laneFromEgress s i).lanes = s.lanes.set i
    (if (s.lane i).state = .egress then (s.lane i).toClearing s.runTime else s.lane i) := by
  unfold laneFromEgress
  split
  · exact (settleBerthOf_lanes ..).trans (changeLane_lanes ..)
  · exact (lanes_set_lane s i).symm

/-- The pontoon enters EGRESS on a standing demand, with every present lane after it. -/
theorem EgressLaw.enterEgress (hd : s.demand = true)
    (hst : s.supervisor.state = .outOfService ∨ s.supervisor.state = .inService)
    (hl : ∀ i, (s.lane i).state = .egress → s.lanePresent i = true) (changed : Option EgressCause) :
    EgressLaw (enterEgress changed s) := by
  unfold Machine.enterEgress
  dsimp only
  generalize hu : postOpt _ (setPontoon .egress (some s.supervisor.state) .egressBegin s) = u
  have hv : u.supervisor = { s.supervisor with state := .egress, returnState := some s.supervisor.state } := by
    rw [← hu]
    simp [setPontoon]
  have hlanes : u.lanes = s.lanes := by
    rw [← hu]
    simp
  have hp : ∀ i, u.lanePresent i = s.lanePresent i := lanePresent_congr (by rw [hv])
  have hfv := foldl_laneToEgress_supervisor allLanes u
  refine (egressLaw_egress (by rw [hfv, hv])).mpr ⟨(demand_congr hfv).trans ?_, ?_, fun i => ?_⟩
  · rw [State.demand, hv]
    exact hd
  · rw [hfv, hv]
    exact hst.imp (congrArg some) (congrArg some)
  · have hfold := foldl_lane_while (C := fun x => x.supervisor = u.supervisor) (f := laneToEgress)
      (g := fun i l => if u.lanePresent i ∧ l.state ≠ .egress then l.toEgress else l)
      (fun x i hx => ⟨by rw [laneToEgress_lanes, lanePresent_congr (congrArg Supervisor.setup hx)], by rw [laneToEgress_supervisor, hx]⟩)
      nodup_allLanes rfl i
    rw [hfold, if_pos (mem_allLanes i), lanePresent_congr (congrArg Supervisor.setup hfv), hp, lane_congr hlanes]
    split
    · next hi => exact iff_of_true rfl hi.1
    · next hi => exact ⟨hl i, fun hpi => not_not.mp fun hne => hi ⟨hpi, hne⟩⟩

/-- The pontoon leaves EGRESS for its return state once the demand is false, and no lane stays in EGRESS. -/
theorem EgressLaw.leaveEgress (hd : s.demand = false)
    (hret : s.supervisor.returnState = some .outOfService ∨ s.supervisor.returnState = some .inService) (c : EgressCause) :
    EgressLaw (leaveEgress c s) := by
  unfold Machine.leaveEgress
  dsimp only
  generalize hu : post _ (setPontoon (s.supervisor.returnState.getD .outOfService) none .egressEnd s) = u
  have hv : u.supervisor = { s.supervisor with state := s.supervisor.returnState.getD .outOfService, returnState := none } := by
    rw [← hu]
    simp [setPontoon]
  have hfv := foldl_laneFromEgress_supervisor allLanes u
  refine (egressLaw_idle ?_).mpr ⟨fun _ => (demand_congr hfv).trans ?_, by rw [hfv, hv], fun i => ?_⟩
  · rw [hfv, hv]
    rcases hret with hret | hret <;> simp [hret]
  · rw [State.demand, hv]
    exact hd
  · have hfold := foldl_lane_while (C := fun x => x.runTime = u.runTime) (f := laneFromEgress)
      (g := fun _ l => if l.state = .egress then l.toClearing u.runTime else l)
      (fun x i hx => ⟨by rw [laneFromEgress_lanes, hx], by rw [laneFromEgress_runTime, hx]⟩) nodup_allLanes rfl i
    rw [hfold, if_pos (mem_allLanes i)]
    split
    · nofun
    · assumption

/-- A change of the line level or of the latch, from a state of which the law holds, ends in one. -/
theorem EgressLaw.demandEvent (h : EgressLaw s) (hst : u.supervisor.state = s.supervisor.state)
    (hret : u.supervisor.returnState = s.supervisor.returnState) (hset : u.supervisor.setup = s.supervisor.setup)
    (hl : u.lanes = s.lanes) (c : EgressCause) : EgressLaw (demandEvent s.demand c u) := by
  have hlane : ∀ i, u.lane i = s.lane i := lane_congr hl
  unfold Machine.demandEvent
  split
  · next hd => exact h.congr hst hret hd hset fun i => by rw [hlane]
  · next hd =>
    by_cases he : s.supervisor.state = .egress
    · obtain ⟨hsd, hsret, -⟩ := (egressLaw_egress he).mp h
      have hud : u.demand = false := by simpa [hsd] using hd
      simp only [hud, Bool.false_eq_true, if_false, hst, he]
      exact EgressLaw.leaveEgress hud (hret ▸ hsret) c
    · obtain ⟨hsd, hsret, hsl⟩ := (egressLaw_idle he).mp h
      have hpost : ∀ n, (u.supervisor.state ≠ .config → u.demand = false) → EgressLaw (post n u) := fun n hud =>
        ((egressLaw_idle (hst ▸ he)).mpr ⟨hud, hret.trans hsret, fun i => hlane i ▸ hsl i⟩).frames (by simp) (by simp)
      have henter : u.supervisor.state = .outOfService ∨ u.supervisor.state = .inService → u.demand = true →
          EgressLaw (Machine.enterEgress (some c) u) := fun hs hud =>
        EgressLaw.enterEgress hud hs (fun i hi => absurd hi (hlane i ▸ hsl i)) _
      split
      · next hud =>
        split
        · next hs => exact henter (.inl hs) hud
        · next hs => exact henter (.inr hs) hud
        · next hso hsi => exact hpost _ fun hc => by cases hx : u.supervisor.state <;> simp_all
      · next hud =>
        rw [hst]
        split
        · next hs => exact absurd hs he
        · exact hpost _ fun _ => Bool.eq_false_iff.mpr hud

/-! ### Requests (R30, R39, R44, R45, R182 to R185, R191) -/

theorem EgressLaw.setLatch (h : EgressLaw s) (v : Bool) : EgressLaw (setLatch v s) :=
  h.demandEvent (u := { s with supervisor := { s.supervisor with latch := v } }) rfl rfl rfl rfl _

theorem EgressLaw.lineAccepted (h : EgressLaw s) : EgressLaw (lineAccepted s) := by
  unfold Machine.lineAccepted
  split
  · exact h.demandEvent (u := { s with supervisor := { s.supervisor with
      line := ⟨s.supervisor.line.raw, s.supervisor.line.raw, none⟩ } }) rfl rfl rfl rfl _
  · exact h

theorem EgressLaw.lineRaw (h : EgressLaw s) (raw : Bool) : EgressLaw (lineRaw raw s) := by
  unfold Machine.lineRaw
  dsimp only
  split
  · exact h
  · exact h.congr rfl rfl rfl rfl fun _ => Iff.rfl

/-- The pontoon passes between OUT_OF_SERVICE and IN_SERVICE, or from CONFIG without a demand. -/
theorem EgressLaw.setPontoon (h : EgressLaw s) (hs : s.supervisor.state ≠ .egress) (hd : s.demand = false)
    {st : PontoonState} (hst : st ≠ .egress) (c : PontoonCause) : EgressLaw (setPontoon st none c s) := by
  obtain ⟨-, -, hl⟩ := (egressLaw_idle hs).mp h
  have hv : (Machine.setPontoon st none c s).supervisor = { s.supervisor with state := st, returnState := none } := by
    simp [Machine.setPontoon]
  refine (egressLaw_idle (by rw [hv]; exact hst)).mpr ⟨fun _ => ?_, by rw [hv], fun i => ?_⟩
  · rw [State.demand, hv]
    exact hd
  · rw [lane_congr (setPontoon_lanes ..)]
    exact hl i

theorem setUp_not_egress {wasPresent : Nat} {r : SetupRequest} (h : l.state ≠ .egress) :
    (l.setUp wasPresent r i).state ≠ .egress := by
  unfold Lane.setUp
  split
  · unfold Lane.takeRecord
    dsimp only
    split <;> exact h
  · split
    · nofun
    · exact h

theorem EgressLaw.ownSetup (h : EgressLaw s) (r : SetupRequest) : EgressLaw (ownSetup r s).1 := by
  unfold Machine.ownSetup
  split
  · exact h
  · next hidle =>
    have hs : s.supervisor.state ≠ .egress := fun he => hidle (.inr he)
    obtain ⟨hd, hret, hl⟩ := (egressLaw_idle hs).mp h
    split
    · exact h
    · dsimp only
      generalize hu : allLanes.foldl (setupLane s.supervisor.setup.lanesPresent r)
        { s with supervisor := { s.supervisor with setup := setupValues r } } = u
      have hv : u.supervisor = { s.supervisor with setup := setupValues r } := by
        rw [← hu, foldl_setupLane_supervisor]
      have hul : ∀ i, (u.lane i).state ≠ .egress := fun i => by
        rw [← hu, foldl_lane_eq (setupLane_lanes _ r) nodup_allLanes, if_pos (mem_allLanes i)]
        exact setUp_not_egress (hl i)
      by_cases hc : s.supervisor.state = .config
      · simp only [hc, decide_true, if_true, Bool.true_and]
        generalize hw : (if (setupValues r).markWindow = s.supervisor.setup.markWindow then
          Machine.setPontoon .outOfService none .setup u else windowExpiry (Machine.setPontoon .outOfService none .setup u)) = w
        have hwv : w.supervisor = { u.supervisor with state := .outOfService, returnState := none } := by
          rw [← hw, window_supervisor]
          simp [Machine.setPontoon]
        have hwl : ∀ i, (w.lane i).state ≠ .egress := fun i => by
          have hlanes : w.lanes = u.lanes := by
            rw [← hw]
            split <;> simp
          rw [lane_congr hlanes]
          exact hul i
        split
        · next hdw => exact EgressLaw.enterEgress hdw (.inl (by rw [hwv])) (fun i hi => absurd hi (hwl i)) none
        · next hdw => exact (egressLaw_idle (by rw [hwv]; nofun)).mpr ⟨fun _ => Bool.eq_false_iff.mpr hdw, by rw [hwv], hwl⟩
      · simp only [hc, decide_false, Bool.false_and, Bool.false_eq_true, if_false]
        have hlaw : EgressLaw u := (egressLaw_idle (by rw [hv]; exact hs)).mpr
          ⟨fun _ => by rw [State.demand, hv]; exact hd hc, by rw [hv]; exact hret, hul⟩
        exact hlaw.frames (window_supervisor ..) (by split <;> simp)

theorem EgressLaw.laneAtStart (h : EgressLaw s) (i : LaneIx) : EgressLaw (laneAtStart s i) := by
  unfold Machine.laneAtStart
  split
  · next hs =>
    split
    · exact h.faultLane (by simp [hs.2]) _
    · exact h.pass (by simp) (changeLane_lanes ..) (by simp [hs.2]) nofun
  · exact h

theorem EgressLaw.ownServiceStart (h : EgressLaw s) (freeRun : Option ServiceTime) : EgressLaw (ownServiceStart freeRun s).1 := by
  unfold Machine.ownServiceStart
  split
  · exact h
  · next hst =>
    have hst := not_not.mp hst
    split
    · exact h
    · split
      · exact h
      · split
        · exact h
        · have hfree : EgressLaw (applyFreeRun freeRun s) := h.frames (by simp) (by simp)
          have hs : (applyFreeRun freeRun s).supervisor.state = .outOfService := by rw [applyFreeRun_supervisor]; exact hst
          have hd := ((egressLaw_idle (by rw [hs]; nofun)).mp hfree).1 (by rw [hs]; nofun)
          dsimp only
          exact foldl_lanes (P := EgressLaw) EgressLaw.laneAtStart
            (hfree.setPontoon (st := .inService) (by rw [hs]; nofun) hd nofun .start)

/-- Stopping service and restarting change lanes of a pontoon that is not in EGRESS, and to other states than EGRESS. -/
theorem EgressLaw.ownServiceStop (h : EgressLaw s) : EgressLaw (ownServiceStop s).1 := by
  unfold Machine.ownServiceStop
  split
  · exact h
  · next hst =>
    have hst := not_not.mp hst
    split
    · exact h
    · have hd := ((egressLaw_idle (by simp [hst])).mp h).1 (by simp [hst])
      have hstopped := h.setPontoon (st := .outOfService) (by simp [hst]) hd nofun .stop
      have hs : (Machine.setPontoon .outOfService none .stop s).supervisor.state ≠ .egress := by simp [setPontoon_state]
      have hfold := foldl_lanes (P := fun u => EgressLaw u ∧ u.supervisor.state ≠ .egress) (f := laneAtStop)
        (fun {u} ⟨hu, hne⟩ i => by
          have hi := ((egressLaw_idle hne).mp hu).2.2 i
          refine ⟨hu.pass (by simp) (laneAtStop_lanes ..) hi ?_, by rwa [laneAtStop_supervisor]⟩
          split
          · nofun
          · exact hi) ⟨hstopped, hs⟩
      dsimp only
      exact hfold.1

theorem EgressLaw.ownRestart (h : EgressLaw s) : EgressLaw (ownRestart s).1 := by
  unfold Machine.ownRestart
  split
  · exact h
  · dsimp only
    have hlanes := foldl_lanes (P := EgressLaw) (f := laneAtRestart) (fun {s} hs i => by
      refine hs.turn (by simp) (changeLane_lanes ..) ?_
      unfold Lane.offIfFault
      split
      · next hf => simp [Lane.reseat, Lane.toOff, hf]
      · rfl) (h.frames (u := { s with link := { s.link with queue := [], lost := 0, stats := LinkStats.zero }, recent := [] }) rfl rfl)
    exact hlanes.frames (by simp) (by simp)

theorem EgressLaw.ownLaneAssign (h : EgressLaw s) (n : Nat) (b : Option Nat) : EgressLaw (ownLaneAssign n b s).1 := by
  refine atLane_keeps h fun i _ => ?_
  split
  · exact h
  · next b _ =>
    split
    · exact h
    · unfold assignLane settleOpt
      dsimp only
      split
      · exact h
      · refine h.turn (i := i) (l := { s.lane i with berth := b }) ?_ ?_ Iff.rfl
        all_goals repeat' split
        all_goals simp

theorem EgressLaw.ownLaneReturn (h : EgressLaw s) (n : Nat) : EgressLaw (ownLaneReturn n s).1 := by
  refine atLane_keeps h fun i _ => ?_
  split
  · exact h
  · next hs => exact h.startClosing (by simp [not_not.mp hs]) _

theorem EgressLaw.applyGrant (h : EgressLaw s) (hs : (s.lane i).state = .closed) (b : BerthIx) (ref card : Nat)
    (kind : AdmissionKind) (charge : Nat) (exhausted : Option Notice) :
    EgressLaw (applyGrant i b ref card kind charge exhausted s) :=
  h.pass (by simp) ((applyGrant_lanes ..).trans (takeHold_lanes ..)) (by simp [hs]) (by split <;> nofun)

theorem EgressLaw.ownPresent (h : EgressLaw s) (lane : Nat) (c : Credential) : EgressLaw (ownPresent lane c s).1 := by
  have hrefused : EgressLaw (applyRefusal lane s) := h.frames (by simp) (by simp)
  unfold Machine.ownPresent
  rcases judge_cases s lane c with ⟨r, hj⟩ | ⟨i, b, t, -, -, hs, -, -, hj⟩
  · rw [hj]
    exact hrefused
  · rw [hj]
    rcases judgeCard_cases s i b t c with ⟨r, slot, d, hc⟩ | ⟨d, hc⟩ | ⟨x, g, p, pay, hc⟩ <;> rw [hc]
    · exact hrefused
    · exact h.applyGrant hs ..
    · exact h.applyGrant hs ..

theorem EgressLaw.owner (h : EgressLaw s) (q : Request) : EgressLaw (owner q s).1 := by
  cases q with
  | setup r => exact h.ownSetup r
  | serviceStart t => exact h.ownServiceStart t
  | serviceStop => exact h.ownServiceStop
  | egressBegin =>
    unfold Machine.owner ownEgressBegin egressReply
    dsimp only
    split
    · exact h
    · exact h.setLatch true
  | egressEnd =>
    unfold Machine.owner ownEgressEnd egressReply
    dsimp only
    split
    · exact h.setLatch false
    · exact h
  | restart => exact h.ownRestart
  | laneAssign n b => exact h.ownLaneAssign n b
  | laneReturn n => exact h.ownLaneReturn n
  | present n c => exact h.ownPresent n c
  | _ => exact h.frames (by simp [Machine.owner]) (by simp [Machine.owner])

end

/-- The law of the pontoon's states is kept together with the law of the lanes, which it needs of the lanes in EGRESS alone: that they hold
no hold, so that a movement there ends none. -/
theorem egressLaw_rules : StepRules fun s => EgressLaw s ∧ LaneLaw s where
  frames hl hb hj hv h := ⟨h.1.frames hv hl, laneLaw_rules.frames hl hb hj hv h.2⟩
  owner hq h := ⟨h.1.owner _, owner_laneLaw hq h.2⟩
  powerOnReset pins s := ⟨(egressLaw_powerOn pins).frames rfl rfl, laneLaw_rules.powerOnReset pins s⟩
  beamRaw i a b _ h := ⟨h.1.beamRaw h.2 i a b, beamRaw_laneLaw i a b h.2⟩
  beamAccepted i _ h := ⟨h.1.beamAccepted h.2 i, beamAccepted_laneLaw i h.2⟩
  senseChange i o _ h := ⟨h.1.senseChange i o, senseChange_laneLaw i o h.2⟩
  barrierExpiry i _ h := ⟨h.1.barrierExpiry i, barrierExpiry_laneLaw i h.2⟩
  passageExpiry i _ h := ⟨h.1.passageExpiry i, passageExpiry_laneLaw i h.2⟩
  clearExpiry i _ h := ⟨h.1.clearExpiry i, clearExpiry_laneLaw i h.2⟩
  serviceAdvance h := ⟨h.1.frames (by simp) (by simp), laneLaw_rules.serviceAdvance h.2⟩
  lineRaw raw _ h := ⟨h.1.lineRaw raw, laneLaw_rules.lineRaw raw h.2⟩
  lineAccepted h := ⟨h.1.lineAccepted, laneLaw_rules.lineAccepted h.2⟩

/-- Settles O59: each event and each request keeps the law of the pontoon's states (`egressLaw_rules`), and every move of the berths the law
of boarding in service (`serviceLaw_move`). -/
theorem supervisorStaysSound : Obligations.SupervisorStaysSound := fun _ _ he hv hl hs =>
  ⟨(egressLaw_rules.step ⟨he, hl⟩ hs).1, (step_moves hs).keep serviceLaw_move hv⟩

end Sys2Proof.Machine
end

section
/-! SUPPORT. What a pass over the eight lanes makes of the state, said once for SETUP, service start and stop, RESTART and the end of egress:
each lane's own change and its notices, the lamps rising as at one change of all of them (R46). -/

namespace Sys2Proof

theorem PerLane.tabulate_get {α : Type} (v : PerLane α) : PerLane.tabulate v.get = v :=
  PerLane.ext_get fun i => PerLane.get_tabulate _ i

end Sys2Proof

namespace Sys2Proof.Machine

open Sys2Proof

/-- The lanes and the berths that the statements count. -/
theorem allLanes_eq_finRange : allLanes = List.finRange 8 := by decide

theorem allBerths_eq_finRange : allBerths = List.finRange 4 := by decide

/-! ### Putting all lanes -/

/-- The state with every lane unit replaced and no lamp changed. -/
def State.putLanes (g : LaneIx → Lane) (s : State) : State := { s with lanes := PerLane.tabulate g }

section
variable {s u : State} {i : LaneIx} {g : LaneIx → Lane}

@[simp] theorem putLanes_lane (g : LaneIx → Lane) (s : State) (i : LaneIx) : (s.putLanes g).lane i = g i :=
  PerLane.get_tabulate ..
@[simp] theorem putLanes_lamp (g : LaneIx → Lane) (s : State) (i : LaneIx) : (s.putLanes g).lamp i = s.lamp i := rfl
@[simp] theorem putLanes_lamps (g : LaneIx → Lane) (s : State) : (s.putLanes g).lamps = s.lamps := rfl
@[simp] theorem putLanes_berths (g : LaneIx → Lane) (s : State) : (s.putLanes g).berths = s.berths := rfl
@[simp] theorem putLanes_runTime (g : LaneIx → Lane) (s : State) : (s.putLanes g).runTime = s.runTime := rfl
@[simp] theorem putLanes_supervisor (g : LaneIx → Lane) (s : State) : (s.putLanes g).supervisor = s.supervisor := rfl
@[simp] theorem putLanes_clock (g : LaneIx → Lane) (s : State) : (s.putLanes g).clock = s.clock := rfl

theorem putLanes_same (s : State) : s.putLanes s.lane = s := by
  have h : PerLane.tabulate s.lane = s.lanes := PerLane.tabulate_get s.lanes
  unfold State.putLanes
  rw [h]

/-! ### Rises that cannot be (R46) -/

/-- A lane with the same state and assignment, whose lamp and whose berths stand, has the same level condition. -/
theorem level_of_state (hs : (u.lane i).state = (s.lane i).state) (ha : (u.lane i).berth = (s.lane i).berth)
    (hc : u.lamp i = s.lamp i) (hb : u.berths = s.berths) : u.level i = s.level i := by
  have htrip : u.boardingTrip i = s.boardingTrip i := by
    unfold State.boardingTrip State.berth
    rw [ha, hb]
  unfold State.level
  dsimp only
  rw [hs, hc, htrip]

/-- Whether a lane's condition rises is seen in its own unit, its lamp and the berths. -/
theorem levelRises_congr {s' u' : State} (hs : s'.lane i = s.lane i) (hu : u'.lane i = u.lane i)
    (hsc : s'.lamp i = s.lamp i) (huc : u'.lamp i = u.lamp i) (hsb : s'.berths = s.berths) (hub : u'.berths = u.berths) :
    levelRises s' u' i = levelRises s u i := by
  unfold levelRises
  rw [level_of_state (by rw [hs]) (by rw [hs]) hsc hsb, level_of_state (by rw [hu]) (by rw [hu]) huc hub, hs, hu]

/-- Lanes that enter OFF, or keep their state and their assignment, raise no lamp. -/
theorem rescanLamps_quiet (hc : u.lamps = s.lamps) (hb : u.berths = s.berths)
    (h : ∀ i, (u.lane i).state = .off ∨ ((u.lane i).state = (s.lane i).state ∧ (u.lane i).berth = (s.lane i).berth)) :
    rescanLamps s u = u := by
  have hr : ∀ i, levelRises s u i = false := fun i => by
    rcases h i with ho | ⟨hs, ha⟩
    · exact levelRises_off ho
    · unfold levelRises
      rw [level_of_state hs ha (lamp_congr hc i) hb, hs]
      cases s.level i <;> simp
  have hl : PerLane.tabulate (fun i => if levelRises s u i then (u.lamp i).rise u.runTime false else u.lamp i) = u.lamps :=
    PerLane.ext_get fun i => by simp [hr i, State.lamp]
  unfold rescanLamps
  rw [hl]

theorem rescanLamps_self (s : State) : rescanLamps s s = s := rescanLamps_quiet rfl rfl fun _ => .inr ⟨rfl, rfl⟩

theorem changeLane_congr {f f' : Lane → Lane} (h : f (s.lane i) = f' (s.lane i)) : changeLane i f s = changeLane i f' s := by
  rw [changeLane_rescan, changeLane_rescan, h]

/-- A lane that is as it was changes nothing. -/
theorem changeLane_fixed {f : Lane → Lane} (h : f (s.lane i) = s.lane i) : changeLane i f s = s := by
  have hput : s.putLane i (s.lane i) = s := by
    unfold State.putLane
    rw [lanes_set_lane]
  rw [changeLane_rescan, h, hput, rescanLamps_self]

/-- A change of a lane that keeps its state and its assignment raises no lamp. -/
theorem changeLane_alike {f : Lane → Lane} (hs : (f (s.lane i)).state = (s.lane i).state)
    (ha : (f (s.lane i)).berth = (s.lane i).berth) : changeLane i f s = setLane i f s :=
  rescanLamps_quiet rfl rfl fun j => .inr (by
    rw [setLane_lane]
    split
    · next h => subst h; exact ⟨hs, ha⟩
    · exact ⟨rfl, rfl⟩)

/-! ### Posting (R203) -/

theorem posting_putLanes (ns : List Notice) (g : LaneIx → Lane) (s : State) :
    (State.posting ns s).putLanes g = State.posting ns (s.putLanes g) := by
  rw [posting_eq, posting_eq]
  rfl

/-- Rises act before or after a notice is posted, as no condition reads the link. -/
theorem rescanLamps_posting (ns : List Notice) (s u : State) :
    rescanLamps (State.posting ns s) (State.posting ns u) = State.posting ns (rescanLamps s u) := by
  rw [posting_eq, posting_eq, posting_eq]
  rfl

/-! ### The pass -/

/-- A change of all lanes after a change of one that it leaves as it is, as one change. -/
theorem rescanLamps_changeLane {f : Lane → Lane} (hi : g i = f (s.lane i)) :
    rescanLamps (changeLane i f s) ((changeLane i f s).putLanes g) = rescanLamps s (s.putLanes g) := by
  have hlamp : ∀ j, (rescanLamps (changeLane i f s) ((changeLane i f s).putLanes g)).lamp j =
      (rescanLamps s (s.putLanes g)).lamp j := fun j => by
    rw [rescanLamps_lamp, rescanLamps_lamp]
    by_cases hj : j = i
    · subst hj
      have hstill : levelRises (changeLane j f s) ((changeLane j f s).putLanes g) j = false :=
        levelRises_same (by rw [putLanes_lane, hi, changeLane_lane_self]) rfl
          (boardingTrip_of_berths (by rw [putLanes_lane, hi, changeLane_lane_self]) fun _ _ => rfl)
      have hrises : levelRises s (setLane j f s) j = levelRises s (s.putLanes g) j :=
        levelRises_congr rfl (by rw [setLane_lane_self, putLanes_lane, hi]) rfl rfl rfl rfl
      rw [hstill, ← hrises]
      exact rescanLamps_lamp s (setLane j f s) j
    · obtain ⟨lamps, hl, he⟩ := changeLane_eq i f s
      have hkept : (changeLane i f s).lamp j = s.lamp j := by
        rw [he]
        exact hl j hj
      have hrises : levelRises (changeLane i f s) ((changeLane i f s).putLanes g) j = levelRises s (s.putLanes g) j :=
        levelRises_congr (changeLane_lane_other i j f s hj) (by rw [putLanes_lane, putLanes_lane]) hkept hkept rfl rfl
      rw [hrises, putLanes_lamp, hkept]
      rfl
  have hlamps : (rescanLamps (changeLane i f s) ((changeLane i f s).putLanes g)).lamps = (rescanLamps s (s.putLanes g)).lamps :=
    PerLane.ext_get hlamp
  show ({ s.putLanes g with lamps := (rescanLamps (changeLane i f s) ((changeLane i f s).putLanes g)).lamps } : State) = _
  rw [hlamps]
  rfl

/-- Two states with the same supervisor, berths and run time, in which a pass over the lanes does the same at each. -/
structure SamePass (s u : State) : Prop where
  supervisor : u.supervisor = s.supervisor
  berths : u.berths = s.berths
  runTime : u.runTime = s.runTime

theorem SamePass.refl (s : State) : SamePass s s := ⟨rfl, rfl, rfl⟩

theorem SamePass.present (h : SamePass s u) (i : LaneIx) : u.lanePresent i = s.lanePresent i :=
  lanePresent_congr (congrArg Supervisor.setup h.supervisor) i

/-- A pass in which each lane takes its own change and posts its own notices: the notices in the order of the lanes, and one change of all. -/
theorem foldl_pass {s₀ : State} {f : State → LaneIx → State} {g : LaneIx → Lane → Lane} {ns : LaneIx → Lane → List Notice}
    (hf : ∀ x i, SamePass s₀ x → f x i = State.posting (ns i (x.lane i)) (changeLane i (g i) x)) {is : List LaneIx}
    (hn : is.Nodup) (hs : SamePass s₀ s) :
    is.foldl f s = State.posting (is.flatMap fun i => ns i (s.lane i))
      (rescanLamps s (s.putLanes fun i => if i ∈ is then g i (s.lane i) else s.lane i)) := by
  induction is generalizing s with
  | nil => simp only [List.not_mem_nil, if_false, putLanes_same, rescanLamps_self]; rfl
  | cons i is ih =>
    obtain ⟨hi, hn⟩ := List.nodup_cons.mp hn
    have hnext : SamePass s₀ (State.posting (ns i (s.lane i)) (changeLane i (g i) s)) :=
      ⟨by simpa using hs.supervisor, by simpa using hs.berths, by simpa using hs.runTime⟩
    have hlane : ∀ j, j ∈ is → (changeLane i (g i) s).lane j = s.lane j := fun j hj =>
      changeLane_lane_other i j _ s fun e => hi (e ▸ hj)
    have hnotices : (is.flatMap fun j => ns j ((changeLane i (g i) s).lane j)) = is.flatMap fun j => ns j (s.lane j) :=
      List.flatMap_congr fun j hj => by rw [hlane j hj]
    have hlanes : (fun j => if j ∈ is then g j ((changeLane i (g i) s).lane j) else (changeLane i (g i) s).lane j) =
        fun j => if j ∈ i :: is then g j (s.lane j) else s.lane j := by
      funext j
      by_cases hji : j = i
      · subst hji
        simp [hi]
      · by_cases hj : j ∈ is <;> simp [hj, hji, changeLane_lane_other i j _ s hji]
    rw [List.foldl_cons, hf s i hs, ih hn hnext]
    simp only [posting_lane]
    rw [posting_putLanes, rescanLamps_posting, ← posting_append, hnotices, hlanes, rescanLamps_changeLane (by simp),
      List.flatMap_cons]

/-- The same over all eight lanes. -/
theorem foldl_allLanes {f : State → LaneIx → State} {g : LaneIx → Lane → Lane} {ns : LaneIx → Lane → List Notice}
    (hf : ∀ x i, SamePass s x → f x i = State.posting (ns i (x.lane i)) (changeLane i (g i) x)) :
    allLanes.foldl f s = State.posting (allLanes.flatMap fun i => ns i (s.lane i))
      (rescanLamps s (s.putLanes fun i => g i (s.lane i))) := by
  rw [foldl_pass hf nodup_allLanes (.refl s)]
  simp only [mem_allLanes, if_true]

/-- The same for a pass that posts nothing. -/
theorem foldl_allLanes_silent {f : State → LaneIx → State} {g : LaneIx → Lane → Lane}
    (hf : ∀ x i, SamePass s x → f x i = changeLane i (g i) x) :
    allLanes.foldl f s = rescanLamps s (s.putLanes fun i => g i (s.lane i)) := by
  have hnone : (allLanes.flatMap fun _ => ([] : List Notice)) = [] := by simp
  rw [foldl_allLanes (ns := fun _ _ => []) hf, hnone, posting_nil]

/-- A pass that posts nothing and brings lanes only to OFF, or leaves them their states and assignments. -/
theorem foldl_allLanes_quiet {f : State → LaneIx → State} {g : LaneIx → Lane → Lane}
    (hf : ∀ x i, SamePass s x → f x i = changeLane i (g i) x)
    (hg : ∀ i l, (g i l).state = .off ∨ ((g i l).state = l.state ∧ (g i l).berth = l.berth)) :
    allLanes.foldl f s = s.putLanes fun i => g i (s.lane i) := by
  rw [foldl_allLanes_silent hf]
  exact rescanLamps_quiet rfl rfl fun i => by
    rw [putLanes_lane]
    exact hg i _

end

end Sys2Proof.Machine
end

section
/-! SUPPORT. STATUS and TARIFF_QUERY (R145, R192), SERVICE_STOP (R185) and RESTART (R191). -/

namespace Sys2Proof.Machine

open Sys2Proof

section
variable {s u : State} {tag : Byte} {p : Reply}

/-! ### STATUS and TARIFF_QUERY (R145, R192) -/

theorem exec_tariffQuery (hs : s.slotFree) (ho : ownTariffQuery (countTaken s) = (u, p)) :
    exec (.tariffQuery tag) s = .next (State.answering 0x1C tag p u) :=
  exec_of_owner (q := .tariffQuery) hs rfl rfl ho

theorem exec_status (hs : s.slotFree) (ho : ownStatus (countTaken s) = (u, p)) :
    exec (.status tag) s = .next (State.answering 0x07 tag p u) :=
  exec_of_owner (q := .status) hs rfl rfl ho

/-- Of the units in ascending order those below a bound, by their place. -/
theorem getElem?_filter_finRange (n m k : Nat) :
    ((List.finRange n).filter fun b => decide (b.val < m))[k]? = if h : k < n ∧ k < m then some ⟨k, h.1⟩ else none := by
  induction n generalizing m k with
  | zero => simp
  | succ n ih =>
    rw [List.finRange_succ, List.filter_cons]
    cases m with
    | zero => simp
    | succ m =>
      have hmap : ((List.finRange n).map Fin.succ).filter (fun b => decide (b.val < m + 1)) =
          ((List.finRange n).filter fun b => decide (b.val < m)).map Fin.succ := by
        rw [List.filter_map]
        congr 2
        funext b
        simp [Function.comp]
      cases k with
      | zero => simp
      | succ k =>
        simp only [Fin.val_zero, Nat.zero_lt_succ, decide_true, if_true, List.getElem?_cons_succ, hmap, List.getElem?_map, ih]
        by_cases h : k < n ∧ k < m
        · rw [dif_pos h, dif_pos (by omega)]
          rfl
        · rw [dif_neg h, dif_neg (by omega)]
          rfl

end

/-- Settles O13: both owners read the values as they stand; the berths and the lanes stand in the answer by their numbers. -/
theorem statusAndTariffQueryReport : Obligations.StatusAndTariffQueryReport := by
  intro tag s hs
  refine ⟨exec_tariffQuery hs ?_, ?_⟩
  · rw [ownTariffQuery, complete?_isSome]
    rfl
  · obtain ⟨r, hr⟩ : ∃ r, ownStatus (countTaken s) = (countTaken s, .status r) := ⟨_, rfl⟩
    refine ⟨r, exec_status hs hr, ?_⟩
    obtain rfl : _ = r := Reply.status.inj (congrArg Prod.snd hr)
    refine ⟨rfl, rfl, rfl, rfl, rfl, rfl, rfl, rfl, rfl, rfl, rfl, rfl, rfl, fun k => ?_, fun k => ?_, rfl, rfl, rfl, rfl, rfl, rfl⟩
    · have hplace := getElem?_filter_finRange 4 s.supervisor.setup.berthsPresent k
      rw [← allBerths_eq_finRange] at hplace
      have hmap := congrArg (Option.map fun b => berthStatus (s.berth b)) hplace
      rw [← List.getElem?_map] at hmap
      refine hmap.trans ?_
      split <;> rfl
    · rw [List.getElem?_map, allLanes_eq_finRange]
      by_cases h : k < 8
      · rw [dif_pos h, List.getElem?_eq_getElem (by simpa using h), List.getElem_finRange]
        rfl
      · rw [dif_neg h, List.getElem?_eq_none (by simpa using h)]
        rfl

section
variable {s u : State} {tag : Byte} {p : Reply}

/-! ### SERVICE_STOP (R185) -/

theorem exec_serviceStop (hs : s.slotFree) (ho : ownServiceStop (countTaken s) = (u, p)) :
    exec (.serviceStop tag) s = .next (State.answering 0x03 tag p u) :=
  exec_of_owner (q := .serviceStop) hs rfl rfl ho

theorem berthStateOf_vacant (x : Berth) : berthStateOf x = .vacant ↔ x = none := by
  cases x with
  | none => simp [berthStateOf]
  | some t => cases h : t.phase <;> simp [berthStateOf, TripPhase.toBerthState, h]

theorem activeBerths_eq (s : State) : s.activeBerths =
    ((List.finRange 4).filter fun b => decide (b.val < s.supervisor.setup.berthsPresent ∧ s.berth b ≠ none)).map
      fun b => (b, berthStateOf (s.berth b)) := by
  unfold State.activeBerths State.berthPresent
  simp only [allBerths_eq_finRange, ne_eq, berthStateOf_vacant, Bool.decide_and]

theorem laneAtStop_eq (s : State) (i : LaneIx) :
    laneAtStop s i = changeLane i (fun l => if s.lanePresent i then l.toOffAtStop else l) s := by
  unfold laneAtStop
  split
  · rfl
  · exact (changeLane_fixed (f := fun l => l) rfl).symm

/-- Every present lane is OFF once service stops (R41, R185). -/
theorem foldl_laneAtStop_eq (s : State) :
    allLanes.foldl laneAtStop s = s.putLanes fun i => if s.lanePresent i then (s.lane i).toOffAtStop else s.lane i :=
  foldl_allLanes_quiet (g := fun i l => if s.lanePresent i then l.toOffAtStop else l)
    (fun x i hx => by rw [laneAtStop_eq, hx.present]) fun i l => by
      split
      · exact .inl rfl
      · exact .inr ⟨rfl, rfl⟩

theorem setPontoon_eq (st : PontoonState) (ret : Option PontoonState) (c : PontoonCause) (s : State) :
    setPontoon st ret c s = State.posting [.pontoonState s.supervisor.state st c ret s.clock.time]
      { s with supervisor := { s.supervisor with state := st, returnState := ret } } := rfl

theorem ownServiceStop_active (hst : s.supervisor.state = .inService) (ha : s.activeBerths ≠ []) :
    ownServiceStop s = (s, .berthsActive s.activeBerths) := by
  rw [ownServiceStop, if_neg (not_not.mpr hst), if_pos ha]

theorem ownServiceStop_clear (hst : s.supervisor.state = .inService) (ha : s.activeBerths = []) :
    ownServiceStop s = (State.posting [.pontoonState .inService .outOfService .stop none s.clock.time]
      (({ s with supervisor := { s.supervisor with state := .outOfService, returnState := none } } : State).putLanes
        fun i => if s.lanePresent i then (s.lane i).toOffAtStop else s.lane i), .code .ok) := by
  rw [ownServiceStop, if_neg (not_not.mpr hst), if_neg (not_not.mpr ha), setPontoon_eq, hst, foldl_laneAtStop_eq,
    posting_putLanes]
  simp only [posting_lane, lanePresent_congr (congrArg Supervisor.setup (posting_supervisor ..))]
  rfl

end

/-- Settles O56: the berths that stand in its way are `activeBerths_eq`, and what it makes of the lanes `foldl_laneAtStop_eq`. -/
theorem serviceStopTurnsTheLanesOff : Obligations.ServiceStopTurnsTheLanesOff := by
  intro tag s standing hs hstanding
  have hactive : (countTaken s).activeBerths = standing.map fun b => (b, berthStateOf (s.berth b)) := by
    rw [activeBerths_eq, hstanding]
    rfl
  refine ⟨fun hst => exec_serviceStop hs (if_pos hst), fun hst hne => ?_, fun hst he => ⟨PerLane.tabulate fun i =>
    if s.lanePresent i then (s.lane i).toOffAtStop else s.lane i, fun i => ?_, ?_⟩⟩
  · rw [← hactive]
    exact exec_serviceStop hs (ownServiceStop_active hst (by simpa [hactive] using hne))
  · rw [PerLane.get_tabulate]
    exact if_congr decide_eq_true_iff rfl rfl
  · exact exec_serviceStop hs (ownServiceStop_clear (s := countTaken s) hst (by simp [hactive, he]))

section
variable {s u : State} {tag : Byte} {p : Reply}

/-! ### RESTART (R191) -/

theorem exec_restart (hs : s.slotFree) (ho : ownRestart (countTaken s) = (u, p)) :
    exec (.restart tag) s = .next (State.answering 0x06 tag p u) :=
  exec_of_owner (q := .restart) hs rfl rfl ho

theorem offIfFault_quiet (l : Lane) : l.offIfFault.reseat.state = .off ∨
    (l.offIfFault.reseat.state = l.state ∧ l.offIfFault.reseat.berth = l.berth) := by
  unfold Lane.offIfFault
  split
  · exact .inl rfl
  · exact .inr ⟨rfl, rfl⟩

/-- A lane at RESTART (R41, R58). -/
theorem offIfFault_reseat_eq (l : Lane) : l.offIfFault.reseat = { l with
    state := if l.state = .fault then .off else l.state
    hold := if l.state = .fault then none else l.hold
    faultCause := if l.state = .fault then none else l.faultCause
    expiryPending := if l.state = .fault then false else l.expiryPending
    barrierTimer := if l.state = .fault then none else l.barrierTimer
    passageTimer := if l.state = .fault then none else l.passageTimer
    clearTimer := if l.state = .fault then none else l.clearTimer
    decoder := Decoder.reseated (pairOf l.beamOrder l.beamA.accepted l.beamB.accepted)
    lastChange := none } := by
  unfold Lane.offIfFault
  by_cases h : l.state = .fault
  · simp only [h, if_true]
    rfl
  · simp only [h, if_false]
    rfl

/-- A cancelled switch as one change, whether or not one is pending (R144). -/
theorem cancelSwitch_posting (c : CancelCause) (s : State) : cancelSwitch c s = State.posting
    (match s.tariff.pendingSwitch with
      | none => []
      | some p => [.tariffCancelled c p.generation p.effective s.activeGeneration])
    { s with tariff := { s.tariff with pendingSwitch := none } } := by
  cases hp : s.tariff.pendingSwitch with
  | none =>
    have hkept : { s.tariff with pendingSwitch := none } = s.tariff := by rw [← hp]
    rw [hkept, cancelSwitch_of_none hp]
    rfl
  | some p => exact cancelSwitch_eq hp c

theorem ownRestart_idle (hst : ¬(s.supervisor.state = .inService ∨ s.supervisor.state = .egress)) : ownRestart s =
    (cancelSwitch .restart { ({ s with
        link := { s.link with queue := [], lost := 0, stats := LinkStats.zero }
        recent := [] } : State).putLanes fun i => (s.lane i).offIfFault.reseat with
      lamps := PerLane.tabulate fun i => { s.lamp i with latch := false } },
      .restart s.link.queue.length s.link.lost) := by
  rw [ownRestart, if_neg hst]
  dsimp only
  rw [foldl_allLanes_quiet (f := laneAtRestart) (g := fun _ l => l.offIfFault.reseat) (fun _ _ _ => rfl)
    fun _ l => offIfFault_quiet l]
  rfl

end

/-- Settles O57: what it makes of the lanes is one change of all of them that raises no lamp (`ownRestart_idle`), and the cancelled switch is
posted last. -/
theorem restartClearsWhatItShould : Obligations.RestartClearsWhatItShould := by
  intro tag s hs
  refine ⟨fun hst => exec_restart hs (if_pos hst), fun hst => ⟨PerLane.tabulate fun i => (s.lane i).offIfFault.reseat,
    PerLane.tabulate fun i => { s.lamp i with latch := false }, fun i => ⟨?_, PerLane.get_tabulate ..⟩, ?_⟩⟩
  · rw [PerLane.get_tabulate, offIfFault_reseat_eq]
  · have hidle : ¬(s.supervisor.state = .inService ∨ s.supervisor.state = .egress) := by
      rcases hst with hst | hst <;> simp [hst]
    have hrestart := ownRestart_idle (s := countTaken s) hidle
    rw [cancelSwitch_posting] at hrestart
    exact exec_restart hs hrestart

end Sys2Proof.Machine
end

section
/-! SUPPORT. The emergency line, the egress requests, and the changes of the egress demand (R42, R43, R177, R186, R187, R189). -/

namespace Sys2Proof.Machine

open Sys2Proof

section
variable {s t u : State} {i : LaneIx} {tag : Byte} {p : Reply} {c : EgressCause}

/-! ### The line and the latch (R177, R186) -/

theorem exec_lineRaw {raw : Bool} (h : lineRaw raw s = u) : exec (.emergencyLineRawChange raw) s = .next (endOfEvent u) := h ▸ rfl

theorem exec_lineAccepted (h : lineAccepted s = u) : exec .emergencyLineAcceptedChange s = .next (endOfEvent u) := h ▸ rfl

theorem exec_egressBegin (hs : s.slotFree) (ho : ownEgressBegin (countTaken s) = (u, p)) :
    exec (.egressBegin tag) s = .next (State.answering 0x04 tag p u) :=
  exec_of_owner (q := .egressBegin) hs rfl rfl ho

theorem exec_egressEnd (hs : s.slotFree) (ho : ownEgressEnd (countTaken s) = (u, p)) :
    exec (.egressEnd tag) s = .next (State.answering 0x05 tag p u) :=
  exec_of_owner (q := .egressEnd) hs rfl rfl ho

theorem lineAccepted_early (h : ∀ m, s.supervisor.line.measure = some m → s.runTime < m + 20) : lineAccepted s = s := by
  have hd : s.lineDue = false := by
    unfold State.lineDue
    cases hm : s.supervisor.line.measure with
    | none => rfl
    | some m => exact decide_eq_false (not_le.mpr (h m hm))
  rw [lineAccepted, hd]
  rfl

theorem lineAccepted_due {m : Nat} (hm : s.supervisor.line.measure = some m) (hd : m + 20 ≤ s.runTime) :
    lineAccepted s = demandEvent s.demand .line
      { s with supervisor := { s.supervisor with line := ⟨s.supervisor.line.raw, s.supervisor.line.raw, none⟩ } } := by
  have hdue : s.lineDue = true := by
    rw [State.lineDue, hm]
    exact decide_eq_true hd
  rw [lineAccepted, if_pos hdue]

/-- A change of the demand leaves the line level and the latch as they are. -/
theorem demandEvent_inputs (before : Bool) (c : EgressCause) (s : State) :
    (demandEvent before c s).supervisor.line = s.supervisor.line ∧
      (demandEvent before c s).supervisor.latch = s.supervisor.latch := by
  have henter : ∀ o, (enterEgress o s).supervisor = { s.supervisor with state := .egress, returnState := some s.supervisor.state } :=
    fun o => by simp [enterEgress, setPontoon]
  have hleave : (leaveEgress c s).supervisor =
      { s.supervisor with state := s.supervisor.returnState.getD .outOfService, returnState := none } := by
    simp [leaveEgress, setPontoon]
  unfold demandEvent
  split
  · exact ⟨rfl, rfl⟩
  · split
    · split
      · simp [henter]
      · simp [henter]
      · simp
    · split
      · simp [hleave]
      · simp

theorem egressReply_setLatch {v : Bool} (ht : t = demandEvent s.demand .request { s with supervisor := { s.supervisor with latch := v } }) :
    egressReply .ok (setLatch v s) =
      (t, .egress .ok v s.supervisor.line.accepted (s.supervisor.line.accepted || v) t.supervisor.state) := by
  obtain ⟨hline, hlatch⟩ := demandEvent_inputs s.demand .request { s with supervisor := { s.supervisor with latch := v } }
  rw [← ht] at hline hlatch
  unfold egressReply setLatch State.demand
  rw [← State.demand, ← ht, hline, hlatch]

/-! ### The lanes (R42, R43) -/

/-- A present lane that is not in EGRESS enters it, without a hold to void (R42). -/
theorem laneToEgress_free (hp : s.lanePresent i = true) (hs : (s.lane i).state ≠ .egress) (hh : (s.lane i).hold = none) :
    laneToEgress s i = rescanLamps s (s.putLane i (s.lane i).toEgress) := by
  unfold laneToEgress
  rw [if_pos ⟨hp, hs⟩, hh]
  dsimp only
  rw [settleBerthOf_of_busy (by rw [changeLane_lane_self]; rfl), changeLane_rescan]

/-- The same with a hold, whose void HOLD_VOID announces before the berth's notices (R42, R109, R12). -/
theorem laneToEgress_holding {h : Hold} {b : BerthIx} (hp : s.lanePresent i = true) (hs : (s.lane i).state ≠ .egress)
    (hh : (s.lane i).hold = some h) (hb : (s.lane i).berth = some b) :
    laneToEgress s i = berthVoid b (State.posting [.holdVoid i h.card .egress h.charge h.kind]
      (rescanLamps s (s.voided i h (s.lane i).toEgress))) := by
  unfold laneToEgress voidHold
  rw [if_pos ⟨hp, hs⟩, hh]
  dsimp only
  rw [reportTo_some (b := b) (by rw [dropHold_lane_self]; exact hb), dropHold_eq (next := (s.lane i).toEgress) rfl]

theorem laneFromEgress_eq (s : State) (i : LaneIx) :
    laneFromEgress s i = changeLane i (fun l => if l.state = .egress then l.toClearing s.runTime else l) s := by
  unfold laneFromEgress
  split
  · next h =>
    rw [settleBerthOf_of_busy (by rw [changeLane_lane_self]; rfl)]
    exact changeLane_congr (if_pos h).symm
  · next h => exact (changeLane_fixed (if_neg h)).symm

/-- Every lane in EGRESS enters CLEARING (R43). -/
theorem foldl_laneFromEgress_eq (s : State) : allLanes.foldl laneFromEgress s = rescanLamps s
    (s.putLanes fun i => if (s.lane i).state = .egress then (s.lane i).toClearing s.runTime else s.lane i) :=
  foldl_allLanes_silent (g := fun _ l => if l.state = .egress then l.toClearing s.runTime else l) fun x i hx => by
    rw [laneFromEgress_eq, hx.runTime]

/-! ### The pontoon (R187, R189) -/

theorem leaveEgress_eq {back : PontoonState} (hst : s.supervisor.state = .egress) (hret : s.supervisor.returnState = some back) :
    leaveEgress c s = State.posting
      [.pontoonState .egress back .egressEnd none s.clock.time,
        .egress .ends c s.supervisor.line.accepted s.supervisor.latch s.clock.time]
      (rescanLamps s (({ s with supervisor := { s.supervisor with state := back, returnState := none } } : State).putLanes
        fun i => if (s.lane i).state = .egress then (s.lane i).toClearing s.runTime else s.lane i)) := by
  have hposted : post (egressNotice (setPontoon back none .egressEnd s) .ends c) (setPontoon back none .egressEnd s) =
      State.posting [.pontoonState .egress back .egressEnd none s.clock.time,
        .egress .ends c s.supervisor.line.accepted s.supervisor.latch s.clock.time]
      { s with supervisor := { s.supervisor with state := back, returnState := none } } := by
    rw [setPontoon_eq, egressNotice, posting_supervisor, posting_clock, hst]
    rfl
  unfold leaveEgress
  rw [hret, Option.getD_some]
  dsimp only
  rw [hposted, foldl_laneFromEgress_eq, posting_putLanes, rescanLamps_posting]
  simp only [posting_lane, posting_runTime]
  rfl

theorem enterEgress_some (c : EgressCause) (s : State) : enterEgress (some c) s = allLanes.foldl laneToEgress (State.posting
    [.pontoonState s.supervisor.state .egress .egressBegin (some s.supervisor.state) s.clock.time,
      .egress .begins c s.supervisor.line.accepted s.supervisor.latch s.clock.time]
    { s with supervisor := { s.supervisor with state := .egress, returnState := some s.supervisor.state } }) := by
  unfold enterEgress
  dsimp only
  rw [setPontoon_eq, Option.map_some, egressNotice, posting_supervisor, posting_clock]
  rfl

theorem demandEvent_rise (hd : s.demand = true) : demandEvent false c s =
    if s.supervisor.state = .outOfService ∨ s.supervisor.state = .inService then enterEgress (some c) s
    else post (egressNotice s .begins c) s := by
  unfold demandEvent
  rw [if_neg (by simp [hd]), if_pos hd]
  cases s.supervisor.state <;> rfl

theorem demandEvent_fall (hd : s.demand = false) : demandEvent true c s =
    if s.supervisor.state = .egress then leaveEgress c s else post (egressNotice s .ends c) s := by
  unfold demandEvent
  rw [if_neg (by simp [hd]), if_neg (by simp [hd])]
  cases s.supervisor.state <;> rfl

end

/-- Settles O58: the line and the requests hand the change of the demand to `demandEvent`, which is said for a rise and for a fall; the lanes
enter EGRESS one by one (`laneToEgress_free`, `laneToEgress_holding`) and leave it as one change (`leaveEgress_eq`). -/
theorem egressDemandMovesThePontoon : Obligations.EgressDemandMovesThePontoon := by
  refine ⟨fun raw s => ⟨exec_lineRaw rfl, fun h => exec_lineAccepted (lineAccepted_early h),
      fun m hm hd => exec_lineAccepted (lineAccepted_due hm hd)⟩, fun tag s hs => ⟨fun hl => ?_, fun hl => ?_, fun hl => ?_, fun hl => ?_⟩,
    fun before c s => ⟨fun hd => if_pos hd, fun hb hd => ⟨fun hst => ?_, fun hst => ?_⟩, fun hb hd => ⟨fun hst => ?_, ?_⟩⟩,
    fun i s next hn => ⟨fun h => ?_, fun hi hst => ⟨fun hh => ?_, fun h b hh hb => ?_⟩⟩⟩
  · exact exec_egressBegin hs (by simp [ownEgressBegin, egressReply, State.demand, hl])
  · exact exec_egressEnd hs (by simp [ownEgressEnd, egressReply, State.demand, hl])
  · refine ⟨_, rfl, exec_egressBegin hs ?_⟩
    rw [ownEgressBegin, if_neg (by simp [hl]), egressReply_setLatch (s := countTaken s) rfl, Bool.or_true]
    rfl
  · refine ⟨_, rfl, exec_egressEnd hs ?_⟩
    rw [ownEgressEnd, if_pos (show (countTaken s).supervisor.latch = true from hl), egressReply_setLatch (s := countTaken s) rfl,
      Bool.or_false]
    rfl
  · rw [hb, demandEvent_rise hd, if_neg (by rcases hst with hst | hst <;> simp [hst])]
    rfl
  · rw [hb, demandEvent_rise hd, if_pos hst, enterEgress_some, allLanes_eq_finRange]
  · rw [hb, demandEvent_fall hd, if_neg hst]
    rfl
  · intro back hst hret
    refine ⟨PerLane.tabulate fun i => if (s.lane i).state = .egress then (s.lane i).toClearing s.runTime else s.lane i,
      fun i => PerLane.get_tabulate .., ?_⟩
    rw [hb, demandEvent_fall hd, if_pos hst, leaveEgress_eq hst hret]
    rfl
  · refine if_neg fun hi => ?_
    have hp : i.val < s.supervisor.setup.lanesPresent := of_decide_eq_true hi.1
    exact h.elim (fun hle => by omega) hi.2
  · rw [hn, laneToEgress_free (decide_eq_true hi) hst hh]
    rfl
  · rw [hn, laneToEgress_holding (decide_eq_true hi) hst hh hb]
    rfl

end Sys2Proof.Machine
end

section
/-! SUPPORT. SERVICE_START (R41, R156, R183, R184). -/

namespace Sys2Proof.Machine

open Sys2Proof

section
variable {s u : State} {i : LaneIx} {tag : Byte} {p : Reply} {free : Option ServiceTime}

theorem exec_serviceStart (hs : s.slotFree) (ho : ownServiceStart free (countTaken s) = (u, p)) :
    exec (.serviceStart tag free) s = .next (State.answering 0x02 tag p u) :=
  exec_of_owner (q := .serviceStart free) hs rfl rfl ho

/-! ### The checks (R183) -/

theorem startTimeHolds_iff : startTimeHolds free s = true ↔
    s.clock.state = .synced ∨ (free ≠ none ∧ s.supervisor.setup.freeRunPermitted = true) := by
  simp [startTimeHolds, Option.isSome_iff_ne_none]

theorem ownServiceStart_range {t : ServiceTime} (hst : s.supervisor.state = .outOfService) (hf : free = some t)
    (ht : 86399 < t.second) : ownServiceStart free s = (s, .code .range) := by
  rw [ownServiceStart, if_neg (not_not.mpr hst), if_pos (elim_timeInRange_eq_false.mpr ⟨t, hf, ht⟩)]

theorem timeInRange_of_le (hr : ∀ t, free = some t → t.second ≤ 86399) : ¬free.elim true timeInRange = false := by
  rw [elim_timeInRange_eq_false]
  rintro ⟨t, hf, ht⟩
  exact absurd (hr t hf) (by omega)

theorem ownServiceStart_noTariff (hst : s.supervisor.state = .outOfService) (hr : ∀ t, free = some t → t.second ≤ 86399)
    (ha : s.tariff.active = none) : ownServiceStart free s = (s, .code .noTariff) := by
  rw [ownServiceStart, if_neg (not_not.mpr hst), if_neg (timeInRange_of_le hr), if_pos ha]

theorem ownServiceStart_notSynced (hst : s.supervisor.state = .outOfService) (hr : ∀ t, free = some t → t.second ≤ 86399)
    (ha : s.tariff.active ≠ none) (hc : s.clock.state ≠ .synced) (hf : free = none ∨ s.supervisor.setup.freeRunPermitted = false) :
    ownServiceStart free s = (s, .code .timeNotSynced) := by
  have hno : startTimeHolds free s = false := by
    rw [← Bool.not_eq_true, startTimeHolds_iff]
    rintro (h | ⟨hn, hp⟩)
    · exact hc h
    · exact hf.elim hn fun h => by simp [h] at hp
  rw [ownServiceStart, if_neg (not_not.mpr hst), if_neg (timeInRange_of_le hr), if_neg ha, if_pos hno]

/-! ### The free-run start (R156) -/

/-- What the Service Clock makes of a SERVICE_START that passes: the clock and the notices by the time state. -/
structure FreeRunGives (free : Option ServiceTime) (now : Nat) (old new : Clock) (ns : List Notice) : Prop where
  synced : old.state = .synced → new = old ∧ ns = []
  unset : ∀ t, free = some t → old.state = .unset →
    new = { old with state := .degraded, time := some t, settingRunTime := some now, advances := 0 } ∧
      ns = [.timeState .unset .degraded .freeRun (some t)]
  degraded : ∀ t o, free = some t → old.state = .degraded → old.time = some o →
    (absSecond t < absSecond o → new = old ∧ ns = []) ∧
    (absSecond o ≤ absSecond t →
      new = { old with time := some t, settingRunTime := some now, advances := 0 } ∧
        ns = if absSecond o + 2 < absSecond t then [.timeStep o t .forward] else [])

/-- A setting with every berth VACANT and no switch pending gives a trigger without effect (R157). -/
theorem giveTrigger_of_rest {now : ServiceTime} (hn : s.clock.time = some now) (hv : ∀ b, s.berth b = none)
    (hp : s.tariff.pendingSwitch = none) : giveTrigger s = s :=
  giveTrigger_of_ahead hn (fun b t _ ht => by simp [hv b] at ht) fun p h => by simp [hp] at h

theorem stepNotice_forward {o t : ServiceTime} (h : absSecond o ≤ absSecond t) :
    (stepNotice (some o) t).toList = if absSecond o + 2 < absSecond t then [.timeStep o t .forward] else [] := by
  unfold stepNotice
  dsimp only
  split_ifs with h1 h2
  · rfl
  · omega
  · rfl

/-- A free-run start posts its notices and changes the clock, and nothing else while no berth holds a trip and no switch is pending. -/
theorem freeRunStart_posts (t : ServiceTime) (hv : ∀ b, s.berth b = none)
    (hp : s.clock.state ≠ .synced → s.tariff.pendingSwitch = none) (hc : s.clock.state = .unset ↔ s.clock.time = none) :
    ∃ clock ns, freeRunStart t s = State.posting ns { s with clock := clock } ∧
      FreeRunGives (some t) s.runTime s.clock clock ns := by
  have hrest : ∀ (ns : List Notice) (c : Clock), c.time = some t → s.clock.state ≠ .synced →
      giveTrigger (State.posting ns { s with clock := c }) = State.posting ns { s with clock := c } := fun ns c hct hns =>
    giveTrigger_of_rest (by rw [posting_clock]; exact hct) (fun b => (posting_berth ..).trans (hv b))
      (by rw [posting_tariff]; exact hp hns)
  have hset : ∀ ns, setTime t (State.posting ns s) = State.posting ns
      { s with clock := { s.clock with time := some t, settingRunTime := some s.runTime, advances := 0 } } := fun ns => by
    rw [posting_eq, posting_eq]
    rfl
  have hdegraded : s.clock.state = .unset → setTimeState .degraded .freeRun (setTime t s) =
      State.posting [.timeState .unset .degraded .freeRun (some t)] { s with clock := { s.clock with
        state := .degraded, time := some t, settingRunTime := some s.runTime, advances := 0 } } := fun hst => by
    rw [setTimeState_eq, setTime_clock, hst]
    rfl
  unfold freeRunStart
  split
  · next hst => exact ⟨s.clock, [], rfl, fun _ => ⟨rfl, rfl⟩, by simp [hst], by simp [hst]⟩
  · next hst =>
    refine ⟨_, _, (congrArg giveTrigger (hdegraded hst)).trans (hrest _ _ rfl (by simp [hst])), by simp [hst], fun t' ht _ => ?_,
      by simp [hst]⟩
    obtain rfl := Option.some.inj ht
    exact ⟨rfl, rfl⟩
  · next hst ht => exact absurd (hc.mpr ht) (by simp [hst])
  · next o hst ho =>
    split
    · next hle =>
      have hstep := (congrArg (setTime t) (postOpt_eq (stepNotice (some o) t) s)).trans (hset _)
      refine ⟨_, _, (congrArg giveTrigger hstep).trans (hrest _ _ rfl (by simp [hst])), by simp [hst], by simp [hst],
        fun t' o' ht' _ ho' => ?_⟩
      obtain rfl := Option.some.inj ht'
      obtain rfl := Option.some.inj (ho.symm.trans ho')
      exact ⟨fun hlt => absurd hle (by omega), fun _ => ⟨rfl, stepNotice_forward hle⟩⟩
    · next hlt =>
      refine ⟨s.clock, [], rfl, fun _ => ⟨rfl, rfl⟩, by simp [hst], fun t' o' ht' _ ho' => ?_⟩
      obtain rfl := Option.some.inj ht'
      obtain rfl := Option.some.inj (ho.symm.trans ho')
      exact ⟨fun _ => ⟨rfl, rfl⟩, fun hle => absurd hle hlt⟩

/-- The Service Clock's part of a start that passes its checks (R184, step 1). -/
theorem applyFreeRun_posts (hv : ∀ b, s.berth b = none) (hp : s.clock.state ≠ .synced → s.tariff.pendingSwitch = none)
    (hc : s.clock.state = .unset ↔ s.clock.time = none)
    (hstart : s.clock.state = .synced ∨ (free ≠ none ∧ s.supervisor.setup.freeRunPermitted = true)) :
    ∃ clock ns, applyFreeRun free s = State.posting ns { s with clock := clock } ∧
      FreeRunGives free s.runTime s.clock clock ns := by
  have hkept : s.clock.state = .synced → FreeRunGives free s.runTime s.clock s.clock [] := fun hst =>
    ⟨fun _ => ⟨rfl, rfl⟩, by simp [hst], by simp [hst]⟩
  cases free with
  | none => exact ⟨s.clock, [], rfl, hkept (hstart.resolve_right fun h => h.1 rfl)⟩
  | some t =>
    unfold applyFreeRun
    dsimp only
    split
    · exact freeRunStart_posts t hv hp hc
    · next hno => exact ⟨s.clock, [], rfl, hkept (hstart.resolve_right fun h => hno h.2)⟩

/-! ### The lanes (R41) -/

/-- A lane when service starts, by whether it is present. -/
def Lane.started (present : Bool) (l : Lane) : Lane :=
  if present = true ∧ l.state = .off then (if l.sense then l.toFault .forced else { l with state := .closed }) else l

/-- Whether a lane is found open when service starts. -/
def Lane.foundOpen (present : Bool) (l : Lane) : Bool := present && decide (l.state = .off) && l.sense

theorem foundOpen_iff (present : Bool) (l : Lane) :
    l.foundOpen present = true ↔ (present = true ∧ l.state = .off) ∧ l.sense = true := by
  simp [Lane.foundOpen]

/-- A started lane, a lane found open first. -/
theorem started_eq (present : Bool) (l : Lane) : l.started present =
    if l.foundOpen present = true then l.toFault .forced
    else if present = true ∧ l.state = .off then { l with state := .closed } else l := by
  unfold Lane.started
  by_cases h : present = true ∧ l.state = .off
  · by_cases ho : l.sense = true <;> simp only [foundOpen_iff, h, ho] <;> rfl
  · simp only [foundOpen_iff, h, false_and, if_false]

theorem settleBerthOf_of_vacant (hv : ∀ b, s.berth b = none) : settleBerthOf i s = s := by
  unfold settleBerthOf
  split
  · rfl
  · exact settle_of_vacant (hv _)

/-- A lane's start while no berth holds a trip. -/
theorem laneAtStart_eq (hv : ∀ b, s.berth b = none) (i : LaneIx) :
    laneAtStart s i = State.posting (if (s.lane i).foundOpen (s.lanePresent i) then [.laneFault i .forced] else [])
      (changeLane i (Lane.started (s.lanePresent i)) s) := by
  unfold laneAtStart faultLane
  split
  · next h =>
    split
    · next ho =>
      rw [if_pos ((foundOpen_iff ..).mpr ⟨h, ho⟩), settleBerthOf_of_vacant fun b => by simp [hv b],
        changeLane_congr (f' := Lane.started (s.lanePresent i)) (by rw [Lane.started, if_pos h, if_pos ho])]
      rfl
    · next ho =>
      rw [if_neg (by simp [foundOpen_iff, ho])]
      exact changeLane_congr (by rw [Lane.started, if_pos h, if_neg ho])
  · next h =>
    rw [if_neg (by rw [foundOpen_iff]; exact fun hf => h hf.1)]
    exact (changeLane_fixed (by rw [Lane.started, if_neg h])).symm

theorem flatMap_ite {α β : Type} (c : α → Bool) (f : α → β) (xs : List α) :
    (xs.flatMap fun x => if c x then [f x] else []) = (xs.filter c).map f := by
  induction xs with
  | nil => rfl
  | cons x xs ih => by_cases h : c x = true <;> simp [h, ih]

/-- Every present lane in OFF takes its start, those found open posting LANE_FAULT in ascending order. -/
theorem foldl_laneAtStart_eq (hv : ∀ b, s.berth b = none) : allLanes.foldl laneAtStart s =
    State.posting ((allLanes.filter fun i => (s.lane i).foundOpen (s.lanePresent i)).map fun i => .laneFault i .forced)
      (rescanLamps s (s.putLanes fun i => (s.lane i).started (s.lanePresent i))) := by
  have hpass := foldl_allLanes (s := s) (f := laneAtStart) (g := fun i => Lane.started (s.lanePresent i))
    (ns := fun i l => if l.foundOpen (s.lanePresent i) then [.laneFault i .forced] else []) fun x i hx => by
      rw [laneAtStart_eq fun b => (berth_congr hx.berths b).trans (hv b), hx.present]
  rw [hpass, flatMap_ite]

/-! ### The whole start (R184) -/

theorem lanesIn_eq (s : State) (st : LaneState) : s.lanesIn st =
    ((List.finRange 8).filter fun i => decide (i.val < s.supervisor.setup.lanesPresent ∧ (s.lane i).state = st)).length := by
  unfold State.lanesIn State.lanePresent
  simp only [allLanes_eq_finRange, Bool.decide_and]

/-- The state that a SERVICE_START that passes leaves, by what the clock has made of it. -/
def State.started (clock : Clock) (timeNotices : List Notice) (s : State) : State :=
  State.posting (timeNotices ++ [.pontoonState .outOfService .inService .start none clock.time] ++
      (allLanes.filter fun i => (s.lane i).foundOpen (s.lanePresent i)).map fun i => .laneFault i .forced)
    (rescanLamps s (({ s with
      clock := clock
      supervisor := { s.supervisor with state := .inService, returnState := none } } : State).putLanes
        fun i => (s.lane i).started (s.lanePresent i)))

theorem ownServiceStart_passed {clock : Clock} {ns : List Notice} (hst : s.supervisor.state = .outOfService)
    (hr : ∀ t, free = some t → t.second ≤ 86399) (ha : s.tariff.active ≠ none)
    (hstart : s.clock.state = .synced ∨ (free ≠ none ∧ s.supervisor.setup.freeRunPermitted = true))
    (hv : ∀ b, s.berth b = none) (hclock : applyFreeRun free s = State.posting ns { s with clock := clock }) :
    ownServiceStart free s = (s.started clock ns, .serviceStart clock.state clock.time ((s.started clock ns).lanesIn .closed)
      ((s.started clock ns).lanesIn .fault)) := by
  have hstarted : allLanes.foldl laneAtStart (setPontoon .inService none .start (applyFreeRun free s)) = s.started clock ns := by
    have hpontoon : setPontoon .inService none .start (State.posting ns { s with clock := clock }) =
        State.posting (ns ++ [.pontoonState .outOfService .inService .start none clock.time])
          { s with clock := clock, supervisor := { s.supervisor with state := .inService, returnState := none } } := by
      rw [setPontoon_eq, posting_append, posting_supervisor, posting_clock, hst, posting_eq ns, posting_eq ns]
    rw [hclock, hpontoon, foldl_laneAtStart_eq, posting_putLanes, rescanLamps_posting, ← posting_append]
    · simp only [posting_lane, lanePresent_congr (congrArg Supervisor.setup (posting_supervisor ..))]
      rfl
    · exact fun b => (posting_berth ..).trans (hv b)
  rw [ownServiceStart, if_neg (not_not.mpr hst), if_neg (timeInRange_of_le hr), if_neg ha,
    if_neg (by rw [startTimeHolds_iff.mpr hstart]; nofun)]
  dsimp only
  rw [hstarted]
  have hc : (s.started clock ns).clock = clock := by rw [State.started, posting_clock]; rfl
  rw [hc]

end

/-- Settles O55: the checks in their order, then the clock's part (`applyFreeRun_posts`), the pontoon's and the lanes' (`ownServiceStart_passed`).
Out of service every berth is VACANT (R26), so that neither a trigger nor a faulted lane has a further effect. -/
theorem serviceStartBringsThePontoonIntoService : Obligations.ServiceStartBringsThePontoonIntoService := by
  intro tag free s hs
  refine ⟨fun hst => exec_serviceStart hs (if_pos hst), fun hst => ⟨fun t hf ht => exec_serviceStart hs
    (ownServiceStart_range hst hf ht), fun hr => ⟨fun ha => exec_serviceStart hs (ownServiceStart_noTariff hst hr ha),
      fun ha hc hf => exec_serviceStart hs (ownServiceStart_notSynced hst hr ha hc hf), fun ha hstart hsl htl hcl => ?_⟩⟩⟩
  have hv : ∀ b, s.berth b = none := vacant_of_idle (by simp [hst]) hsl
  have hp : s.clock.state ≠ .synced → s.tariff.pendingSwitch = none := fun hne =>
    Option.eq_none_iff_forall_ne_some.mpr fun p hp => hne (htl p hp).1
  obtain ⟨clock, ns, hclock, hgives⟩ := applyFreeRun_posts (s := countTaken s) (free := free) hv hp hcl.1 hstart
  refine ⟨clock, ns, PerLane.tabulate fun i => (s.lane i).started (s.lanePresent i),
    allLanes.filter fun i => (s.lane i).foundOpen (s.lanePresent i), hgives.synced, hgives.unset, hgives.degraded, ?_, fun i => ?_, ?_⟩
  · rw [allLanes_eq_finRange]
    rfl
  · rw [PerLane.get_tabulate, started_eq]
    simp only [List.mem_filter, mem_allLanes, true_and, foundOpen_iff, State.lanePresent, decide_eq_true_eq]
    rfl
  · have howner := ownServiceStart_passed (s := countTaken s) hst hr ha hstart hv hclock
    have hcount : ∀ st, ((countTaken s).started clock ns).lanesIn st = ((List.finRange 8).filter fun i =>
        decide (i.val < s.supervisor.setup.lanesPresent ∧
          ((PerLane.tabulate fun i => (s.lane i).started (s.lanePresent i)).get i).state = st)).length := fun st => by
      rw [lanesIn_eq, State.started]
      simp only [posting_supervisor, posting_lane]
      rfl
    rw [hcount, hcount] at howner
    refine (exec_serviceStart hs howner).trans ?_
    rw [State.started, rescanLamps_countTaken]
    rfl

end Sys2Proof.Machine
end

section
/-! SUPPORT. SETUP: its checks, the values it moves into range, what it makes of the lanes and of the pontoon (R44, R150, R155, R180 to R182). -/

namespace Sys2Proof.Machine

open Sys2Proof

section
variable {s u : State} {i : LaneIx} {l : Lane} {r : SetupRequest} {tag : Byte} {p : Reply}

theorem exec_setup (hs : s.slotFree) (hr : r.lanes.length = r.lanesPresent) (ho : ownSetup r (countTaken s) = (u, p)) :
    exec (.setup tag r) s = .next (State.answering 0x01 tag p u) :=
  exec_of_owner (q := .setup r) hs rfl (by simp [lengthFault, hr]) ho

/-! ### The checks (R181) -/

theorem beamOrder_ofCode_eq_none (n : Nat) : BeamOrder.ofCode n = none ↔ 1 < n := by
  rcases n with _ | _ | n <;> simp [BeamOrder.ofCode]

/-- The first lane record with a bad beam order, by its number. -/
theorem badBeamOrder_eq (k : Nat) (rs : List LaneRecord) :
    badBeamOrder k rs = (rs.findIdx? fun l => decide (1 < l.beamOrder)).map fun j => ⟨k + j, 1⟩ := by
  induction rs generalizing k with
  | nil => rfl
  | cons x rs ih =>
    rw [badBeamOrder, List.findIdx?_cons]
    by_cases h : 1 < x.beamOrder
    · simp [beamOrder_ofCode_eq_none, h]
    · simp only [beamOrder_ofCode_eq_none, h, if_false, decide_false, Bool.false_eq_true, ih, Option.map_map]
      congr 1
      funext j
      simp only [Function.comp]
      congr 1
      omega

/-- A SETUP that passes its checks names a beam order for each lane (R51, R181). -/
theorem beamOrder_of_good (h : setupBad r = none) {rec : LaneRecord} (hm : rec ∈ r.lanes) :
    ∃ order, BeamOrder.ofCode rec.beamOrder = some order ∧ (order = .normal ↔ rec.beamOrder = 0) := by
  have hb : badBeamOrder 1 r.lanes = none := by
    cases hb : badBeamOrder 1 r.lanes with
    | none => rfl
    | some f =>
      rw [setupBad, hb] at h
      dsimp only at h
      split_ifs at h
  rw [badBeamOrder_eq, Option.map_eq_none_iff, List.findIdx?_eq_none_iff] at hb
  have hle := of_decide_eq_false (hb rec hm)
  obtain h0 | h1 : rec.beamOrder = 0 ∨ rec.beamOrder = 1 := by omega
  · exact ⟨.normal, by rw [h0]; rfl, by simp [h0]⟩
  · exact ⟨.swapped, by rw [h1]; rfl, by simp [h1]⟩

/-! ### Clamped values (R44, R150, R155, R180) -/

theorem clamp_eq {low high : Nat} (h : low ≤ high) (n : Nat) : clamp low high n = max low (min high n) := by
  unfold clamp
  split_ifs <;> omega

theorem clamp_zero (high n : Nat) : clamp 0 high n = min high n := by rw [clamp_eq (Nat.zero_le _), Nat.zero_max]

theorem eq_clamp_iff {low high : Nat} (h : low ≤ high) (n : Nat) : n = clamp low high n ↔ ¬(n < low ∨ high < n) := by
  rw [clamp_eq h]
  omega

theorem nearestFilter_eq_iff (n : Nat) : n = nearestFilter n ↔ n ∈ [0, 5, 10, 20, 50, 100] := by
  constructor
  · intro h
    rw [h]
    exact nearestFrom_mem n 0 [5, 10, 20, 50, 100]
  · intro h
    have hself := (nearestFrom_nearer n 0 [5, 10, 20, 50, 100] (by decide) n h).1
    unfold nearestFilter
    omega

/-- The filter code that a lane takes is the nearest allowed one, and midway the larger (R44). -/
theorem nearestFilter_nearest (n : Nat) : ∀ v ∈ [(0 : Int), 5, 10, 20, 50, 100],
    ((n : Int) - nearestFilter n).natAbs ≤ ((n : Int) - v).natAbs ∧
      (((n : Int) - nearestFilter n).natAbs = ((n : Int) - v).natAbs → v ≤ nearestFilter n) := by
  intro v hv
  have hnat : v = v.toNat ∧ v.toNat ∈ [0, 5, 10, 20, 50, 100] := by
    simp only [List.mem_cons, List.not_mem_nil, or_false] at hv ⊢
    omega
  have hnearer := nearestFrom_nearer n 0 [5, 10, 20, 50, 100] (by decide) _ hnat.2
  rw [hnat.1]
  unfold Nearer at hnearer
  unfold nearestFilter
  omega

theorem mem_clampedField (f g : FieldName) (carried used : Nat) : f ∈ clampedField g carried used ↔ f = g ∧ ¬carried = used := by
  unfold clampedField
  split <;> simp [*]

/-- The fields of one lane record that a SETUP moves into range (R44). -/
def RecordClamps (k : Nat) (rec : LaneRecord) (f : FieldName) : Prop :=
  (f = ⟨k, 2⟩ ∧ rec.filterCode ∉ [0, 5, 10, 20, 50, 100]) ∨
    (f = ⟨k, 3⟩ ∧ (rec.passageTimeout < 3000 ∨ 30000 < rec.passageTimeout)) ∨
    (f = ⟨k, 4⟩ ∧ (rec.barrierTimeout < 500 ∨ 3000 < rec.barrierTimeout))

theorem mem_clampedLanes (f : FieldName) (k : Nat) (rs : List LaneRecord) :
    f ∈ clampedLanes k rs ↔ ∃ j rec, rs[j]? = some rec ∧ RecordClamps (j + k) rec f := by
  induction rs generalizing k with
  | nil => simp [clampedLanes]
  | cons x rs ih =>
    have hhead : f ∈ clampedField ⟨k, 2⟩ x.filterCode (nearestFilter x.filterCode) ++
        clampedField ⟨k, 3⟩ x.passageTimeout (clampPassageTimeout x.passageTimeout) ++
        clampedField ⟨k, 4⟩ x.barrierTimeout (clampBarrierTimeout x.barrierTimeout) ↔ RecordClamps k x f := by
      simp only [List.mem_append, mem_clampedField, nearestFilter_eq_iff, clampPassageTimeout, clampBarrierTimeout,
        eq_clamp_iff (show 3000 ≤ 30000 by omega), eq_clamp_iff (show 500 ≤ 3000 by omega), not_not, or_assoc, RecordClamps]
    rw [clampedLanes, List.mem_append, hhead, ih]
    constructor
    · rintro (h | ⟨j, rec, hj, hc⟩)
      · exact ⟨0, x, rfl, by rwa [Nat.zero_add]⟩
      · exact ⟨j + 1, rec, hj, by rwa [Nat.add_right_comm, Nat.add_assoc]⟩
    · rintro ⟨j, rec, hj, hc⟩
      cases j with
      | zero =>
        obtain rfl := Option.some.inj hj
        exact .inl (by rwa [Nat.zero_add] at hc)
      | succ j => exact .inr ⟨j, rec, hj, by rwa [Nat.add_right_comm, Nat.add_assoc] at hc⟩

theorem mem_setupClamped (f : FieldName) (r : SetupRequest) : f ∈ setupClamped r ↔
    (f = ⟨0, 5⟩ ∧ 120 < r.courtesyWindow) ∨ (f = ⟨0, 6⟩ ∧ (r.markWindow < 30 ∨ 600 < r.markWindow)) ∨
      (f = ⟨0, 7⟩ ∧ 1439 < r.dayStartOffset) ∨ ∃ k rec, r.lanes[k]? = some rec ∧ RecordClamps (k + 1) rec f := by
  simp only [setupClamped, List.mem_append, mem_clampedField, mem_clampedLanes, eq_clamp_iff (Nat.zero_le _),
    eq_clamp_iff (show 30 ≤ 600 by omega), not_not, or_assoc, Nat.not_lt_zero, false_or]

/-! ### The lanes (R44, R51, R58, R182) -/

theorem takeRecord_alike (rec : LaneRecord) (l : Lane) : (l.takeRecord rec).state = l.state ∧ (l.takeRecord rec).berth = l.berth := by
  unfold Lane.takeRecord
  dsimp only
  split <;> exact ⟨rfl, rfl⟩

/-- A lane that takes its record, written out. -/
theorem takeRecord_eq {rec : LaneRecord} {order : BeamOrder} (ho : BeamOrder.ofCode rec.beamOrder = some order) (l : Lane) :
    l.takeRecord rec = { l with
      beamOrder := order
      filterCode := nearestFilter rec.filterCode
      passageTimeout := max 3000 (min 30000 rec.passageTimeout)
      barrierTimeout := max 500 (min 3000 rec.barrierTimeout)
      decoder := if order = l.beamOrder then l.decoder else Decoder.reseated (pairOf order l.beamA.accepted l.beamB.accepted)
      lastChange := if order = l.beamOrder then l.lastChange else none } := by
  rw [← clamp_eq (by omega), ← clamp_eq (by omega)]
  unfold Lane.takeRecord
  rw [ho]
  by_cases h : order = l.beamOrder
  · simp only [Option.getD_some, h, if_true]
    rfl
  · simp only [Option.getD_some, h, if_false]
    rfl

theorem setupLane_eq (wasPresent : Nat) (r : SetupRequest) (s : State) (i : LaneIx) :
    setupLane wasPresent r s i = changeLane i (Lane.setUp wasPresent r i) s := by
  unfold setupLane
  split
  · next rec hrec =>
    have hup : (s.lane i).setUp wasPresent r i = (s.lane i).takeRecord rec := by rw [Lane.setUp, hrec]
    rw [changeLane_congr (f' := Lane.takeRecord rec) hup]
    exact (changeLane_alike (takeRecord_alike rec _).1 (takeRecord_alike rec _).2).symm
  · next hrec =>
    split
    · next hi => exact changeLane_congr (by rw [Lane.setUp, hrec]; exact (if_pos hi).symm)
    · next hi => exact (changeLane_fixed (by rw [Lane.setUp, hrec]; exact if_neg hi)).symm

/-- A SETUP makes one change of all lanes, which raises no lamp. -/
theorem foldl_setupLane_eq (wasPresent : Nat) (r : SetupRequest) (s : State) :
    allLanes.foldl (setupLane wasPresent r) s = s.putLanes fun i => (s.lane i).setUp wasPresent r i :=
  foldl_allLanes_quiet (g := Lane.setUp wasPresent r) (fun x i _ => setupLane_eq wasPresent r x i) fun i l => by
    unfold Lane.setUp
    split
    · exact .inr (takeRecord_alike _ l)
    · split
      · exact .inl rfl
      · exact .inr ⟨rfl, rfl⟩

/-! ### The whole SETUP (R182) -/

theorem setupValues_eq (r : SetupRequest) : setupValues r = ⟨r.pontoonId, r.lanesPresent, r.berthsPresent, min 120 r.courtesyWindow,
    max 30 (min 600 r.markWindow), 60 * min 1439 r.dayStartOffset, r.defaultMargin, r.freeRunPermitted⟩ := by
  unfold setupValues
  rw [clamp_zero, clamp_zero, clamp_eq (by omega)]

theorem markWindow_setupValues (r : SetupRequest) : (setupValues r).markWindow = max 30 (min 600 r.markWindow) :=
  clamp_eq (by omega) _

/-- The state once a SETUP has written its values, with CONFIG become OUT_OF_SERVICE. -/
def State.setUp (r : SetupRequest) (s : State) : State :=
  State.posting (if s.supervisor.state = .config then [.pontoonState .config .outOfService .setup none s.clock.time] else [])
    (({ s with supervisor := { s.supervisor with
        state := .outOfService
        returnState := if s.supervisor.state = .config then none else s.supervisor.returnState
        setup := setupValues r } } : State).putLanes fun i => (s.lane i).setUp s.supervisor.setup.lanesPresent r i)

theorem ownSetup_taken {expired final : State} (hst : s.supervisor.state = .config ∨ s.supervisor.state = .outOfService)
    (hb : setupBad r = none)
    (he : expired = if max 30 (min 600 r.markWindow) = s.supervisor.setup.markWindow then s.setUp r else windowExpiry (s.setUp r))
    (hf : final = if s.supervisor.state = .config ∧ s.demand = true then enterEgress none expired else expired) :
    ownSetup r s = (final, .setup (setupClamped r) final.supervisor.state) := by
  have hdemand : expired.demand = s.demand := by
    have hv : expired.supervisor = (s.setUp r).supervisor := by rw [he, window_supervisor]
    rw [demand_congr hv, State.setUp, demand_congr (posting_supervisor ..)]
    rfl
  have hlanes : allLanes.foldl (setupLane s.supervisor.setup.lanesPresent r)
      { s with supervisor := { s.supervisor with setup := setupValues r } } =
      ({ s with supervisor := { s.supervisor with setup := setupValues r } } : State).putLanes
        fun i => (s.lane i).setUp s.supervisor.setup.lanesPresent r i := foldl_setupLane_eq ..
  have hpontoon : (if decide (s.supervisor.state = .config) = true then
      setPontoon .outOfService none .setup (({ s with supervisor := { s.supervisor with setup := setupValues r } } : State).putLanes
        fun i => (s.lane i).setUp s.supervisor.setup.lanesPresent r i)
      else ({ s with supervisor := { s.supervisor with setup := setupValues r } } : State).putLanes
        fun i => (s.lane i).setUp s.supervisor.setup.lanesPresent r i) = s.setUp r := by
    unfold State.setUp
    rcases hst with hc | hc
    · simp only [hc, decide_true, if_true, setPontoon_eq, putLanes_supervisor, putLanes_clock]
      rfl
    · have hkept : { s.supervisor with state := PontoonState.outOfService, setup := setupValues r } =
        { s.supervisor with setup := setupValues r } := by rw [← hc]
      simp only [hc, reduceCtorEq, decide_false, Bool.false_eq_true, if_false]
      rw [hkept]
      rfl
  rw [ownSetup, if_neg (by rcases hst with h | h <;> simp [h]), hb]
  dsimp only
  rw [hlanes, hpontoon, markWindow_setupValues, ← he, hdemand, hf]
  simp only [Bool.and_eq_true, decide_eq_true_eq]

end

/-- Settles O54: the checks name the first bad field (`badBeamOrder_eq`); a SETUP that passes them makes one change of all lanes
(`foldl_setupLane_eq`) and of the pontoon, then looks at the mark window and at the demand (`ownSetup_taken`). -/
theorem setupWritesEverySetupValue : Obligations.SetupWritesEverySetupValue := by
  intro tag r s hs hr
  refine ⟨fun hst => exec_setup hs hr (if_pos hst), fun hst bad hbad => ?_⟩
  have hidle : ¬((countTaken s).supervisor.state = .inService ∨ (countTaken s).supervisor.state = .egress) := by
    rcases hst with hst | hst <;> simp [hst]
  have hbad' : setupBad r = bad := by
    rw [hbad, setupBad, badBeamOrder_eq]
    cases r.lanes.findIdx? fun l => decide (1 < l.beamOrder) with
    | none => rfl
    | some k => simp only [Option.map_some, Nat.add_comm 1 k]
  refine ⟨fun f hf => exec_setup hs hr ?_, fun hnone => ?_⟩
  · rw [ownSetup, if_neg hidle, hbad', hf]
  · have hgood := hbad'.trans hnone
    refine ⟨PerLane.tabulate fun i => (s.lane i).setUp s.supervisor.setup.lanesPresent r i, setupClamped r, (countTaken s).setUp r, _, _,
      fun i rec hrec => ?_, fun i hi => ?_, fun f => mem_setupClamped f r, ?_, rfl, rfl,
      exec_setup hs hr (ownSetup_taken (s := countTaken s) hst hgood rfl rfl)⟩
    · obtain ⟨order, ho, hzero⟩ := beamOrder_of_good hgood (List.mem_of_getElem? hrec)
      refine ⟨order, nearestFilter rec.filterCode, hzero, nearestFrom_mem .., nearestFilter_nearest _, ?_⟩
      rw [PerLane.get_tabulate, Lane.setUp, hrec]
      exact takeRecord_eq ho _
    · rw [PerLane.get_tabulate, Lane.setUp, List.getElem?_eq_none (by omega)]
      rfl
    · rw [State.setUp, setupValues_eq]
      rfl

end Sys2Proof.Machine
end

section
/-! SUPPORT. The blocks other than the Link Controller post notices and change nothing else of the link; RESTART first empties the Notice
Queue and the statistics (R191, R203). -/

namespace Sys2Proof.Machine

open Sys2Proof

/-- The link of `u` is that of `s` after some notices have been posted, one after another. -/
def Posts (s u : State) : Prop := ∃ ns, u.link = (State.posting ns s).link

section
variable {s u v : State}

theorem Posts.refl (s : State) : Posts s s := ⟨[], rfl⟩

theorem Posts.same (h : Posts s u) (hl : v.link = u.link) : Posts s v := h.imp fun _ hn => hl.trans hn

theorem Posts.post (h : Posts s u) (n : Notice) : Posts s (post n u) := by
  obtain ⟨ns, hns⟩ := h
  refine ⟨ns ++ [n], ?_⟩
  rw [posting_append, posting_cons, posting_nil, post_eq, post_eq, hns]

theorem Posts.postOpt (h : Posts s u) (n : Option Notice) : Posts s (postOpt n u) := by
  cases n with
  | none => exact h
  | some n => exact h.post n

/-! ### One berth (R2, R9, R15, R19, R20, R22 to R24) -/

theorem Posts.recomputeFill (h : Posts s u) (b : BerthIx) : Posts s (recomputeFill b u) := by
  unfold Machine.recomputeFill
  dsimp only
  split
  · exact h
  · split
    · exact h
    · exact (h.same (by simp)).post _

theorem Posts.storeRecord (h : Posts s u) (b : BerthIx) (r : TripRecord) : Posts s (storeRecord b r u) := by
  have hstored := (h.same (v := { u with journal := { u.journal with records := u.journal.records ++ [r] } }) rfl).post
    (.tripStored b r.tripRef (u.journal.records ++ [r]).length)
  exact (hstored.same (by simp)).post _

theorem Posts.depart (h : Posts s u) (b : BerthIx) (t : Trip) : Posts s (depart b t u) := by
  unfold Machine.depart postBerthState offerRecord
  dsimp only
  have hdeparted := (h.same (changeBerth_link b (fun _ => some (t.departedAt b u.clock.time)) u)).post
  split
  · exact (hdeparted _).storeRecord b _
  · exact ((hdeparted _).same (by rfl)).post _

theorem Posts.settle (h : Posts s u) (b : BerthIx) : Posts s (settle b u) := by
  unfold Machine.settle
  split
  · exact h
  · split
    · exact h.depart b _
    · exact h

theorem Posts.closeBerth (h : Posts s u) (b : BerthIx) (cause : CloseCause) : Posts s (closeBerth b cause u) :=
  ((h.same (changeTrip_link ..)).post _).settle b

theorem Posts.closeWhenFull (h : Posts s u) (b : BerthIx) : Posts s (closeWhenFull b u) := by
  unfold Machine.closeWhenFull
  split
  · exact h
  · split
    · exact h.closeBerth b _
    · exact h

theorem Posts.closeAtDeparture (h : Posts s u) (b : BerthIx) : Posts s (closeAtDeparture b u) := by
  unfold Machine.closeAtDeparture
  split
  · exact h.closeBerth b _
  · exact h

theorem Posts.tripEvent (h : Posts s u) (b : BerthIx) (forwardStep : Bool) (f : Trip → Trip) :
    Posts s (tripEvent b forwardStep f u) := by
  have hchanged : Posts s (Machine.recomputeFill b (changeTrip b f u)) := (h.same (changeTrip_link ..)).recomputeFill b
  unfold Machine.tripEvent
  split
  · exact h
  · split
    · exact h
    · dsimp only
      refine Posts.settle ?_ b
      split
      · exact hchanged.closeWhenFull b
      · exact hchanged

theorem Posts.serveWaiting (h : Posts s u) : Posts s (serveWaiting u) := by
  unfold Machine.serveWaiting
  split
  · exact h
  · next b rest _ =>
    have hnext : Posts s { u with journal := { u.journal with waiting := rest } } := h.same rfl
    dsimp only
    split
    · exact hnext
    · split
      · exact hnext
      · exact hnext.storeRecord b _

/-! ### One lane (R31 to R43) -/

theorem Posts.settleBerthOf (h : Posts s u) (i : LaneIx) : Posts s (settleBerthOf i u) := by
  unfold Machine.settleBerthOf
  split
  · exact h
  · exact h.settle _

theorem Posts.settleOpt (h : Posts s u) (o : Option BerthIx) : Posts s (settleOpt o u) := by
  cases o with
  | none => exact h
  | some b => exact h.settle b

/-- A lane reports to its berth: a consumption, a passage or a void (R11 to R13). -/
theorem Posts.reportTo (h : Posts s u) (i : LaneIx) (forwardStep : Bool) (f : Trip → Trip) :
    Posts s (reportTo i (fun b => Machine.tripEvent b forwardStep f) u) := by
  unfold Machine.reportTo
  split
  · exact h
  · exact h.tripEvent ..

/-- A lane takes another form, and its berth tests its settlement. -/
theorem Posts.turn (h : Posts s u) (i : LaneIx) (f : Lane → Lane) :
    Posts s (Machine.settleBerthOf i (changeLane i f u)) :=
  (h.same (changeLane_link ..)).settleBerthOf i

theorem Posts.faultLane (h : Posts s u) (i : LaneIx) (c : LaneFaultCause) : Posts s (faultLane i c u) :=
  ((h.same (changeLane_link ..)).post _).settleBerthOf i

theorem Posts.dropHold (h : Posts s u) (i : LaneIx) (c : VoidCause) (k : Hold) (next : Lane → Lane) :
    Posts s (dropHold i c k next u) :=
  (h.same (by simp)).post _

theorem Posts.voidHold (h : Posts s u) (i : LaneIx) (c : VoidCause) (k : Hold) (next : Lane → Lane) :
    Posts s (voidHold i c k next u) :=
  (h.dropHold i c k next).reportTo i _ _

theorem Posts.consumeHold (h : Posts s u) (i : LaneIx) (k : Hold) : Posts s (consumeHold i k u) :=
  Posts.reportTo (h.same (by simp)) i _ _

theorem Posts.completeClosing (h : Posts s u) (i : LaneIx) : Posts s (completeClosing i u) := by
  unfold Machine.completeClosing
  dsimp only
  split
  · exact ((h.same (changeLane_link ..)).post _).settleBerthOf i
  · exact h.turn i _

theorem Posts.startClosing (h : Posts s u) (i : LaneIx) (f : Lane → Lane) : Posts s (startClosing i f u) := by
  have hclosing := h.turn i fun l => (f l).toClosing u.runTime
  unfold Machine.startClosing
  dsimp only
  split
  · exact hclosing
  · exact hclosing.completeClosing i

/-! ### Beams and passages (R33, R34, R40, R59) -/

theorem Posts.reportPassage (h : Posts s u) (i : LaneIx) (m : Movement) (inEgress : Bool) :
    Posts s (reportPassage i m inEgress u) := by
  unfold Machine.reportPassage
  split
  · exact h
  · exact h.reportTo i _ _

theorem Posts.takeMovement (h : Posts s u) (i : LaneIx) (m : Movement) (entry : EntrySide) :
    Posts s (takeMovement i m entry u) := by
  have hposted := h.postOpt
  unfold Machine.takeMovement
  dsimp only
  split
  · split
    · exact (hposted _).consumeHold i _
    · split
      · exact (hposted _).reportPassage i m _
      · exact (((hposted _).dropHold i _ _ _).reportPassage i m _).reportTo i _ _
  · exact h

theorem Posts.takeAccepted (h : Posts s u) (i : LaneIx) (old : Lane) : Posts s (takeAccepted i old u) := by
  unfold Machine.takeAccepted takeBeams
  dsimp only
  refine Posts.same ?_ (followClear_link ..)
  split
  · exact h.same (by simp)
  · exact (h.same (by simp)).takeMovement i _ _

theorem Posts.beamRaw (h : Posts s u) (i : LaneIx) (a b : Bool) : Posts s (beamRaw i a b u) := by
  unfold Machine.beamRaw
  dsimp only
  split
  · exact h.same (by simp)
  · exact (h.same (by simp)).takeAccepted i _

theorem Posts.beamAccepted (h : Posts s u) (i : LaneIx) : Posts s (beamAccepted i u) := by
  unfold Machine.beamAccepted
  split
  · exact h.takeAccepted i _
  · exact h

/-! ### Barrier events and timers (R31, R32, R34, R36 to R38) -/

theorem Posts.senseChange (h : Posts s u) (i : LaneIx) (o : Bool) : Posts s (senseChange i o u) := by
  have hset : Posts s (setLane i (fun l => { l with sense := o }) u) := h.same rfl
  unfold Machine.senseChange
  dsimp only
  split
  · exact h
  · split
    · exact hset.turn i _
    · exact hset.turn i _
    · exact hset.faultLane i _
    · exact hset.completeClosing i
    · exact hset.faultLane i _
    · exact hset

theorem Posts.barrierExpiry (h : Posts s u) (i : LaneIx) : Posts s (barrierExpiry i u) := by
  unfold Machine.barrierExpiry
  split
  · split
    · split
      · exact ((h.dropHold i _ _ _).post _).reportTo i _ _
      · exact h.faultLane i _
    · exact h.faultLane i _
    · exact h
  · exact h

theorem Posts.passageExpiry (h : Posts s u) (i : LaneIx) : Posts s (passageExpiry i u) := by
  unfold Machine.passageExpiry
  split
  · split
    · split
      · exact h.voidHold i _ _ _
      · exact h.turn i _
    · exact h.same rfl
  · exact h

theorem Posts.clearExpiry (h : Posts s u) (i : LaneIx) : Posts s (clearExpiry i u) := by
  unfold Machine.clearExpiry
  split
  · split
    · exact h.startClosing i _
    · exact h.turn i _
    · exact h
  · exact h

/-! ### The Tariff Store and the Service Clock (R138 to R142, R149, R151 to R157) -/

theorem Posts.completeSwitch (h : Posts s u) (set : TariffSet) : Posts s (completeSwitch set u) := by
  unfold Machine.completeSwitch
  exact (h.same (by rfl)).post _

theorem Posts.cancelSwitch (h : Posts s u) (c : CancelCause) : Posts s (cancelSwitch c u) := by
  unfold Machine.cancelSwitch
  split
  · exact h
  · exact (h.same (by rfl)).post _

theorem Posts.effectiveTrigger (h : Posts s u) : Posts s (effectiveTrigger u) := by
  unfold Machine.effectiveTrigger
  split
  · split
    · exact h.completeSwitch _
    · exact h
  · exact h

theorem Posts.giveTrigger (h : Posts s u) : Posts s (giveTrigger u) := by
  unfold Machine.giveTrigger
  refine List.foldlRecOn _ _ (h.same (freeOrder_link ..)) fun v hv task _ => ?_
  cases task with
  | berth b => exact hv.closeAtDeparture b
  | tariff => exact hv.effectiveTrigger

theorem Posts.setTimeState (h : Posts s u) (st : TimeState) (c : TimeCause) : Posts s (setTimeState st c u) := by
  unfold Machine.setTimeState
  split
  · exact h
  · exact (h.same (by rfl)).post _

theorem Posts.serviceAdvance (h : Posts s u) : Posts s (serviceAdvance u) := by
  unfold Machine.serviceAdvance
  dsimp only
  split
  · split
    · exact h.same rfl
    · split
      · exact h.same rfl
      · exact (h.same (by rfl)).giveTrigger
  · exact h

theorem Posts.windowExpiry (h : Posts s u) : Posts s (windowExpiry u) := by
  unfold Machine.windowExpiry
  split
  · exact (h.setTimeState _ _).cancelSwitch _
  · exact h

theorem Posts.applyFreeRun (h : Posts s u) (o : Option ServiceTime) : Posts s (applyFreeRun o u) := by
  have hset (t : ServiceTime) {v : State} (hv : Posts s v) : Posts s (setTime t v) := hv.same (setTime_link ..)
  unfold Machine.applyFreeRun freeRunStart
  split
  · exact h
  · split
    · split
      · exact h
      · exact ((hset _ h).setTimeState _ _).giveTrigger
      · exact (hset _ h).giveTrigger
      · split
        · exact (hset _ (h.postOpt _)).giveTrigger
        · exact h
    · exact h

/-! ### Service and egress (R41 to R43, R178, R186 to R189) -/

theorem Posts.laneAtStart (h : Posts s u) (i : LaneIx) : Posts s (laneAtStart u i) := by
  unfold Machine.laneAtStart
  split
  · split
    · exact h.faultLane i _
    · exact h.same (changeLane_link ..)
  · exact h

theorem Posts.laneToEgress (h : Posts s u) (i : LaneIx) : Posts s (laneToEgress u i) := by
  unfold Machine.laneToEgress
  split
  · split
    · exact h.voidHold i _ _ _
    · exact h.turn i _
  · exact h

theorem Posts.laneFromEgress (h : Posts s u) (i : LaneIx) : Posts s (laneFromEgress u i) := by
  unfold Machine.laneFromEgress
  split
  · exact h.turn i _
  · exact h

theorem Posts.setPontoon (h : Posts s u) (st : PontoonState) (ret : Option PontoonState) (c : PontoonCause) :
    Posts s (setPontoon st ret c u) := by
  unfold Machine.setPontoon
  exact (h.same (by rfl)).post _

theorem Posts.enterEgress (h : Posts s u) (changed : Option EgressCause) : Posts s (enterEgress changed u) := by
  unfold Machine.enterEgress
  exact foldl_lanes (f := Machine.laneToEgress) Posts.laneToEgress ((h.setPontoon _ _ _).postOpt _)

theorem Posts.leaveEgress (h : Posts s u) (c : EgressCause) : Posts s (leaveEgress c u) := by
  unfold Machine.leaveEgress
  exact foldl_lanes (f := Machine.laneFromEgress) Posts.laneFromEgress ((h.setPontoon _ _ _).post _)

theorem Posts.demandEvent (h : Posts s u) (before : Bool) (c : EgressCause) : Posts s (demandEvent before c u) := by
  unfold Machine.demandEvent
  split
  · exact h
  · split
    · split
      · exact h.enterEgress _
      · exact h.enterEgress _
      · exact h.post _
    · split
      · exact h.leaveEgress c
      · exact h.post _

theorem Posts.setLatch (h : Posts s u) (v : Bool) : Posts s (setLatch v u) := by
  unfold Machine.setLatch
  exact (h.same (by rfl)).demandEvent _ _

theorem Posts.lineAccepted (h : Posts s u) : Posts s (lineAccepted u) := by
  unfold Machine.lineAccepted
  dsimp only
  split
  · exact (h.same (by rfl)).demandEvent _ _
  · exact h

/-! ### The owners of the requests -/

theorem Posts.ownSetup (h : Posts s u) (r : SetupRequest) : Posts s (ownSetup r u).1 := by
  have hpontoon (p : Bool) {v : State} (hv : Posts s v) :
      Posts s (if p then Machine.setPontoon .outOfService none .setup v else v) := by
    split
    · exact hv.setPontoon _ _ _
    · exact hv
  have hwindow (p : Prop) [Decidable p] {v : State} (hv : Posts s v) : Posts s (if p then v else Machine.windowExpiry v) := by
    split
    · exact hv
    · exact hv.windowExpiry
  have hegress (p : Bool) {v : State} (hv : Posts s v) : Posts s (if p then Machine.enterEgress none v else v) := by
    split
    · exact hv.enterEgress none
    · exact hv
  unfold Machine.ownSetup
  split
  · exact h
  · split
    · exact h
    · exact hegress _ (hwindow _ (hpontoon _ (h.same (by simp))))

theorem Posts.ownServiceStart (h : Posts s u) (o : Option ServiceTime) : Posts s (ownServiceStart o u).1 := by
  have hstarted : Posts s (allLanes.foldl Machine.laneAtStart (Machine.setPontoon .inService none .start (Machine.applyFreeRun o u))) :=
    foldl_lanes (f := Machine.laneAtStart) Posts.laneAtStart ((h.applyFreeRun o).setPontoon _ _ _)
  unfold Machine.ownServiceStart
  split
  · exact h
  · split
    · exact h
    · split
      · exact h
      · split
        · exact h
        · dsimp only
          exact hstarted

theorem Posts.ownServiceStop (h : Posts s u) : Posts s (ownServiceStop u).1 := by
  unfold Machine.ownServiceStop
  split
  · exact h
  · split
    · exact h
    · exact (h.setPontoon _ _ _).same (foldl_laneAtStop_link ..)

theorem Posts.ownTimeMark (h : Posts s u) (t : ServiceTime) : Posts s (ownTimeMark t u).1 := by
  unfold Machine.ownTimeMark
  split
  · exact h
  · exact (((h.postOpt _).same (by rfl)).setTimeState _ _).giveTrigger

theorem Posts.ownTariffCommit (h : Posts s u) (g : Nat) (e : Option ServiceTime) : Posts s (ownTariffCommit g e u).1 := by
  have harmed (set : TariffSet) : Posts s (armSwitch set e u) := by
    unfold armSwitch
    split
    · exact h
    · exact (h.same (by rfl)).effectiveTrigger
  unfold Machine.ownTariffCommit commitReply
  split
  · exact h
  · split
    · exact h
    · split
      · exact h
      · split
        · exact h.completeSwitch _
        · split
          · exact h
          · split
            · exact h
            · exact harmed _

theorem Posts.ownTariffCancel (h : Posts s u) : Posts s (ownTariffCancel u).1 := by
  unfold Machine.ownTariffCancel
  split
  · exact h.cancelSwitch _
  · exact h

theorem Posts.ownBerthOpen (h : Posts s u) (r : OpenRequest) : Posts s (ownBerthOpen r u).1 := by
  refine atBerth_keeps h fun b => ?_
  dsimp only
  split
  · exact h
  · split
    · exact h
    · split
      · exact h
      · split
        · exact h
        · exact ((((h.same (changeBerth_link ..)).post _).post _).closeWhenFull b).closeAtDeparture b

theorem Posts.ownBerthClose (h : Posts s u) (n : Nat) : Posts s (ownBerthClose n u).1 := by
  refine atBerth_keeps h fun b => ?_
  split
  · exact h
  · split
    · exact h.closeBerth b _
    · exact h
    · exact h

theorem Posts.ownBerthAmend (h : Posts s u) (r : AmendRequest) : Posts s (ownBerthAmend r u).1 := by
  refine atBerth_keeps h fun b => ?_
  dsimp only
  split
  · exact h
  · split
    · exact h
    · exact (((h.same (changeTrip_link ..)).recomputeFill b).closeWhenFull b).closeAtDeparture b

theorem Posts.ownLaneAssign (h : Posts s u) (n : Nat) (o : Option Nat) : Posts s (ownLaneAssign n o u).1 := by
  refine atLane_keeps h fun i _ => ?_
  split
  · exact h
  · split
    · exact h
    · unfold assignLane
      dsimp only
      split
      · exact h
      · exact ((h.same (changeLane_link ..)).settleOpt _).settleOpt _

theorem Posts.ownLaneReturn (h : Posts s u) (n : Nat) : Posts s (ownLaneReturn n u).1 := by
  refine atLane_keeps h fun i _ => ?_
  split
  · exact h
  · exact h.startClosing i _

theorem Posts.applyGrant (h : Posts s u) (i : LaneIx) (b : BerthIx) (ref card : Nat) (kind : AdmissionKind) (charge : Nat)
    (n : Option Notice) : Posts s (applyGrant i b ref card kind charge n u) := by
  unfold Machine.applyGrant
  have hheld : Posts s (changeTrip b (Trip.takeHold kind charge u.activeGeneration) (takeHold i ⟨card, ref, charge, kind⟩ u)) :=
    h.same (by simp)
  exact ((hheld.recomputeFill b).same (by rfl)).postOpt n

theorem Posts.ownPresent (h : Posts s u) (lane : Nat) (c : Credential) : Posts s (ownPresent lane c u).1 := by
  unfold Machine.ownPresent
  split
  · exact h.same (applyRefusal_link ..)
  · exact h.applyGrant _ _ _ _ _ _ _
  · exact h.applyGrant _ _ _ _ _ _ _

theorem Posts.ownJournalRelease (h : Posts s u) (ref : Nat) : Posts s (ownJournalRelease ref u).1 := by
  unfold Machine.ownJournalRelease
  split
  · exact h
  · split
    · exact h
    · split
      · exact h
      · exact (h.same (by rfl)).serveWaiting

theorem Posts.ownEgressBegin (h : Posts s u) : Posts s (ownEgressBegin u).1 := by
  unfold Machine.ownEgressBegin egressReply
  split
  · exact h
  · exact h.setLatch true

theorem Posts.ownEgressEnd (h : Posts s u) : Posts s (ownEgressEnd u).1 := by
  unfold Machine.ownEgressEnd egressReply
  split
  · exact h.setLatch false
  · exact h

/-- RESTART empties the queue and the statistics, then can post TARIFF_CANCELLED (R191). -/
theorem ownRestart_posts (s : State) :
    Posts s (ownRestart s).1 ∨
      Posts (s.changeLink fun k => { k with queue := [], lost := 0, stats := LinkStats.zero }) (ownRestart s).1 := by
  unfold ownRestart
  split
  · exact .inl (.refl s)
  · dsimp only
    exact .inr (((Posts.refl _).same (by simp [State.changeLink])).cancelSwitch _)

/-- The owner of any request but RESTART only posts. -/
theorem owner_posts {q : Request} (hq : q ≠ .restart) (s : State) : Posts s (owner q s).1 := by
  have h := Posts.refl s
  cases q with
  | setup r => exact h.ownSetup r
  | serviceStart t => exact h.ownServiceStart t
  | serviceStop => exact h.ownServiceStop
  | egressBegin => exact h.ownEgressBegin
  | egressEnd => exact h.ownEgressEnd
  | restart => exact absurd rfl hq
  | timeMark t => exact h.ownTimeMark t
  | tariffCommit g e => exact h.ownTariffCommit g e
  | tariffCancel => exact h.ownTariffCancel
  | berthOpen r => exact h.ownBerthOpen r
  | berthClose n => exact h.ownBerthClose n
  | berthAmend r => exact h.ownBerthAmend r
  | laneAssign n o => exact h.ownLaneAssign n o
  | laneReturn n => exact h.ownLaneReturn n
  | present n c => exact h.ownPresent n c
  | journalRelease ref => exact h.ownJournalRelease ref
  | _ => exact h.same (by simp [owner])

/-- An act in the field other than a power-on reset only posts. -/
theorem fieldAct_posts {c : Instr} (hc : ∀ pins, c ≠ .powerOnReset pins) (s : State) : Posts s (fieldAct c s) := by
  have h := Posts.refl s
  cases c with
  | powerOnReset pins => exact absurd rfl (hc pins)
  | beamRawChange i a b => exact h.beamRaw i a b
  | beamAcceptedChange i => exact h.beamAccepted i
  | barrierSenseChange i o => exact h.senseChange i o
  | barrierTimerExpiry i => exact h.barrierExpiry i
  | passageTimerExpiry i => exact h.passageExpiry i
  | clearTimerExpiry i => exact h.clearExpiry i
  | serviceTimeAdvance => exact h.serviceAdvance
  | markWindowExpiry => exact h.windowExpiry
  | emergencyLineAcceptedChange => exact h.lineAccepted
  | _ => exact h.same (by simp [fieldAct])

end

end Sys2Proof.Machine
end

section
/-! SUPPORT. The Link Controller's part of an event (R196, R197, R203, R207, R208), said once for every command: one act before the arbiter
of the transmit line has its turn. -/

namespace Sys2Proof.Machine

open Sys2Proof

section
variable {s t u : State}

/-! ### The end of an event (R207) -/

/-- The arbiter has no turn while a frame is on the line. -/
theorem endOfEvent_busy (h : s.link.transmitter ≠ none) : endOfEvent s = s := if_neg h

/-- Nothing waits for an idle line, so the arbiter has nothing to hand out. -/
theorem endOfEvent_lineLaw (h : LineLaw s) : endOfEvent s = s := by
  obtain ⟨-, hidle⟩ := h
  unfold endOfEvent
  split
  · next hline =>
    obtain ⟨hslot, hqueue⟩ := hidle hline
    simp [arbitrate, hslot, hqueue]
  · rfl

theorem endOfEvent_notice {q : QueuedNotice} {rest : List QueuedNotice} (hline : s.link.transmitter = none)
    (hslot : s.link.answerSlot = none) (hqueue : s.link.queue = q :: rest) : endOfEvent s = startNotice q rest s := by
  simp [endOfEvent, arbitrate, hline, hslot, hqueue]

theorem endOfEvent_answer {a : Answer} (hline : s.link.transmitter = none) (hslot : s.link.answerSlot = some a) :
    endOfEvent s = startAnswer a s := by
  simp [endOfEvent, arbitrate, hline, hslot]

theorem endOfEvent_empty (hslot : s.link.answerSlot = none) (hqueue : s.link.queue = []) : endOfEvent s = s := by
  simp [endOfEvent, arbitrate, hslot, hqueue]

/-! ### The acts of the Link Controller -/

/-- A host request's command is its frame reaching R197. -/
theorem exec_request {c : Instr} {f : RequestFrame} (h : requestFrameOf c = some f) (s : State) :
    exec c s = .next (endOfEvent (completeRequest f s)) := by
  cases c
  all_goals cases h
  all_goals rfl

theorem Posts.still (h : Posts s u) : u.link.still = s.link.still := by
  obtain ⟨ns, hns⟩ := h
  rw [hns]
  exact foldl_keep (fun v => v.link.still) (fun v n => Machine.post n v) (fun v n => post_still n v) ns s

/-- What a command other than a power-on reset does before the end of its event, as the link sees it. -/
inductive LinkEvent (s : State) : State → Prop
  | character (c : Character) : LinkEvent s (receive c s)
  | gap : LinkEvent s (frameGap s)
  | sent : LinkEvent s (transmitEnd s)
  | request (f : RequestFrame) : LinkEvent s (completeRequest f s)
  | field {u : State} : Posts s u → LinkEvent s u

theorem exec_linkEvent {c : Instr} (hc : ∀ pins, c ≠ .powerOnReset pins) (h : exec c s = .next t) :
    ∃ u, LinkEvent s u ∧ t = endOfEvent u := by
  have hfield := LinkEvent.field (fieldAct_posts hc s)
  cases c
  all_goals obtain rfl := Host.Outcome.next.inj h
  case powerOnReset pins => exact absurd rfl (hc pins)
  case receivedCharacter c => exact ⟨_, .character c, rfl⟩
  case frameGapTimeout => exact ⟨_, .gap, rfl⟩
  case transmitFrameEnd => exact ⟨_, .sent, rfl⟩
  case beamRawChange | beamAcceptedChange | barrierSenseChange | barrierTimerExpiry | passageTimerExpiry | clearTimerExpiry |
      lampPulseEnd | serviceTimeAdvance | markWindowExpiry | emergencyLineRawChange | emergencyLineAcceptedChange =>
    exact ⟨_, hfield, rfl⟩
  all_goals exact ⟨_, .request _, rfl⟩

/-- A claim about the link alone that a power-on reset gives and every other event keeps. -/
structure LinkRules (P : State → Prop) : Prop where
  same : ∀ {s u : State}, P s → u.link = s.link → P u
  reset : ∀ pins, P (State.powerOn pins)
  event : ∀ {s u : State}, P s → LinkEvent s u → P (endOfEvent u)

theorem LinkRules.step {P : State → Prop} (hP : LinkRules P) (h : P s) (hs : step s = .next t) : P t := by
  unfold Machine.step at hs
  split at hs
  · obtain rfl := Host.Outcome.next.inj hs
    exact hP.same h (by simp [tick])
  · next c rest _ =>
    by_cases hc : ∃ pins, c = .powerOnReset pins
    · obtain ⟨pins, rfl⟩ := hc
      obtain rfl := Host.Outcome.next.inj hs
      exact hP.same (hP.reset pins) rfl
    · obtain ⟨u, hu, rfl⟩ := exec_linkEvent (not_exists.mp hc) hs
      exact hP.event (hP.same (u := { s with pending := rest }) h rfl) hu

/-! ### What keeps the framer and what a taken request leaves (R196, R197) -/

theorem takeRequest_framer (q : RequestFrame) (s : State) : (takeRequest q s).link.framer = s.link.framer := by
  obtain ⟨-, -, hframer, -⟩ := Link.still_eq (judgeRequest_still q.request (countTaken s))
  exact hframer

theorem takeRequest_transmitter (q : RequestFrame) (s : State) : (takeRequest q s).link.transmitter = s.link.transmitter := by
  obtain ⟨-, -, -, -, -, hline⟩ := Link.still_eq (judgeRequest_still q.request (countTaken s))
  exact hline

/-- A request taken leaves its answer in the slot (R197). -/
theorem takeRequest_answerSlot (q : RequestFrame) (s : State) : (takeRequest q s).link.answerSlot ≠ none := nofun

theorem completeRequest_framer (q : RequestFrame) (s : State) : (completeRequest q s).link.framer = s.link.framer := by
  unfold completeRequest
  split
  · rfl
  · split
    · rfl
    · exact takeRequest_framer q s

theorem endOfEvent_framer (s : State) : (endOfEvent s).link.framer = s.link.framer := by
  unfold endOfEvent arbitrate startAnswer
  dsimp only
  split
  · split
    · split
      · rfl
      · exact takeRequest_framer ..
    · split
      · rfl
      · rfl
  · rfl

end

end Sys2Proof.Machine
end

section
/-! SUPPORT. The three laws of the link at every step: the bounds of the Notice Queue and the statistics (R203, R208), the order of the line
(R197, R207), and the state of the framer (R196). -/

namespace Sys2Proof.Machine

open Sys2Proof

section
variable {s t u : State}

/-! ### The Notice Queue and the statistics (R203, R208) -/

/-- Every statistic is within 0..65535 (R208). -/
def LinkStats.inRange (k : LinkStats) : Prop :=
  k.framesTaken ≤ 65535 ∧ k.framingErrors ≤ 65535 ∧ k.crcErrors ≤ 65535 ∧ k.overruns ≤ 65535 ∧ k.huntDiscards ≤ 65535 ∧
    k.answersSent ≤ 65535 ∧ k.noticesSent ≤ 65535 ∧ k.noticesDiscarded ≤ 65535

theorem queueLaw_iff : QueueLaw s ↔
    s.link.queue.length ≤ 64 ∧ s.link.lost ≤ 255 ∧ (∀ q ∈ s.link.queue, q.lost ≤ 255) ∧ s.link.stats.inRange := Iff.rfl

theorem QueueLaw.same (h : QueueLaw s) (hl : u.link = s.link) : QueueLaw u := by
  rw [queueLaw_iff] at h ⊢
  rwa [hl]

/-- Counting keeps the law when no statistic leaves its range, as a saturating rise does not. -/
theorem QueueLaw.count (h : QueueLaw s) {f : LinkStats → LinkStats}
    (hf : ∀ {k : LinkStats}, k.inRange → (f k).inRange := by intro k hk; simp_all [LinkStats.inRange, bump_le]) :
    QueueLaw (s.count f) := by
  obtain ⟨hqueue, hlost, hheld, hstats⟩ := queueLaw_iff.mp h
  exact ⟨hqueue, hlost, hheld, hf hstats⟩

theorem QueueLaw.post (h : QueueLaw s) (n : Notice) : QueueLaw (post n s) := by
  obtain ⟨hqueue, hlost, hheld, hstats⟩ := queueLaw_iff.mp h
  obtain ⟨hqueue', hlost'⟩ := postLink_bounds n s.link hqueue
  rw [queueLaw_iff, post_eq]
  refine ⟨hqueue', hlost', ?_⟩
  unfold postLink
  split
  · refine ⟨fun q hq => ?_, hstats⟩
    rcases List.mem_append.mp hq with hq | hq
    · exact hheld q hq
    · rw [List.mem_singleton.mp hq]
      exact hlost
  · simp_all [LinkStats.inRange, bump_le]

theorem QueueLaw.posts (h : QueueLaw s) (hp : Posts s u) : QueueLaw u := by
  obtain ⟨ns, hns⟩ := hp
  exact QueueLaw.same (List.foldlRecOn ns _ h fun _ hv n _ => hv.post n) hns

theorem QueueLaw.owner (h : QueueLaw s) (q : Request) : QueueLaw (owner q s).1 := by
  by_cases hq : q = .restart
  · subst hq
    rcases ownRestart_posts s with hp | hp
    · exact h.posts hp
    · exact QueueLaw.posts (by simp [QueueLaw, State.changeLink, LinkStats.zero]) hp
  · exact h.posts (owner_posts hq s)

theorem QueueLaw.takeRequest (h : QueueLaw s) (q : RequestFrame) : QueueLaw (takeRequest q s) := by
  have htaken : QueueLaw (countTaken s) := h.count
  have hjudged : QueueLaw (judgeRequest q.request (countTaken s)).1 := by
    unfold judgeRequest
    split
    · exact htaken
    · exact htaken.owner _
  exact hjudged

theorem QueueLaw.completeRequest (h : QueueLaw s) (q : RequestFrame) : QueueLaw (completeRequest q s) := by
  unfold Machine.completeRequest
  split
  · exact h.count
  · split
    · exact h
    · exact h.takeRequest q

theorem QueueLaw.endOfEvent (h : QueueLaw s) : QueueLaw (endOfEvent s) := by
  unfold Machine.endOfEvent arbitrate startAnswer
  dsimp only
  split
  · split
    · split
      · exact h
      · exact QueueLaw.takeRequest (by exact h) _
    · split
      · exact h
      · next n rest hqueue =>
        obtain ⟨hlength, hlost, hheld, hstats⟩ := queueLaw_iff.mp h
        rw [hqueue] at hlength hheld
        exact ⟨Nat.le_of_succ_le hlength, hlost, fun q hq => hheld q (List.mem_cons_of_mem n hq), hstats⟩
  · exact h

theorem QueueLaw.discardFrame (h : QueueLaw s) : QueueLaw (discardFrame s) :=
  (show QueueLaw (s.setFramer Framer.idle) from h).count

theorem QueueLaw.frameGap (h : QueueLaw s) : QueueLaw (frameGap s) := by
  unfold Machine.frameGap
  split
  · exact h.discardFrame
  · exact h

theorem QueueLaw.transmitEnd (h : QueueLaw s) : QueueLaw (transmitEnd s) := by
  unfold Machine.transmitEnd
  split
  · exact h
  · next tr _ =>
    obtain ⟨hqueue, hlost, hheld, hstats⟩ := queueLaw_iff.mp h
    refine queueLaw_iff.mpr ⟨hqueue, hlost, hheld, ?_⟩
    cases htr : tr.frame <;> simp_all [State.changeLink, LinkStats.sent, LinkStats.inRange, bump_le]

theorem QueueLaw.frameByte (h : QueueLaw s) (b : Byte) : QueueLaw (frameByte b s) := by
  have hidle : QueueLaw (s.setFramer Framer.idle) := h
  unfold Machine.frameByte frameWhole
  dsimp only
  split
  · exact h.discardFrame
  · split
    · split
      · exact hidle.completeRequest _
      · exact hidle.count
    · exact h

theorem QueueLaw.receive (h : QueueLaw s) (c : Character) : QueueLaw (receive c s) := by
  have hgap := h.frameGap
  unfold Machine.receive huntCharacter
  dsimp only
  split
  · split
    · exact hgap
    · exact hgap.count
  · split
    · exact hgap.discardFrame
    · exact hgap.frameByte _

theorem QueueLaw.event (h : QueueLaw s) (hu : LinkEvent s u) : QueueLaw (Machine.endOfEvent u) := by
  refine QueueLaw.endOfEvent ?_
  cases hu with
  | character c => exact h.receive c
  | gap => exact h.frameGap
  | sent => exact h.transmitEnd
  | request f => exact h.completeRequest f
  | field hp => exact h.posts hp

/-! ### The order of the line (R197, R207) -/

/-- A pending request waits behind an answer (R197). -/
def State.pendingBehind (s : State) : Prop := s.link.pendingRequest ≠ none → s.link.answerSlot ≠ none

theorem State.pendingBehind.still (h : s.pendingBehind) (hl : u.link.still = s.link.still) : u.pendingBehind := by
  obtain ⟨-, -, -, hpending, hslot, -⟩ := Link.still_eq hl
  unfold State.pendingBehind
  rwa [hpending, hslot]

theorem State.pendingBehind.completeRequest (h : s.pendingBehind) (q : RequestFrame) : (completeRequest q s).pendingBehind := by
  unfold Machine.completeRequest
  split
  · exact h
  · split
    · next hslot => exact fun _ hn => by simp_all [State.changeLink]
    · exact fun _ => takeRequest_answerSlot q s

theorem State.pendingBehind.frameGap (h : s.pendingBehind) : (frameGap s).pendingBehind := by
  unfold Machine.frameGap
  split <;> exact h

theorem State.pendingBehind.frameByte (h : s.pendingBehind) (b : Byte) : (frameByte b s).pendingBehind := by
  have hidle : (s.setFramer Framer.idle).pendingBehind := h
  unfold Machine.frameByte frameWhole
  dsimp only
  split
  · exact h
  · split
    · split
      · exact hidle.completeRequest _
      · exact h
    · exact h

theorem State.pendingBehind.event (h : s.pendingBehind) (hu : LinkEvent s u) : u.pendingBehind := by
  cases hu with
  | character c =>
    have hgap := h.frameGap
    unfold receive huntCharacter
    dsimp only
    split
    · split <;> exact hgap
    · split
      · exact hgap
      · exact hgap.frameByte _
  | gap => exact h.frameGap
  | sent =>
    unfold transmitEnd
    split <;> exact h
  | request f => exact h.completeRequest f
  | field hp => exact h.still hp.still

/-- A request taken on a busy line leaves an answer in the slot. -/
theorem lineLaw_takeRequest {q : RequestFrame} (h : s.link.transmitter ≠ none) : LineLaw (takeRequest q s) :=
  ⟨fun _ => takeRequest_answerSlot q s, fun hn => absurd ((takeRequest_transmitter q s).symm.trans hn) h⟩

/-- The arbiter leaves nothing waiting for an idle line. -/
theorem State.pendingBehind.lineLaw (h : s.pendingBehind) : LineLaw (endOfEvent s) := by
  unfold endOfEvent arbitrate startAnswer
  dsimp only
  split
  · next hidle =>
    split
    · split
      · next hnone => exact ⟨fun hn => absurd hnone hn, nofun⟩
      · exact lineLaw_takeRequest nofun
    · next hslot =>
      split
      · next hqueue => exact ⟨h, fun _ => ⟨hslot, hqueue⟩⟩
      · exact ⟨h, nofun⟩
  · next hbusy => exact ⟨h, fun hn => absurd hn hbusy⟩

/-! ### The framer (R196) -/

theorem FramerLaw.framer (h : FramerLaw s) (hf : u.link.framer = s.link.framer) : FramerLaw u := by
  unfold FramerLaw
  rwa [hf]

theorem framerLaw_idle (h : s.link.framer = Framer.idle) : FramerLaw s := by
  unfold FramerLaw
  rw [h]
  exact ⟨fun _ => rfl, fun hn => absurd rfl hn⟩

/-- A frame in assembly is never in HUNT. -/
theorem framerAfter_ne_hunt (bs : List Byte) : framerAfter bs ≠ .hunt := by
  unfold framerAfter
  split
  · nofun
  · split
    · nofun
    · split <;> nofun

/-- A framer whose state is the one its stored bytes call for, with a frame in assembly within its length. -/
theorem framerLaw_storing {bs : List Byte} {last : Nat} (hf : s.link.framer = ⟨framerAfter bs, bs, last⟩)
    (hlength : 2 ≤ bs.length → frameLength bs ≤ 480) (hshort : 4 ≤ bs.length → bs.length < 6 + frameLength bs) : FramerLaw s := by
  unfold FramerLaw
  rw [hf]
  exact ⟨fun hn => absurd hn (framerAfter_ne_hunt bs), fun _ => ⟨rfl, hlength, hshort⟩⟩

/-- The length of a frame is in its first two bytes (R194). -/
theorem frameLength_append {bs : List Byte} (h : 2 ≤ bs.length) (more : List Byte) : frameLength (bs ++ more) = frameLength bs := by
  unfold frameLength numAt
  rw [List.drop_zero, List.drop_zero, List.take_append_of_le_length h]

theorem FramerLaw.frameGap (h : FramerLaw s) : FramerLaw (frameGap s) := by
  unfold Machine.frameGap
  split
  · exact framerLaw_idle rfl
  · exact h

theorem FramerLaw.frameByte (h : FramerLaw s) (hin : s.link.framer.state ≠ .hunt) (b : Byte) : FramerLaw (frameByte b s) := by
  obtain ⟨-, hlength, hshort⟩ := h.2 hin
  unfold Machine.frameByte frameWhole
  dsimp only
  generalize s.link.framer.stored = bs at *
  split
  · exact framerLaw_idle rfl
  · next hlong =>
    split
    · split
      · exact framerLaw_idle (completeRequest_framer ..)
      · exact framerLaw_idle rfl
    · next hpart =>
      have hkept (h2 : 2 ≤ bs.length) := frameLength_append h2 [b]
      refine framerLaw_storing rfl (fun h2 => ?_) (fun h4 => ?_)
      all_goals
        rw [List.length_append, List.length_singleton, Config.bodyLimit] at *
      · rcases Nat.lt_or_ge bs.length 2 with hlt | hge
        · omega
        · exact (hkept hge).trans_le (hlength hge)
      · have hsame := hkept (by omega)
        rcases Nat.lt_or_ge bs.length 4 with hlt | hge
        · omega
        · have hroom := hshort hge
          omega

theorem FramerLaw.receive (h : FramerLaw s) (c : Character) : FramerLaw (receive c s) := by
  have hgap := h.frameGap
  unfold Machine.receive huntCharacter
  dsimp only
  split
  · split
    · exact ⟨nofun, fun _ => ⟨rfl, nofun, nofun⟩⟩
    · exact hgap
  · next hin =>
    split
    · exact framerLaw_idle rfl
    · exact hgap.frameByte hin _

theorem FramerLaw.event (h : FramerLaw s) (hu : LinkEvent s u) : FramerLaw (endOfEvent u) := by
  refine FramerLaw.framer ?_ (endOfEvent_framer u)
  cases hu with
  | character c => exact h.receive c
  | gap => exact h.frameGap
  | sent =>
    unfold transmitEnd
    split <;> exact h
  | request f => exact h.framer (completeRequest_framer f s)
  | field hp =>
    obtain ⟨-, -, hframer, -⟩ := Link.still_eq hp.still
    exact h.framer hframer

end

theorem linkRules_queueLaw : LinkRules QueueLaw := ⟨QueueLaw.same, fun pins => (linkLaws_powerOn pins).1, QueueLaw.event⟩

theorem linkRules_lineLaw : LinkRules LineLaw where
  same h hl := by
    unfold LineLaw
    rwa [hl]
  reset pins := (linkLaws_powerOn pins).2.1
  event h hu := (State.pendingBehind.event h.1 hu).lineLaw

theorem linkRules_framerLaw : LinkRules FramerLaw :=
  ⟨fun h hl => h.framer (by rw [hl]), fun pins => (linkLaws_powerOn pins).2.2, FramerLaw.event⟩

/-- Settles O11: before the arbiter has its turn an event is one act of the Link Controller or posts of the other blocks
(`exec_linkEvent`); each of these keeps the bounds of the queue and the framer's law, and the arbiter gives the law of the line
(`State.pendingBehind.lineLaw`). -/
theorem linkStaysSound : Obligations.LinkStaysSound :=
  ⟨fun _ _ => linkRules_queueLaw.step, fun _ _ => linkRules_lineLaw.step, fun _ _ => linkRules_framerLaw.step⟩

end Sys2Proof.Machine
end

section
/-! SUPPORT. Posted notices, requests that wait, the end of a frame on the line, and what the framer discards (R196, R197, R203, R207,
R208). -/

namespace Sys2Proof.Machine

open Sys2Proof

section
variable {s t u : State}

/-! ### The end of a frame (R207, R208) -/

/-- The line is free, with these statistics. -/
def State.lineFreed (counted : LinkStats) (s : State) : State := s.changeLink fun k => { k with transmitter := none, stats := counted }

theorem transmitEnd_eq {tr : Transmission} (h : s.link.transmitter = some tr) :
    transmitEnd s = s.lineFreed (s.link.stats.sent tr.frame) := by
  simp [transmitEnd, h, State.lineFreed, State.changeLink]

theorem startAnswer_alone (a : Answer) (h : s.link.pendingRequest = none) :
    startAnswer a s = s.changeLink fun k => { k with transmitter := some ⟨.answer a, s.runTime⟩, answerSlot := none } := by
  simp [startAnswer, State.changeLink, h]

theorem startAnswer_pending (a : Answer) {q : RequestFrame} (h : s.link.pendingRequest = some q) :
    startAnswer a s = takeRequest q (s.changeLink fun k =>
      { k with transmitter := some ⟨.answer a, s.runTime⟩, answerSlot := none, pendingRequest := none }) := by
  simp [startAnswer, State.changeLink, h]

/-! ### Gaps (R196; logs 4 and 5) -/

theorem frameGap_over (hin : s.link.framer.state ≠ .hunt) (hgap : s.link.framer.lastCharacter + 10 < s.runTime) :
    frameGap s = discardFrame s := by
  simp [frameGap, State.gapOver, Config.gapLimit, hin, hgap]

theorem frameGap_within (h : s.runTime ≤ s.link.framer.lastCharacter + 10) : frameGap s = s := by
  simp [frameGap, State.gapOver, Config.gapLimit, Nat.not_lt.mpr h]

theorem frameGap_hunt (h : s.link.framer.state = .hunt) : frameGap s = s := by
  simp [frameGap, State.gapOver, h]

/-- A gap and HUNT before a character: it is taken in HUNT. -/
theorem receive_hunt (c : Character) (h : (frameGap s).link.framer.state = .hunt) : receive c s = huntCharacter c (frameGap s) := by
  simp [receive, h]

theorem huntCharacter_start (s : State) : huntCharacter (.data 0xA5#8) s = s.setFramer ⟨.length, [], s.runTime⟩ := if_pos rfl

theorem huntCharacter_other {c : Character} (h : c ≠ .data 0xA5#8) (s : State) :
    huntCharacter c s = s.count fun k => { k with huntDiscards := bump k.huntDiscards } := if_neg h

theorem receive_error (hin : s.link.framer.state ≠ .hunt) (hgap : s.runTime ≤ s.link.framer.lastCharacter + 10) :
    receive .error s = discardFrame s := by
  simp [receive, frameGap_within hgap, hin]

theorem receive_data (hin : s.link.framer.state ≠ .hunt) (hgap : s.runTime ≤ s.link.framer.lastCharacter + 10) (b : Byte) :
    receive (.data b) s = frameByte b s := by
  simp [receive, frameGap_within hgap, hin]

/-- The second length byte: a length above 480 discards the frame (R196). -/
theorem frameByte_length {hi : Byte} (h : s.link.framer.stored = [hi]) (lo : Byte) :
    frameByte lo s = if 480 < 256 * hi.toNat + lo.toNat then discardFrame s else s.setFramer ⟨.header, [hi, lo], s.runTime⟩ := by
  have hlength : frameLength [hi, lo] = 256 * hi.toNat + lo.toNat := by simp [frameLength, numAt, ofBe]
  simp [frameByte, h, hlength, Config.bodyLimit, framerAfter]

end

/-- Settles O10. -/
theorem postedNoticesEnterOrAreLost : Obligations.PostedNoticesEnterOrAreLost := by
  intro n s
  refine ⟨fun hroom => ?_, fun hfull => ?_, endOfEvent_busy, fun _ => endOfEvent_empty, fun q rest => endOfEvent_notice⟩
  · rw [post_eq, postLink, if_pos (show _ < Config.queueLimit from hroom)]
  · rw [post_eq, postLink, if_neg (show ¬_ < Config.queueLimit from Nat.not_lt.mpr hfull)]
    rfl

/-- Settles O5: by the law of the line a full slot means a busy line, so the event ends with the request discarded or waiting. -/
theorem requestsWaitOrAreOverrun : Obligations.RequestsWaitOrAreOverrun := by
  intro c f s hc hlaw
  have hbusy (hslot : s.link.answerSlot ≠ none) : s.link.transmitter ≠ none := fun hline => hslot (hlaw.2 hline).1
  refine ⟨fun p hp => ?_, fun a hp ha => ?_⟩
  · rw [exec_request hc, completeRequest, if_pos (by simp [hp])]
    exact congrArg Host.Outcome.next (endOfEvent_busy (hbusy (hlaw.1 (by simp [hp]))))
  · rw [exec_request hc, completeRequest, if_neg (by simp [hp]), if_pos (by simp [ha])]
    exact congrArg Host.Outcome.next (endOfEvent_busy (hbusy (by simp [ha])))

/-- Settles O9: the frame is counted and the line is free (`transmitEnd_eq`), so the arbiter has its turn. -/
theorem transmitFrameEndHandsOutTheLine : Obligations.TransmitFrameEndHandsOutTheLine := by
  intro s tr counted hline hcounted
  have hsent : s.link.stats.sent tr.frame = counted := by
    rw [hcounted]
    cases tr.frame <;> rfl
  have hexec : exec .transmitFrameEnd s = .next (endOfEvent (s.lineFreed counted)) := by
    rw [← hsent]
    exact congrArg (fun u => Host.Outcome.next (endOfEvent u)) (transmitEnd_eq hline)
  rw [hexec]
  refine ⟨fun a ha hp => ?_, fun a q ha hp => ?_, fun n rest ha hq => ?_, fun ha hq => ?_⟩
  · rw [endOfEvent_answer (s := s.lineFreed counted) rfl ha, startAnswer_alone (s := s.lineFreed counted) a hp]
    rfl
  · rw [endOfEvent_answer (s := s.lineFreed counted) rfl ha, startAnswer_pending (s := s.lineFreed counted) a hp]
    exact ⟨_, rfl, takeRequest_transmitter .., takeRequest_pendingRequest .., _, _, rfl, rfl⟩
  · rw [endOfEvent_notice (s := s.lineFreed counted) rfl ha hq]
    rfl
  · rw [endOfEvent_empty (s := s.lineFreed counted) ha hq]
    rfl

/-- Settles O8: the line is busy, so an event ends with what the framer makes of the character or the gap. -/
theorem framerDiscardsAndCounts : Obligations.FramerDiscardsAndCounts := by
  intro s hline
  have hcharacter {c : Character} {u : State} (h : receive c s = u) (hu : u.link.transmitter = s.link.transmitter) :
      exec (.receivedCharacter c) s = .next u := by
    subst h
    exact congrArg Host.Outcome.next (endOfEvent_busy (hu ▸ hline))
  have hgap {u : State} (h : frameGap s = u) (hu : u.link.transmitter = s.link.transmitter) : exec .frameGapTimeout s = .next u := by
    subst h
    exact congrArg Host.Outcome.next (endOfEvent_busy (hu ▸ hline))
  refine ⟨fun hhunt => ?_, fun hin => ⟨fun hover => ?_, fun hwithin => ?_⟩⟩
  · have hnone := frameGap_hunt hhunt
    refine ⟨hgap hnone rfl, hcharacter ?_ rfl, fun c hc => hcharacter ?_ rfl⟩
    · rw [receive_hunt _ (by rwa [hnone]), hnone, huntCharacter_start]
      rfl
    · rw [receive_hunt _ (by rwa [hnone]), hnone, huntCharacter_other hc]
      rfl
  · have hdiscard := frameGap_over hin hover
    refine ⟨hgap hdiscard rfl, hcharacter ?_ rfl, fun c hc => hcharacter ?_ rfl⟩
    · rw [receive_hunt _ (by rw [hdiscard]; rfl), hdiscard, huntCharacter_start]
      rfl
    · rw [receive_hunt _ (by rw [hdiscard]; rfl), hdiscard, huntCharacter_other hc]
      rfl
  · refine ⟨hgap (frameGap_within hwithin) rfl, hcharacter (receive_error hin hwithin) rfl, fun hi lo hstored => ?_⟩
    refine hcharacter ((receive_data hin hwithin lo).trans ?_) ?_
    · rw [frameByte_length hstored]
      split <;> rfl
    · dsimp only
      split <;> rfl

end Sys2Proof.Machine
end

section
/-! SUPPORT. Numbers and flags as bytes, written and read back (R199). -/

namespace Sys2Proof.Machine

open Sys2Proof

section
variable {xs ys bs : List Byte} {o k n : Nat}

/-! ### Numbers -/

@[simp] theorem be_length (k n : Nat) : (be k n).length = k := by
  induction k with
  | zero => rfl
  | succ k ih => simp [be, ih]

theorem ofBe_concat (bs : List Byte) (b : Byte) : ofBe (bs ++ [b]) = 256 * ofBe bs + b.toNat := by simp [ofBe]

theorem ofBe_cons (b : Byte) (bs : List Byte) : ofBe (b :: bs) = b.toNat * 256 ^ bs.length + ofBe bs := by
  induction bs using List.reverseRecOn with
  | nil => simp [ofBe]
  | append_singleton bs c ih =>
    rw [← List.cons_append, ofBe_concat, ih, ofBe_concat, List.length_append, List.length_singleton]
    ring

/-- A number written in `k` bytes is read back up to its width. -/
theorem ofBe_be (k n : Nat) : ofBe (be k n) = n % 256 ^ k := by
  induction k with
  | zero => simp [be, ofBe, Nat.mod_one]
  | succ k ih =>
    rw [be, ofBe_cons, ih, be_length, BitVec.toNat_ofNat, Nat.mod_pow_succ (b := 256), Nat.add_comm]
    exact congrArg _ (Nat.mul_comm ..)

theorem ofBe_be_of_lt (h : n < 256 ^ k) : ofBe (be k n) = n := by rw [ofBe_be, Nat.mod_eq_of_lt h]

/-- A number that stands at the front of the bytes left to read. -/
theorem numAt_here (h : n < 256 ^ k) (ys : List Byte) : numAt 0 k (be k n ++ ys) = n := by
  rw [numAt, List.drop_zero, List.take_left' (be_length k n), ofBe_be_of_lt h]

theorem numAt_last (h : n < 256 ^ k) : numAt 0 k (be k n) = n := by simpa using numAt_here h []

/-- Bytes before the offset are passed over. -/
theorem numAt_skip (h : xs.length ≤ o) : numAt o k (xs ++ ys) = numAt (o - xs.length) k ys := by
  rw [numAt, List.drop_append, List.drop_eq_nil_of_le h, List.nil_append, numAt]

/-- A byte of the body as a number, 0 beyond its end. -/
theorem numAt_one_getD (o : Nat) (bs : List Byte) : numAt o 1 bs = (bs.getD o 0#8).toNat := by
  rcases Nat.lt_or_ge o bs.length with h | h
  · rw [numAt_one h, List.getD_eq_getElem _ _ h]
  · rw [numAt, List.drop_eq_nil_of_le h, List.getD_eq_default _ _ h]
    rfl

/-! ### Single bytes and flags -/

theorem byteAt_skip (h : xs.length ≤ o) : byteAt o (xs ++ ys) = byteAt (o - xs.length) ys := by
  rw [byteAt, List.getElem?_append_right h, byteAt]

theorem flagAt_skip (h : xs.length ≤ o) : flagAt o (xs ++ ys) = flagAt (o - xs.length) ys := by
  rw [flagAt, byteAt_skip h, flagAt]

theorem flagAt_here (b : Bool) (ys : List Byte) : flagAt 0 (flagBytes b ++ ys) = b := by cases b <;> rfl

@[simp] theorem flagBytes_length (b : Bool) : (flagBytes b).length = 1 := be_length ..

@[simp] theorem zeros_length (n : Nat) : (zeros n).length = n := List.length_replicate

theorem optBytes_length {α : Type} {f : α → List Byte} (hf : ∀ a, (f a).length = k) (a : Option α) :
    (optBytes k f a).length = k + 1 := by
  cases a <;> simp [optBytes, hf, Nat.add_comm]

theorem alwaysBytes_length {α : Type} {f : α → List Byte} (hf : ∀ a, (f a).length = k) (a : Option α) :
    (alwaysBytes k f a).length = k := by
  cases a <;> simp [alwaysBytes, hf]

/-! ### Records -/

/-- Records of one size, written one after another, are read back as they were written. -/
theorem recordsAt_flatMap {α : Type} {f : α → List Byte} {read : List Byte → α} {size : Nat} {items : List α}
    (hsize : ∀ x ∈ items, (f x).length = size) (hread : ∀ x ∈ items, read (f x) = x) (ho : xs.length = o) :
    recordsAt read size o items.length (xs ++ items.flatMap f) = items := by
  induction items generalizing xs o with
  | nil => rfl
  | cons x items ih =>
    have hx : (f x).length = size := hsize x List.mem_cons_self
    have hrest := ih (xs := xs ++ f x) (o := o + size) (fun y hy => hsize y (List.mem_cons_of_mem x hy))
      (fun y hy => hread y (List.mem_cons_of_mem x hy)) (by simp [ho, hx])
    rw [List.append_assoc] at hrest
    rw [List.length_cons, recordsAt, List.flatMap_cons, hrest, List.drop_left' ho, List.take_left' hx,
      hread x List.mem_cons_self]

end

end Sys2Proof.Machine
end

section
/-! SUPPORT. The bytes of a frame on the receive line, and their check value (R194 to R197). -/

namespace Sys2Proof.Machine

open Sys2Proof

/-! ### The check value (R195) -/

theorem crcSteps_eq_foldl {α : Type} (xs : List α) (r : CheckWord) : xs.foldl (fun r _ => crcShift r) r = crcSteps xs.length r := by
  induction xs generalizing r with
  | nil => rfl
  | cons x xs ih => exact ih _

theorem crcOf_append (bs : List Byte) (b : Byte) : crcOf (bs ++ [b]) = crcByte (crcOf bs) b := List.foldl_concat ..

/-! ### The bytes that a frame stores (R194) -/

/-- The bytes that the check value of a frame covers: length, kind, tag and body. -/
def coveredBytes (kind : Nat) (tag : Byte) (body : List Byte) : List Byte := be 2 body.length ++ be 1 kind ++ [tag] ++ body

section
variable {kind : Nat} {tag : Byte} {body more : List Byte}

@[simp] theorem coveredBytes_length (kind : Nat) (tag : Byte) (body : List Byte) :
    (coveredBytes kind tag body).length = 4 + body.length := by
  simp only [coveredBytes, List.length_append, be_length, List.length_singleton]

theorem frameLength_covered (hbody : body.length ≤ 480) : frameLength (coveredBytes kind tag body ++ more) = body.length := by
  simp only [frameLength, coveredBytes, List.append_assoc]
  exact numAt_here (by omega) _

theorem frameRequest_covered (hkind : kind < 256) (hbody : body.length ≤ 480) :
    frameRequest (coveredBytes kind tag body ++ more) = ⟨tag, requestOf kind body⟩ := by
  have hlength := frameLength_covered (kind := kind) (tag := tag) (more := more) hbody
  have hk : numAt 2 1 (coveredBytes kind tag body ++ more) = kind := by
    simp only [coveredBytes, List.append_assoc]
    rw [numAt_skip (by simp)]
    exact numAt_here (by simpa using hkind) _
  have ht : byteAt 3 (coveredBytes kind tag body ++ more) = tag := by
    simp only [coveredBytes, List.append_assoc]
    rw [byteAt_skip (by simp), byteAt_skip (by simp)]
    simp [byteAt]
  have hb : ((coveredBytes kind tag body ++ more).drop 4).take body.length = body := by
    rw [coveredBytes, List.append_assoc, List.drop_left' (by simp), List.take_left' rfl]
  rw [frameRequest, hlength, hk, ht, hb]

theorem checkAgrees_covered (hbody : body.length ≤ 480) (w : CheckWord) :
    checkAgrees (coveredBytes kind tag body ++ be 2 w.toNat) = decide (w = crcOf (coveredBytes kind tag body)) := by
  have hw : numAt (4 + body.length) 2 (coveredBytes kind tag body ++ be 2 w.toNat) = w.toNat := by
    rw [numAt_skip (by simp), coveredBytes_length, Nat.sub_self, numAt_last w.isLt]
  rw [checkAgrees, frameLength_covered hbody, hw, List.take_left' (coveredBytes_length ..), BitVec.ofNat_toNat, BitVec.setWidth_eq]
  exact decide_eq_decide.mpr eq_comm

end

/-! ### Receiving a frame (R196) -/

section
variable {s : State} {bs whole : List Byte} {n : Nat}

/-- The command that a received byte is. -/
def received (b : Byte) : Instr := .receivedCharacter (.data b)

/-- A frame in assembly with these bytes stored, the last of them just received. -/
def State.assembling (bs : List Byte) (s : State) : State := s.setFramer ⟨framerAfter bs, bs, s.runTime⟩

theorem runCommands_append (cs ds : List Instr) (s : State) :
    runCommands (cs ++ ds) s = (runCommands cs s).bind (runCommands ds) := by
  induction cs generalizing s with
  | nil => rfl
  | cons c cs ih => cases h : execState c s <;> simp [runCommands, h, ih]

/-- The start byte in HUNT begins a frame with nothing stored. -/
theorem runCommands_start (hl : LineLaw s) (hh : s.link.framer.state = .hunt) :
    runCommands [received 0xA5#8] s = some (s.assembling []) := by
  have hstart : receive (.data 0xA5#8) s = s.assembling [] := by
    rw [receive_hunt _ (by rwa [frameGap_hunt hh]), frameGap_hunt hh, huntCharacter_start]
    rfl
  have hlaw : LineLaw (s.assembling []) := hl
  change some (endOfEvent (receive (.data 0xA5#8) s)) = _
  rw [hstart, endOfEvent_lineLaw hlaw]

/-- The next byte of a frame at the same run time joins the bytes stored. -/
theorem execState_received (b : Byte) : execState (received b) (s.assembling bs) = some (endOfEvent (frameByte b (s.assembling bs))) := by
  change some (endOfEvent (receive (.data b) (s.assembling bs))) = _
  rw [receive_data (framerAfter_ne_hunt bs) (Nat.le_add_right s.runTime 10)]

/-- A byte that neither ends the frame nor makes it too long is stored. -/
theorem runCommands_stored (hl : LineLaw s) {b : Byte}
    (hlong : (bs ++ [b]).length = 2 → frameLength (bs ++ [b]) ≤ 480)
    (hpart : 4 ≤ (bs ++ [b]).length → (bs ++ [b]).length ≠ 6 + frameLength (bs ++ [b])) :
    runCommands [received b] (s.assembling bs) = some (s.assembling (bs ++ [b])) := by
  have hstored : frameByte b (s.assembling bs) = s.assembling (bs ++ [b]) := by
    unfold frameByte
    dsimp only
    rw [if_neg fun h => Nat.not_lt.mpr (hlong h.1) h.2, if_neg fun h => hpart h.1 h.2]
    rfl
  have hlaw : LineLaw (s.assembling (bs ++ [b])) := hl
  rw [runCommands, execState_received, hstored, endOfEvent_lineLaw hlaw]
  rfl

/-- The bytes of a whole frame short of the last are stored one after another. -/
theorem runCommands_part (hl : LineLaw s) (hlength : frameLength whole = n) (hn : n ≤ 480) (hwhole : whole.length = 6 + n) {j : Nat}
    (hj : j < 6 + n) : runCommands ((whole.take j).map received) (s.assembling []) = some (s.assembling (whole.take j)) := by
  have hfirst {i : Nat} (hi : 2 ≤ i) (hiw : i ≤ whole.length) : frameLength (whole.take i) = n := by
    rw [← hlength, ← frameLength_append (bs := whole.take i) (by simp; omega) (whole.drop i), List.take_append_drop]
  induction j with
  | zero => rfl
  | succ j ih =>
    have htake : whole.take (j + 1) = whole.take j ++ [whole[j]] := List.take_succ_eq_append_getElem (by omega)
    have hsize : (whole.take (j + 1)).length = j + 1 := by simp; omega
    rw [htake, List.map_append, runCommands_append, ih (by omega)]
    refine runCommands_stored hl (fun h => ?_) (fun h => ?_) <;> rw [← htake] at h ⊢ <;> rw [hsize] at h
    · rw [hfirst (by omega) (by omega)]
      exact hn
    · rw [hsize, hfirst (by omega) (by omega)]
      omega

/-- The bytes of a whole frame end in the framer's HUNT, with the frame judged by its check value. -/
theorem runCommands_whole (hl : LineLaw s) (hlength : frameLength whole = n) (hn : n ≤ 480) (hwhole : whole.length = 6 + n) :
    runCommands (whole.map received) (s.assembling []) = some (endOfEvent (frameWhole whole s)) := by
  obtain ⟨b, hb⟩ : ∃ b, whole.take (5 + n) ++ [b] = whole :=
    ⟨whole[5 + n], by rw [← List.take_succ_eq_append_getElem, List.take_of_length_le (by omega)]⟩
  have hlast : frameByte b (s.assembling (whole.take (5 + n))) = frameWhole whole s := by
    unfold frameByte
    dsimp only [State.assembling, State.setFramer, State.changeLink]
    rw [hb, if_neg (by omega), if_pos (by omega)]
    rfl
  conv_lhs => rw [← hb]
  rw [List.map_append, runCommands_append, runCommands_part hl hlength hn hwhole (by omega)]
  change (execState (received b) (s.assembling (whole.take (5 + n)))).bind (runCommands []) = _
  rw [execState_received, hlast]
  rfl

end

/-- Settles O7: the start byte begins a frame, its bytes are stored one after another (`runCommands_part`), and the last of them has the
frame judged (`runCommands_whole`), whose bytes spell the request (`frameRequest_covered`, `checkAgrees_covered`). -/
theorem frameBytesDeliverTheRequest : Obligations.FrameBytesDeliverTheRequest := by
  refine ⟨⟨rfl, fun bs b => ?_⟩, fun kind tag body w s hkind hbody hidle hl => ?_⟩
  · rw [crcOf_append]
    exact (crcSteps_eq_foldl (List.range 8) _).symm
  · have hframer : s.setFramer Framer.idle = s := by
      rw [← hidle]
      rfl
    have hrun := runCommands_whole (whole := coveredBytes kind tag body ++ be 2 w.toNat) hl (frameLength_covered hbody) hbody
      (by simp; omega)
    rw [frameWhole, hframer, checkAgrees_covered hbody, frameRequest_covered hkind hbody] at hrun
    have hstart := runCommands_append [received 0xA5#8] ((coveredBytes kind tag body ++ be 2 w.toNat).map received) s
    rw [runCommands_start hl (by rw [hidle]; rfl), Option.bind_some, hrun] at hstart
    refine hstart.trans (congrArg some ?_)
    change endOfEvent (if decide (w = crcOf (coveredBytes kind tag body)) = true then _ else _) =
      if w = crcOf (coveredBytes kind tag body) then _ else _
    by_cases hw : w = crcOf (coveredBytes kind tag body)
    · rw [if_pos (decide_eq_true hw), if_pos hw]
    · rw [if_neg (by simpa using hw), if_neg hw]
      exact endOfEvent_lineLaw hl

end Sys2Proof.Machine
end

section
/-! SUPPORT. Which request a frame spells by its kind and length, and the lengths that agree with no kind (R198, R200). -/

namespace Sys2Proof.Machine

open Sys2Proof

section
variable {k n : Nat} {bs : List Byte}

/-! ### The length check (R200) -/

theorem requestOf_unknownKind (h : k ∉ requestKinds) (bs : List Byte) : requestOf k bs = .unknownKind k :=
  if_neg (by simpa using h)

theorem requestOf_agrees (hk : k ∈ requestKinds) (he : expectedLength k bs = some n) (hn : 0 < n) (hl : bs.length = n) :
    requestOf k bs = fieldsOf k bs := by
  have hagrees : lengthAgrees k bs = true := by
    obtain ⟨m, rfl⟩ := Nat.exists_eq_succ_of_ne_zero hn.ne'
    simp [lengthAgrees, he, hl]
  rw [requestOf, if_pos (by simpa using hk), if_pos hagrees]

theorem requestOf_disagrees (hk : k ∈ requestKinds) (he : expectedLength k bs = some n) (hl : lengthAgrees k bs = false) :
    requestOf k bs = .badLength k n := by
  rw [requestOf, if_pos (by simpa using hk), if_neg (by simp [hl]), he]
  rfl

/-- A body of another length than its kind calls for. -/
theorem requestOf_wrongLength (hk : k ∈ requestKinds) (he : expectedLength k bs = some n) (hl : bs.length ≠ n) :
    requestOf k bs = .badLength k n := by
  refine requestOf_disagrees hk he ?_
  cases n with
  | zero => simp [lengthAgrees, he, hl]
  | succ n => simp [lengthAgrees, he, hl]

/-- A body in which no length can be found, of a kind whose length its body gives. -/
theorem requestOf_tooShort (hk : k ∈ [0x01, 0x18, 0x30, 0x38, 0x39]) (he : expectedLength k bs = some 0) :
    requestOf k bs = .badLength k 0 := by
  have hknown : [0x01, 0x18, 0x30, 0x38, 0x39] ⊆ requestKinds := by decide
  refine requestOf_disagrees (hknown hk) he ?_
  simp only [List.mem_cons, List.not_mem_nil, or_false] at hk
  rcases hk with rfl | rfl | rfl | rfl | rfl <;> simp [lengthAgrees, he]

/-! ### Requests given as commands (log 29) -/

theorem exec_badLength {c : Instr} {tag : Byte} {q : Request} {s : State} (hs : s.slotFree) (hc : requestFrameOf c = some ⟨tag, q⟩)
    (hq : lengthFault q = some n) : exec c s = .next (State.answering (requestKind q) tag (.badLength n) (countTaken s)) := by
  rw [exec_request hc]
  refine congrArg Host.Outcome.next ((request_of_slotFree hs).trans ?_)
  rw [judgeRequest, hq]

theorem contentsAgree_iff {c : SegmentContents} (hn : n ≤ 3) : contentsAgree n c = true ↔
    (n = 0 ∧ ∃ g : FareSegment, c = .fares g ∧ g.matrix.length = 32) ∨
      (n = 1 ∧ ∃ g : ConcessionSegment, c = .concessions g ∧ g.table.length = 8) ∨
      ((n = 2 ∨ n = 3) ∧ ∃ es : List SchemeEntry, c = .schemes es ∧ es.length = 16) := by
  interval_cases n <;> cases c <;> simp [contentsAgree]

end

/-- The kinds whose length is fixed, with their lengths (R200). -/
def fixedLengths : List (Nat × Nat) :=
  [(0x02, 7), (0x03, 0), (0x04, 0), (0x05, 0), (0x06, 0), (0x07, 0), (0x10, 6), (0x19, 0), (0x1A, 9), (0x1B, 0), (0x1C, 0),
   (0x20, 23), (0x21, 1), (0x22, 17), (0x23, 1), (0x28, 2), (0x29, 1), (0x2A, 6), (0x3A, 0), (0x3B, 4), (0x3C, 0), (0x3D, 4)]

theorem expectedLength_fixed (bs : List Byte) : ∀ p ∈ fixedLengths, p.1 ∈ requestKinds ∧ expectedLength p.1 bs = some p.2 := by
  simp [fixedLengths, requestKinds, expectedLength]

section
variable {bs : List Byte}

theorem expectedLength_setup : expectedLength 0x01 bs = some (if bs.length < 3 then 0 else 11 + 6 * (bs.getD 2 0#8).toNat) := by
  rw [← numAt_one_getD]
  rfl

theorem expectedLength_present : expectedLength 0x30 bs = some (if bs.length < 25 then 0 else 25 + 8 * (bs.getD 24 0#8).toNat) := by
  rw [← numAt_one_getD]
  rfl

theorem expectedLength_deny {k : Nat} (hk : k = 0x38 ∨ k = 0x39) :
    expectedLength k bs = some (if bs = [] then 0 else 1 + 4 * (bs.getD 0 0#8).toNat) := by
  rw [← numAt_one_getD]
  rcases hk with rfl | rfl <;> simp [expectedLength]

theorem expectedLength_segment (hbs : bs ≠ []) (hn : (bs.getD 0 0#8).toNat ≤ 3) : expectedLength 0x18 bs =
    some (if (bs.getD 0 0#8).toNat = 0 then 73 else if (bs.getD 0 0#8).toNat = 1 then 29 else 65) := by
  rw [← numAt_one_getD] at hn ⊢
  have hlength : bs.length ≠ 0 := by simpa using hbs
  simp only [expectedLength, if_neg hlength]
  generalize numAt 0 1 bs = m at hn
  interval_cases m <;> rfl

end

/-- Settles O6: a request whose count or contents disagree is answered by the Link Controller alone (`exec_badLength`), and a body is
judged by the length its kind calls for (`requestOf_wrongLength`, `requestOf_tooShort`). -/
theorem unknownKindsAndWrongLengthsAreAnswered : Obligations.UnknownKindsAndWrongLengthsAreAnswered := by
  intro tag s hs
  refine ⟨fun k => ⟨?_, rfl, ?_⟩, fun lane c hc => ?_, fun r hr => ?_, fun n xs hx => ⟨?_, ?_⟩, fun n c hn hc => ?_,
    fun k n => ⟨?_, rfl⟩, fun bs at_ hat => ?_⟩
  · exact congrArg Host.Outcome.next (request_of_owner hs rfl)
  · simp [Reply.bytes, resultByte, be, ResultCode.code]
  · exact exec_badLength (c := .present tag lane c) (q := .present lane c) hs rfl (if_neg hc)
  · exact exec_badLength (c := .setup tag r) (q := .setup r) hs rfl (if_neg hr)
  · exact exec_badLength (c := .denyAdd tag n xs) (q := .denyAdd n xs) hs rfl (if_neg hx)
  · exact exec_badLength (c := .denyRemove tag n xs) (q := .denyRemove n xs) hs rfl (if_neg hx)
  · have hfault : lengthFault (.tariffLoad n c) = some (segmentLength n) := if_neg (mt (contentsAgree_iff hn).mp hc)
    rw [exec_badLength hs rfl hfault]
    interval_cases n <;> rfl
  · exact request_of_slotFree hs
  · obtain rfl : at_ = fun k => (bs.getD k 0#8).toNat := funext hat
    refine ⟨fun k hk => requestOf_unknownKind hk bs, fun k n hk => ?_, fun h => ?_, fun h => ?_, fun h => ?_, fun h => ?_,
      fun k hk => ⟨fun h => ?_, fun h => ?_⟩, fun h => ?_, fun n h hn he => ?_⟩
    · obtain ⟨hkind, hlength⟩ := expectedLength_fixed bs (k, n) hk
      exact requestOf_wrongLength hkind hlength
    · exact requestOf_tooShort (by decide) (by rw [expectedLength_setup, if_pos h])
    · exact requestOf_wrongLength (by decide) (by rw [expectedLength_setup, if_neg (Nat.not_lt.mpr h)])
    · exact requestOf_tooShort (by decide) (by rw [expectedLength_present, if_pos h])
    · exact requestOf_wrongLength (by decide) (by rw [expectedLength_present, if_neg (Nat.not_lt.mpr h)])
    · exact requestOf_tooShort (by rcases hk with rfl | rfl <;> decide) (by rw [expectedLength_deny hk, if_pos h])
    · exact requestOf_wrongLength (by rcases hk with rfl | rfl <;> decide) (by rw [expectedLength_deny hk, if_neg h])
    · exact requestOf_tooShort (by decide) (by rw [h]; rfl)
    · exact requestOf_wrongLength (by decide) ((expectedLength_segment h hn).trans (congrArg some he.symm))

end Sys2Proof.Machine
end

section
/-! SUPPORT. Bodies written by a host and read back (R199, R200, R204), and the sizes of answers and frames (R194, R201, R205). -/

namespace Sys2Proof.Machine

open Sys2Proof

/-! ### The sizes of what is written -/

@[simp] theorem timeBytes_length (t : ServiceTime) : (timeBytes t).length = 6 := by simp [timeBytes]

@[simp] theorem optTime_length (t : Option ServiceTime) : (optTime t).length = 7 := optBytes_length timeBytes_length t

@[simp] theorem noneFF_length (o : Option Nat) : (noneFF o).length = 1 := be_length ..

@[simp] theorem boardingBytes_length (b : LastBoarding) : (boardingBytes b).length = 12 := by simp [boardingBytes]

@[simp] theorem daySpendBytes_length (d : DaySpend) : (daySpendBytes d).length = 4 := by simp [daySpendBytes]

@[simp] theorem kindFieldBytes_length (f : ProductFields) : (kindFieldBytes f).length = 4 := by
  cases f <;> simp [kindFieldBytes, beSigned]

@[simp] theorem productBytes_length (p : Product) : (productBytes p).length = 8 := by simp [productBytes]

@[simp] theorem detailBytes_length (d : EntryDetail) : (detailBytes d).length = 14 := by simp [detailBytes, berthByte, laneByte]

@[simp] theorem outcomeBytes_length (o : DecisionOutcome) : (outcomeBytes o).length = 6 := by
  cases o <;> simp [outcomeBytes]

@[simp] theorem writeBackBytes_length (w : WriteBack) : (writeBackBytes w).length = 26 := by
  simp [writeBackBytes, alwaysBytes_length boardingBytes_length, alwaysBytes_length daySpendBytes_length,
    alwaysBytes_length productBytes_length]

/-- A decision has 56 bytes (R205). -/
theorem decisionBytes_length (d : Decision) : (decisionBytes d).length = 56 := by
  have hfree : (alwaysBytes 2 (fun f : FillReport => beSigned 2 f.free) d.fill).length = 2 :=
    alwaysBytes_length (fun _ => be_length ..) _
  simp [decisionBytes, optBerth, hfree, optBytes_length detailBytes_length]

/-- A trip record has 73 bytes (R23). -/
theorem recordBytes_length (r : TripRecord) : (recordBytes r).length = 73 := by
  have hcause : (causeByte r.closeCause).length = 1 := alwaysBytes_length (fun _ => be_length ..) _
  simp [recordBytes, berthByte, counterBytes, flagsBytes, hcause]

theorem frameBytes_length (kind : Nat) (tag : Byte) (body : List Byte) : (frameBytes kind tag body).length = body.length + 7 := by
  have hcovered := coveredBytes_length kind tag body
  change (coveredBytes kind tag body ++ crcBytes (coveredBytes kind tag body)).length + 1 = _
  rw [List.length_append, hcovered, crcBytes, be_length]
  omega

/-! ### The result code of an answer (R201) -/

theorem head_resultByte (r : ResultCode) (bs : List Byte) : (resultByte r ++ bs).head? = some (BitVec.ofNat 8 r.code) := by
  simp [resultByte, be]

theorem head_clampedBytes (clamped : List FieldName) (bs : List Byte) :
    (clampedBytes clamped bs).head? = some (BitVec.ofNat 8 (if clamped = [] then ResultCode.ok else .okClamped).code) := by
  unfold clampedBytes
  split
  · exact head_resultByte ..
  · rw [List.append_assoc]
    exact head_resultByte ..

theorem head_replyBytes (r : Reply) : r.bytes.head? = some (BitVec.ofNat 8 r.result.code) := by
  cases r with
  | setup clamped st => exact head_clampedBytes ..
  | berthOpen clamped b f st =>
    refine (head_clampedBytes ..).trans ?_
    cases clamped <;> rfl
  | laneLamp clamped sel =>
    refine (head_clampedBytes ..).trans ?_
    cases clamped <;> rfl
  | code r => simp [Reply.bytes, Reply.result, resultByte, be]
  | _ => simp only [Reply.bytes, List.append_assoc, head_resultByte, Reply.result]

/-! ### Reading back (R199, R204) -/

section
variable {xs ys bs : List Byte} {o : Nat}

theorem timeAt_timeBytes {t : ServiceTime} (hd : t.day < 65536) (hs : t.second < 4294967296) (ys : List Byte) :
    timeAt 0 (timeBytes t ++ ys) = t := by
  have hday : numAt 0 2 (timeBytes t ++ ys) = t.day := by
    rw [timeBytes, List.append_assoc]
    exact numAt_here hd _
  have hsecond : numAt 2 4 (timeBytes t ++ ys) = t.second := by
    rw [timeBytes, List.append_assoc, numAt_skip (by simp)]
    exact numAt_here (by simpa using hs) _
  rw [timeAt, hday, hsecond]

/-- A number that may be negative is read back when it fits its field. -/
theorem signedAt_beSigned {n : Int} (hlo : -2147483648 ≤ n) (hhi : n ≤ 2147483647) (hxs : xs.length = o) :
    signedAt o 4 (xs ++ beSigned 4 n) = n := by
  have hnum : numAt o 4 (xs ++ beSigned 4 n) = (n % 4294967296).toNat := by
    rw [numAt_skip hxs.le, hxs, Nat.sub_self, beSigned]
    exact numAt_last (by omega)
  unfold signedAt
  dsimp only
  rw [hnum]
  split <;> omega

/-- A last boarding group is read back at its place. -/
theorem boardingAt_boardingBytes {b : LastBoarding} (h : b.fits = true) (hxs : xs.length = o) (ys : List Byte) :
    boardingAt o (xs ++ (boardingBytes b ++ ys)) = b := by
  simp only [LastBoarding.fits, fits8, fits16, fits32, Bool.and_eq_true, decide_eq_true_eq] at h
  obtain ⟨⟨⟨⟨⟨hday, hsecond⟩, hpontoon⟩, hroute⟩, hride⟩, htransfer⟩ := h
  subst hxs
  simp [boardingAt, boardingBytes, numAt_skip, numAt_here, hday, hsecond, hpontoon, hroute, hride, htransfer]

theorem numAt_cons (b : Byte) (o k : Nat) (bs : List Byte) : numAt (o + 1) k (b :: bs) = numAt o k bs := rfl

/-- A product record of the kinds 0 to 3 is read back. -/
theorem productOf_productBytes {p : Product} (h : p.fits = true) (hk : fieldsKnown p.fields = true) : productOf (productBytes p) = p := by
  obtain ⟨slot, scheme, flags, fields⟩ := p
  simp only [Product.fits, fits8, Bool.and_eq_true, decide_eq_true_eq] at h
  obtain ⟨⟨hslot, hscheme⟩, hfields⟩ := h
  have hhead : (be 1 slot ++ be 1 scheme ++ [flags] ++ be 1 (productKindCode fields)).length = 4 := by simp
  have hkind : productFieldsOf (productBytes ⟨slot, scheme, flags, fields⟩) = fields := by
    have hcode : productKindCode fields < 256 := by cases fields <;> simp_all [productKindCode, fieldsKnown]
    have hread : numAt 3 1 (productBytes ⟨slot, scheme, flags, fields⟩) = productKindCode fields := by
      simp [productBytes, numAt_skip, numAt_cons, numAt_here, hcode]
    unfold productFieldsOf
    rw [hread]
    cases fields with
    | purse b =>
      simp only [ProductFields.fits, fitsSigned32, Bool.and_eq_true, decide_eq_true_eq] at hfields
      exact congrArg ProductFields.purse (signedAt_beSigned hfields.1 hfields.2 hhead)
    | carnet n =>
      simp only [ProductFields.fits, fits8, decide_eq_true_eq] at hfields
      simp [productKindCode, productBytes, kindFieldBytes, numAt_skip, numAt_cons, numAt_here, hfields]
    | allowance d u =>
      simp only [ProductFields.fits, fits8, fits16, Bool.and_eq_true, decide_eq_true_eq] at hfields
      simp [productKindCode, productBytes, kindFieldBytes, numAt_skip, numAt_cons, numAt_here, hfields]
    | pass f u =>
      simp only [ProductFields.fits, fits16, Bool.and_eq_true, decide_eq_true_eq] at hfields
      simp [productKindCode, productBytes, kindFieldBytes, numAt_skip, numAt_cons, numAt_here, numAt_last, hfields]
    | unknown c => exact nomatch hk
  rw [productOf, hkind]
  simp [productBytes, numAt_skip, numAt_here, hslot, hscheme, byteAt]

/-- A last boarding group that may be absent is read back at its place. -/
theorem optAt_optBoarding {b : Option LastBoarding} (h : b.elim true LastBoarding.fits = true) (hxs : xs.length = o) (ys : List Byte) :
    optAt boardingAt o (xs ++ (optBytes 12 boardingBytes b ++ ys)) = b := by
  have hflag (f : Bool) (zs : List Byte) : flagAt o (xs ++ (flagBytes f ++ zs)) = f := by
    rw [flagAt_skip hxs.le, hxs, Nat.sub_self, flagAt_here]
  cases b with
  | none => rw [optAt, optBytes, List.append_assoc, hflag, if_neg (by decide)]
  | some b =>
    rw [optAt, optBytes, List.append_assoc, hflag, if_pos rfl, ← List.append_assoc xs,
      boardingAt_boardingBytes h (by simp [hxs])]

/-- The part of a PRESENT body that stands before its product records. -/
def presentHead (lane : Nat) (c : Credential) : List Byte :=
  be 1 lane ++ be 4 c.card ++ be 1 c.cardState ++ be 1 c.concession ++ optBytes 12 boardingBytes c.lastBoarding ++
  daySpendBytes c.daySpend ++ be 1 c.productCount

theorem presentBody_eq (lane : Nat) (c : Credential) : presentBody lane c = presentHead lane c ++ c.products.flatMap productBytes := rfl

@[simp] theorem presentHead_length (lane : Nat) (c : Credential) : (presentHead lane c).length = 25 := by
  simp [presentHead, optBytes_length boardingBytes_length]

/-- The body of a PRESENT has 25 bytes and 8 for each product (R204). -/
theorem presentBody_length (lane : Nat) (c : Credential) : (presentBody lane c).length = 25 + 8 * c.products.length := by
  have hproducts : (c.products.flatMap productBytes).length = 8 * c.products.length := by
    simp [List.length_flatMap, Nat.mul_comm]
  rw [presentBody_eq, List.length_append, presentHead_length, hproducts]

/-- The numbers of fixed place in the body of a PRESENT (R204). -/
theorem presentBody_numbers {lane : Nat} {c : Credential} (hlane : lane < 256) (h : c.fits = true) :
    numAt 0 1 (presentBody lane c) = lane ∧ numAt 1 4 (presentBody lane c) = c.card ∧ numAt 5 1 (presentBody lane c) = c.cardState ∧
      numAt 6 1 (presentBody lane c) = c.concession ∧ numAt 20 2 (presentBody lane c) = c.daySpend.day ∧
      numAt 22 2 (presentBody lane c) = c.daySpend.spent ∧ numAt 24 1 (presentBody lane c) = c.productCount := by
  simp only [Credential.fits, fits8, fits16, fits32, Bool.and_eq_true, decide_eq_true_eq] at h
  obtain ⟨⟨⟨⟨⟨⟨⟨⟨hcard, hstate⟩, hconcession⟩, -⟩, hday⟩, hspent⟩, hproducts⟩, -⟩, -⟩ := h
  simp [presentBody, daySpendBytes, numAt_skip, numAt_here, optBytes_length boardingBytes_length, hlane, hcard, hstate, hconcession,
    hday, hspent, hproducts]

/-- A credential record whose products are of the kinds 0 to 3 is read back from the body of its PRESENT (R204). -/
theorem credentialOf_presentBody {lane : Nat} {c : Credential} (hlane : lane < 256) (h : c.fits = true)
    (hcount : c.productCount = c.products.length) (hknown : ∀ p ∈ c.products, fieldsKnown p.fields = true) :
    credentialOf (presentBody lane c) = c := by
  obtain ⟨-, hcard, hstate, hconcession, hday, hspent, hproducts⟩ := presentBody_numbers hlane h
  simp only [Credential.fits, Bool.and_eq_true, List.all_eq_true] at h
  obtain ⟨⟨⟨⟨⟨⟨-, hboarding⟩, -⟩, -⟩, -⟩, hfits⟩, -⟩ := h
  have hlast : optAt boardingAt 7 (presentBody lane c) = c.lastBoarding := by
    simp only [presentBody, List.append_assoc]
    exact optAt_optBoarding (xs := be 1 lane ++ (be 4 c.card ++ (be 1 c.cardState ++ be 1 c.concession))) hboarding (by simp) _
  have hrecords : recordsAt productOf 8 25 c.products.length (presentBody lane c) = c.products :=
    recordsAt_flatMap (fun p _ => productBytes_length p) (fun p hp => productOf_productBytes (hfits p hp) (hknown p hp))
      (presentHead_length ..)
  rw [credentialOf, hcard, hstate, hconcession, hlast, hday, hspent, hproducts, hcount, hrecords, ← hcount]

/-! ### The numbers of a deny request (R164, R199) -/

section
variable {cards : List Nat}

theorem denyBody_length (cards : List Nat) : (be 1 cards.length ++ cards.flatMap (be 4)).length = 1 + 4 * cards.length := by
  simp [List.length_flatMap, Nat.mul_comm]

theorem denyBody_count (h : cards.length ≤ 119) : numAt 0 1 (be 1 cards.length ++ cards.flatMap (be 4)) = cards.length :=
  numAt_here (by omega) _

theorem numbersOf_denyBody (h : cards.length ≤ 119) (hfit : ∀ x ∈ cards, x < 4294967296) :
    numbersOf (be 1 cards.length ++ cards.flatMap (be 4)) = cards := by
  rw [numbersOf, denyBody_count h]
  exact recordsAt_flatMap (fun _ _ => be_length ..) (fun x hx => ofBe_be_of_lt (hfit x hx)) (be_length ..)

/-- The body of a DENY_ADD or DENY_REMOVE has the length that its count calls for. -/
theorem requestOf_denyBody {k : Nat} (hk : k = 0x38 ∨ k = 0x39) (h : cards.length ≤ 119) :
    requestOf k (be 1 cards.length ++ cards.flatMap (be 4)) = fieldsOf k (be 1 cards.length ++ cards.flatMap (be 4)) := by
  refine requestOf_agrees (n := 1 + 4 * cards.length) (by rcases hk with rfl | rfl <;> decide) ?_ (by omega) (denyBody_length cards)
  rw [expectedLength_deny hk, ← numAt_one_getD, denyBody_count h, if_neg (by simp [be])]

end

end

/-- Settles O12: each field is read at the place where it was written (`numAt_here`, `numAt_skip`), records one after another
(`recordsAt_flatMap`), and the length of the body is the one its count calls for (`requestOf_agrees`). -/
theorem bodiesRoundTripAndHaveTheirSizes : Obligations.BodiesRoundTripAndHaveTheirSizes := by
  refine ⟨fun tag lane c h hcount hknown => ?_, ⟨fun cards h hfit => ⟨?_, ?_⟩, fun t hd hs => ?_⟩,
    head_replyBytes, fun d => ?_, fun depth waiting record => ?_, frameBytes_length, be_length⟩
  · simp only [Instr.wellFormed, fits8, Bool.and_eq_true, decide_eq_true_eq] at h
    obtain ⟨hlane, hfits⟩ := h
    obtain ⟨hread, -, -, -, -, -, hproducts⟩ := presentBody_numbers hlane hfits
    have hlength : expectedLength 0x30 (presentBody lane c) = some (25 + 8 * c.products.length) := by
      rw [expectedLength_present, ← numAt_one_getD, hproducts, hcount, if_neg (by rw [presentBody_length]; omega)]
    rw [requestOf_agrees (by decide) hlength (by omega) (presentBody_length lane c)]
    simp only [fieldsOf, hread, credentialOf_presentBody hlane hfits hcount hknown]
  · rw [requestOf_denyBody (.inl rfl) h]
    simp only [fieldsOf, denyBody_count h, numbersOf_denyBody h hfit]
  · rw [requestOf_denyBody (.inr rfl) h]
    simp only [fieldsOf, denyBody_count h, numbersOf_denyBody h hfit]
  · rw [requestOf_agrees (n := 6) (by decide) rfl (by decide) (timeBytes_length t)]
    exact congrArg Request.timeMark (by simpa using timeAt_timeBytes hd hs [])
  · rw [Reply.bytes, List.length_append, decisionBytes_length, resultByte, be_length]
  · simp [Reply.bytes, resultByte, recordBytes_length]

end Sys2Proof.Machine
end

section
/-! SUPPORT. What a step runs when a command waits. -/

namespace Sys2Proof.Machine

open Sys2Proof

/-- A step with a command waiting is that command, run on the state with the rest of the queue (log 1). -/
theorem step_of_pending {s : State} {c : Instr} {rest : List Instr} (h : s.pending = c :: rest) :
    step s = exec c { s with pending := rest } := by
  rw [step, h]

/-- Settles O1: the queue's rest is the queue that `s` already has, so what remains after taking the command is `s`. -/
theorem stepRunsTheFrontCommand : Obligations.StepRunsTheFrontCommand := fun c s =>
  step_of_pending (s := { s with pending := c :: s.pending }) (c := c) (rest := s.pending) rfl

end Sys2Proof.Machine
end
